-- ==== Sys2Proof/Word.lean ====
section
/-! DEFINITION. The words of the Nalvor 740: bytes on the loop, 16-bit words in the store, crossing times. -/

namespace Sys2Proof

/-- One byte of a telegram, a table entry or a record as read out (11_telegram_and_table_layouts). -/
abbrev Byte := BitVec 8

/-- One word of the store image (R183). -/
abbrev Word := BitVec 16

/-- Crossing time: a count of milliseconds modulo 2^32 (00_scope, "Crossing time"). -/
abbrev Time := BitVec 32

end Sys2Proof
end

