-- ==== Sys2Proof/Config.lean ====
section
/-! DEFINITION. The figures the manual fixes for every Nalvor 740. The manual leaves no VALUE open that an
event of the model computes, so no free value is declared here (NOTES.md, "Free values"). -/

namespace Sys2Proof.Config

/-- The service address, answered on while the tables are invalid (R163). -/
def serviceAddress : Nat := 254
/-- The "all" address (R162). -/
def allAddress : Nat := 255
/-- The largest payload of a telegram, in bytes (R161). -/
def payloadMax : Nat := 60
/-- Telegrams a forward buffer holds (R164). -/
def forwardCap : Nat := 4
/-- Forwarded starts an arbiter allows before an inserted telegram (R165). -/
def runLimit : Nat := 4
/-- Replies an insertion queue holds (R167). -/
def replyCap : Nat := 7
/-- Commands the command queue holds (R169). -/
def commandCap : Nat := 8
/-- Records the fault table holds (R140). -/
def faultCap : Nat := 32
/-- Records a passage bank holds (R156). -/
def bankCap : Nat := 16
/-- The largest axle count of a section (R23). -/
def axleMax : Nat := 254
/-- The largest valid wheel speed, in cm/s (R40). -/
def speedMax : Nat := 8000
/-- Wheels of a group that are measured (R41). -/
def groupWheels : Nat := 4
/-- The conversion code of full scale (R131). -/
def codeMax : Nat := 4095
/-- The unit in which the model takes an analogue input: sixteenths of a conversion code at gain 1 (DESIGN CHOICE, log
entry 15). -/
def levelsPerCode : Nat := 16
/-- The hysteresis of the battery faults, in mV (R137). -/
def batteryHysteresis : Nat := 200
/-- The longest scan cycle validation admits, in ms (R129). -/
def scanCycleMax : Nat := 200
/-- The smallest usable span of angle codes (R106, R107). -/
def spanMin : Nat := 400
/-- A down contact above this position disagrees, in per-mille (R110). -/
def falseDownPos : Nat := 200
/-- An up contact below this position disagrees, in per-mille (R110). -/
def falseUpPos : Nat := 800
/-- How long a disagreement is tolerated, in ms (R110). -/
def disagreeTime : Nat := 1000
/-- The REVERSE pause, in ms (R118). -/
def reversePause : Nat := 300
/-- The TRIPPED pause, in ms (R119). -/
def tripPause : Nat := 2000
/-- Over-current restarts of one order (R119, R120). -/
def retryMax : Nat := 3
/-- The limit of one calibration movement, in ms (R124). -/
def calibrationLimit : Nat := 30000
/-- Angle results read at each end by a calibration (R124). -/
def calibrationReads : Nat := 4
/-- The red time before the first LOWER step, in ms (R68). -/
def redLeadTime : Nat := 2000
/-- The words of the store image (R191). -/
def imageWords : Nat := 426
/-- The word writes of one save run: format 0, length, 423 table words, check, format 1 (R185). -/
def saveWrites : Nat := 427

end Sys2Proof.Config
end

