-- ==== Sys2Proof/Syntax.lean ====
section
/-! DEFINITION. The commands of the block: one constructor for each row of spec/opcode_table.json, with the
operands the manual gives the event. -/

namespace Sys2Proof

/-- The two loop ports (09, 9.1). -/
inductive Port where
  | a
  | b
  deriving DecidableEq, Repr

/-- The two road sides, North (0) and South (1) (00_scope, "Indices and names"). -/
inductive Side where
  | north
  | south
  deriving DecidableEq, Repr

/-- The levels of the analogue inputs AIN0 to AIN23 at one moment, in sixteenths of a conversion code at gain 1 (7.1,
R131; log entry 15). -/
abbrev AnalogueLevels := Vector (BitVec 16) 24

/-- The two ends of a barrier's travel (06). -/
inductive BarrierEnd where
  | down
  | up
  deriving DecidableEq, Repr

/-- The steps of the part, one for each row of spec/opcode_table.json.

`dt` is the crossing time that has gone by since the event before this one, in ms: the event is taken at
`now + dt`. The command steps (POLL to UNANSWERABLE_COMMAND) are the COMPLETION of the command in progress
(R171), so the command's source, tag and arguments stand in the command processor, not in the constructor.
`written` says how many word writes a save run under way had made when the event cut it off (R185); it is
read only then. -/
inductive Instr where
  -- start and supply
  | powerUp (written : Nat)
  | resetLineHeld (written : Nat)
  | resetLineRelease (written : Nat)
  | loadingComplete (dt : Time) (answers : Bool)
  -- the loop
  | telegramReception (dt : Time) (port : Port) (frame : List Byte)
  | wheelTelegram (dt : Time)
  | healthTelegram (dt : Time)
  | transmissionComplete (dt : Time) (port : Port) (written : Nat)
  -- the completion of each command
  | poll (dt : Time)
  | faultRead (dt : Time)
  | faultAccept (dt : Time)
  | closeRequest (dt : Time)
  | restore (dt : Time)
  | takeOutOfUse (dt : Time)
  | returnToUse (dt : Time)
  | resetSection (dt : Time)
  | depart (dt : Time)
  | passageRead (dt : Time)
  | tableWrite (dt : Time)
  | tableRead (dt : Time)
  | saveTables (dt : Time)
  | restart (dt : Time) (written : Nat)
  | calibrate (dt : Time)
  | calibrateCancel (dt : Time)
  | lampTest (dt : Time)
  | measureRead (dt : Time)
  | passageClose (dt : Time)
  | passageRelease (dt : Time)
  | unknownCommand (dt : Time)
  | unanswerableCommand (dt : Time)
  -- timer expiries of the train side
  | headSilenceExpiry (dt : Time) (head : Fin 16)
  | deadlineExpiry (dt : Time) (approach : Fin 4)
  -- timer expiries of the crossing
  | waitExpiry (dt : Time)
  | permitLapse (dt : Time)
  | openDelayExpiry (dt : Time)
  | exitDelayExpiry (dt : Time)
  | longClosureExpiry (dt : Time)
  -- timer expiries of the lamps
  | halfPeriodExpiry (dt : Time)
  | darkTimerExpiry (dt : Time) (side : Side)
  | lampTestSlotEnd (dt : Time)
  -- timer expiries of the barriers
  | startPhaseExpiry (dt : Time) (barrier : Fin 4)
  | reversePauseExpiry (dt : Time) (barrier : Fin 4)
  | trippedPauseExpiry (dt : Time) (barrier : Fin 4)
  | travelExpiry (dt : Time) (barrier : Fin 4)
  | disagreementTimerExpiry (dt : Time) (barrier : Fin 4)
  | calibrationLimitExpiry (dt : Time)
  -- inputs of the road side
  | contactChange (dt : Time) (barrier : Fin 4) (contact : BarrierEnd) (closed : Bool)
  | strobe (dt : Time) (inputs : Vector AnalogueLevels 8)
  | quietEndExpiry (dt : Time)
  -- reporting and the store
  | statusDueExpiry (dt : Time)
  | linkEndExpiry (dt : Time)
  | saveRunComplete (dt : Time) (readBack : List Word)
  | supplyFailure (written : Nat)
  deriving DecidableEq, Repr

end Sys2Proof
end

