-- ==== Sys2Proof/WellFormed.lean ====
section
/-! DEFINITION. What makes a command well formed: its operands lie where the manual lets them lie. The meanings
are total and do not need it. -/

namespace Sys2Proof

/-- Every span the part times is below 2^31 ms (00_scope, "Crossing time"). -/
def spanOk (dt : Time) : Bool := decide (dt.toNat < 2 ^ 31)

/-- A save run makes at most 427 word writes (R185). -/
def writtenOk (written : Nat) : Bool := decide (written ≤ Config.saveWrites)

/-- A read-back reads every word of the image (R185). -/
def readBackOk (readBack : List Word) : Bool := decide (readBack.length = Config.imageWords)

/-- The time that goes by before a command is taken; none for the supply and reset lines, which do not run on
crossing time. -/
def Instr.elapsed : Instr → Option Time
  | .powerUp _ | .resetLineHeld _ | .resetLineRelease _ | .supplyFailure _ => none
  | .loadingComplete dt _ | .telegramReception dt _ _ | .wheelTelegram dt | .healthTelegram dt => some dt
  | .transmissionComplete dt _ _ | .poll dt | .faultRead dt | .faultAccept dt | .closeRequest dt => some dt
  | .restore dt | .takeOutOfUse dt | .returnToUse dt | .resetSection dt | .depart dt => some dt
  | .passageRead dt | .tableWrite dt | .tableRead dt | .saveTables dt | .restart dt _ => some dt
  | .calibrate dt | .calibrateCancel dt | .lampTest dt | .measureRead dt | .passageClose dt => some dt
  | .passageRelease dt | .unknownCommand dt | .unanswerableCommand dt => some dt
  | .headSilenceExpiry dt _ | .deadlineExpiry dt _ | .waitExpiry dt | .permitLapse dt => some dt
  | .openDelayExpiry dt | .exitDelayExpiry dt | .longClosureExpiry dt | .halfPeriodExpiry dt => some dt
  | .darkTimerExpiry dt _ | .lampTestSlotEnd dt | .startPhaseExpiry dt _ | .reversePauseExpiry dt _ => some dt
  | .trippedPauseExpiry dt _ | .travelExpiry dt _ | .disagreementTimerExpiry dt _ => some dt
  | .calibrationLimitExpiry dt | .contactChange dt _ _ _ | .strobe dt _ | .quietEndExpiry dt => some dt
  | .statusDueExpiry dt | .linkEndExpiry dt | .saveRunComplete dt _ => some dt

/-- The progress of a cut save run that a command carries. -/
def Instr.writtenWords : Instr → Option Nat
  | .powerUp w | .resetLineHeld w | .resetLineRelease w | .supplyFailure w => some w
  | .transmissionComplete _ _ w | .restart _ w => some w
  | _ => none

/-- The read-back a command carries. -/
def Instr.readBackWords : Instr → Option (List Word)
  | .saveRunComplete _ r => some r
  | _ => none

/-- A well-formed command. -/
def Instr.wellFormed (i : Instr) : Bool :=
  i.elapsed.all spanOk && i.writtenWords.all writtenOk && i.readBackWords.all readBackOk

end Sys2Proof
end

