-- ==== Sys2Proof/Machine/State.lean ====
section
/-! DEFINITION. Everything the manual says the Nalvor 740 holds, as plain data, and its value right after a
cold start has begun. -/

namespace Sys2Proof.Machine

/-! ## Names shared by several blocks -/

/-- A value per road side. -/
structure PerSide (α : Type) where
  north : α
  south : α
  deriving DecidableEq, Repr

/-- The value of one road side. -/
def PerSide.get {α : Type} (p : PerSide α) : Side → α
  | .north => p.north
  | .south => p.south

/-- The pair with one road side's value replaced. -/
def PerSide.set {α : Type} (p : PerSide α) (side : Side) (x : α) : PerSide α :=
  match side with
  | .north => { p with north := x }
  | .south => { p with south := x }

/-- The direction of a wheel against the crossing (R4). -/
inductive Direction where
  | toward
  | away
  deriving DecidableEq, Repr

/-- The run state of a calibration, a lamp test or a save (R100, R123, R184). -/
inductive RunState where
  | idle
  | running
  | donePass
  | doneFail
  deriving DecidableEq, Repr

/-! ## The eleven tables (10.1) -/

/-- The role a NODE entry grants (9.7). -/
inductive Role where
  | signaller
  | maintenance
  deriving DecidableEq, Repr

/-- One NODE entry (9.7). -/
structure NodeEntry where
  inService : Bool
  address : Nat
  role : Role
  deriving DecidableEq, Repr

/-- The PARAMETERS record (10.2). -/
structure Params where
  headTimeout : Nat
  groupGap : Nat
  flashPeriod : Nat
  lampBaseDuty : Nat
  vNominal : Nat
  batteryLow : Nat
  batteryCritical : Nat
  batteryEntry : Nat
  batterySpan : Nat
  audibleEntry0 : Nat
  audibleEntry1 : Nat
  openDelay : Nat
  minOpen : Nat
  longClosure : Nat
  exitDelayFailed : Nat
  statusPeriod : Nat
  signallerTimeout : Nat
  scanStrobe : Nat
  quietDivisor : Nat
  quietAfter : Nat
  ownAddress : Nat
  signallerPort : Port
  deriving DecidableEq, Repr

/-- The role of a detection head (1.2). -/
inductive HeadRole where
  | counting
  | timingOnly
  deriving DecidableEq, Repr

/-- The order in which a wheel crosses the two sensors of a head (1.1). -/
inductive SensorOrder where
  | s1First
  | s2First
  deriving DecidableEq, Repr

/-- One entry of the Detection Point Table (1.2). -/
structure DptEntry where
  inService : Bool
  address : Nat
  track : Nat
  role : HeadRole
  spacing : Nat
  towardSense : SensorOrder
  deriving DecidableEq, Repr

/-- The kind of a section (2.1). -/
inductive SectionKind where
  | approach
  | island
  deriving DecidableEq, Repr

/-- One boundary of a section (2.1). `head` is a reference, stored as written (R16). -/
structure Boundary where
  head : Nat
  entering : Direction
  deriving DecidableEq, Repr

/-- One entry of the section table (2.1). -/
structure SectionEntry where
  inService : Bool
  kind : SectionKind
  track : Nat
  boundaries : List Boundary
  deriving DecidableEq, Repr

/-- One timing head of an approach (3.1). -/
structure TimingHead where
  head : Nat
  distance : Nat
  haltSide : Bool
  deriving DecidableEq, Repr

/-- One entry of the approach table (3.1). -/
structure ApproachEntry where
  inService : Bool
  track : Nat
  approachSection : Nat
  islandSection : Nat
  timingHeads : List TimingHead
  clearMargin : Nat
  loopAllow : Nat
  holdMax : Nat
  vCreep : Nat
  vHalt : Nat
  vFinal : Nat
  vLine : Nat
  deriving DecidableEq, Repr

/-- The kinds of program step (R63), in the order of their codes (11.6). -/
inductive StepKind where
  | finish
  | amber
  | red
  | dark
  | soundOn
  | soundOff
  | lowerEntry
  | lowerExit
  | raiseEntry
  | raiseExit
  | wait
  | waitDown
  | waitUp
  deriving DecidableEq, Repr

/-- One program step; `finish` is END, `count` the n of WAIT (R63, R64). -/
structure ProgramStep where
  kind : StepKind
  count : Nat
  deriving DecidableEq, Repr

/-- The role of a barrier (6.1). -/
inductive BarrierRole where
  | entry
  | exit
  deriving DecidableEq, Repr

/-- One entry of the barrier table (6.1). -/
structure BarrierEntry where
  inService : Bool
  role : BarrierRole
  roadSide : Side
  angleEntry : Nat
  currentEntry : Nat
  ratedDuty : Nat
  overdriveDuty : Nat
  startMs : Nat
  clampDuty : Nat
  brakePos : Nat
  brakeDuty : Nat
  loopGain : Nat
  closedLoop : Bool
  downWindow : Nat
  upWindow : Nat
  upCode : Nat
  downCode : Nat
  travelDown : Nat
  travelUp : Nat
  peakCurrent : Nat
  deriving DecidableEq, Repr

/-- The colour of a lamp (5.1). -/
inductive Colour where
  | red
  | amber
  deriving DecidableEq, Repr

/-- A flash phase (5.1). -/
inductive Phase where
  | a
  | b
  deriving DecidableEq, Repr

/-- One entry of the lamp table (5.1). -/
structure LampEntry where
  inService : Bool
  roadSide : Side
  colour : Colour
  phase : Phase
  scanEntry : Nat
  deriving DecidableEq, Repr

/-- One entry of the scan list (7.1). -/
structure ScanEntry where
  inService : Bool
  channel : Nat
  gain : Nat
  blockCount : Nat
  lowThreshold : Nat
  highThreshold : Nat
  deriving DecidableEq, Repr

/-- The eleven tables, in table id order (10.1). -/
structure Tables where
  node : Vector NodeEntry 4
  params : Params
  dpt : Vector DptEntry 16
  sectionTable : Vector SectionEntry 8
  approach : Vector ApproachEntry 4
  closing : Vector ProgramStep 12
  opening : Vector ProgramStep 12
  barrier : Vector BarrierEntry 4
  lamp : Vector LampEntry 12
  scan : Vector ScanEntry 24
  reportMask : Vector Bool 26
  deriving DecidableEq, Repr

/-- The figures derived at a successful validation (R181). -/
structure Derived where
  lClose : Nat
  tReq : Vector Nat 4
  rOpen : Nat
  deriving DecidableEq, Repr

/-- The Table Manager (R174, R184). `ownValidated` is the own_address passed at the last successful validation
(R163); `saveImage` the image a running save writes (R185). -/
structure TableManager where
  tables : Tables
  valid : Bool
  ownValidated : Nat
  derived : Option Derived
  saveRun : RunState
  saveImage : List Word
  deriving DecidableEq, Repr

/-! ## Fault records (08, 8.1) -/

/-- The fault codes, in the order of their numbers (8.1). -/
inductive FaultCode where
  | headLost
  | headFault
  | countSkip
  | sectionDisturbed
  | sectionReset
  | overspeed
  | untimeable
  | reversal
  | shortWarning
  | longClosure
  | lampFail
  | lampStuckOn
  | roadSideDark
  | audibleFail
  | barrierOvercurrent
  | barrierStall
  | barrierTimeout
  | barrierDisagree
  | feedbackLost
  | calibrationFailed
  | batteryLow
  | batteryCritical
  | signallerLinkLost
  | tableInvalid
  | passageOverrun
  | coldStart
  deriving DecidableEq, Repr

/-- The fault classes, from least to most serious (8.1). -/
inductive FaultClass where
  | notice
  | degraded
  | alarm
  deriving DecidableEq, Repr

/-- The kinds of fault (8.1). -/
inductive FaultKind where
  | condition
  | event
  deriving DecidableEq, Repr

/-- The states of a fault record (R140). -/
inductive RecordState where
  | active
  | latched
  | acceptedActive
  deriving DecidableEq, Repr

/-- The reason a calibration failed (R125). -/
inductive CalReason where
  | span
  | travel
  | current
  deriving DecidableEq, Repr

/-- One fault record (R140). Its class and kind are those of its code (`FaultCode.cls`, `FaultCode.kind`). -/
structure FaultRecord where
  code : FaultCode
  subject : Option Nat
  state : RecordState
  firstTime : Time
  lastTime : Time
  occurrences : Nat
  detail : Option CalReason
  deriving DecidableEq, Repr

/-- The Fault Recorder: the fault table, oldest first, and the records-dropped flag (R140, R144). -/
structure FaultRecorder where
  records : List FaultRecord
  dropped : Bool
  deriving DecidableEq, Repr

/-! ## The loop node (09) -/

/-- A telegram the part itself originates, waiting in an insertion queue or on its way (R167). The frame is
stored as it will be sent. `newFault` and `overflow` say what a status telegram carries (R166); `restart` marks
the reply whose sending begins a cold start (R186). -/
inductive Inserted where
  | status (frame : List Byte) (newFault overflow : Bool)
  | reply (frame : List Byte) (restart : Bool)
  deriving DecidableEq, Repr

/-- A transmission under way on a port (R165). -/
inductive Sending where
  | forwarded (frame : List Byte)
  | inserted (telegram : Inserted)
  deriving DecidableEq, Repr

/-- One output port: forward buffer, insertion queue, run count and the transmission under way (R164, R165,
R167). -/
structure OutPort where
  forward : List (List Byte)
  insertion : List Inserted
  run : Nat
  sending : Option Sending
  deriving DecidableEq, Repr

/-- A command in the command queue or in the processor (R169). -/
structure QueuedCommand where
  port : Port
  arrival : Time
  source : Nat
  payload : List Byte
  deriving DecidableEq, Repr

/-- The two kinds of telegram that reach the Head Monitor (R1). -/
inductive ObservedKind where
  | wheel
  | health
  deriving DecidableEq, Repr

/-- A wheel or health telegram the LNU has passed to the Head Monitor (R1). -/
structure Observed where
  kind : ObservedKind
  source : Nat
  payload : List Byte
  arrival : Time
  deriving DecidableEq, Repr

/-- The Loop Node Unit and the command processor (R164 to R171). `passed` holds the telegrams passed to the Head
Monitor and not yet taken by it, oldest first; `restarting` says that the command in the processor is a RESTART
whose reply has been placed (R186). -/
structure LoopNode where
  portA : OutPort
  portB : OutPort
  queue : List QueuedCommand
  processor : Option QueuedCommand
  restarting : Bool
  overflow : Bool
  lateDiscard : Bool
  passed : List Observed
  deriving DecidableEq, Repr

/-! ## The train side (01 to 03) -/

/-- The states of a head record (1.3). -/
inductive HeadState where
  | unseen
  | live
  | lost
  | faulty
  deriving DecidableEq, Repr

/-- One head record (1.3). -/
structure HeadRecord where
  state : HeadState
  lastCount : Option Byte
  lastSeen : Time
  wasFaulty : Bool
  deriving DecidableEq, Repr

/-- The states of a section record (2.2). -/
inductive SectionState where
  | clear
  | occupied
  | disturbed
  | restoring
  deriving DecidableEq, Repr

/-- One section record (2.2). -/
structure SectionRecord where
  state : SectionState
  count : Option Nat
  raised : Bool
  deriving DecidableEq, Repr

/-- The states of an approach record (3.3). -/
inductive ApproachState where
  | idle
  | tracking
  | armed
  | deferred
  | struck
  deriving DecidableEq, Repr

/-- The causes of a strike (3.3). -/
inductive StrikeCause where
  | timed
  | immediate
  | fallback
  | untimeable
  | depart
  | disturbed
  deriving DecidableEq, Repr

/-- The group context of an approach (3.3). -/
structure GroupContext where
  groupHead : Option Nat
  tFirst : Time
  wheelsUsed : Nat
  vE : Option Nat
  lastWheelTime : Time
  overspeedEntered : Bool
  deriving DecidableEq, Repr

/-- One approach record (3.3). -/
structure ApproachRecord where
  state : ApproachState
  deadline : Option Time
  deadlineHead : Option Nat
  group : GroupContext
  strikeCause : Option StrikeCause
  strikeTime : Option Time
  vEAtStrike : Option Nat
  islandSeen : Bool
  islandEntryTime : Option Time
  deriving DecidableEq, Repr

/-! ## The crossing record (4.1) -/

/-- The crossing states (4.1). -/
inductive CrossingState where
  | outOfUse
  | isOpen
  | closing
  | closed
  | opening
  | failed
  deriving DecidableEq, Repr

/-- The program being run (4.1). -/
inductive Program where
  | none
  | closing
  | opening
  deriving DecidableEq, Repr

/-- What the current step waits for (4.1). -/
inductive StepWait where
  | none
  | time
  | redProved
  | allDown
  | allUp
  deriving DecidableEq, Repr

/-- The road aspect (4.1). -/
inductive Aspect where
  | dark
  | amber
  | red
  deriving DecidableEq, Repr

/-- The crossing record (4.1). `longReported` says that LONG_CLOSURE has been reported for the present
`closedSince` (R79). -/
structure CrossingRecord where
  state : CrossingState
  program : Program
  step : Option Nat
  stepWait : StepWait
  waitEnd : Option Time
  closureRequest : Bool
  openDelayEnd : Option Time
  permitLapse : Option Time
  exitDelayEnd : Option Time
  closedSince : Option Time
  longReported : Bool
  aspect : Aspect
  sound : Bool
  proved : Bool
  deriving DecidableEq, Repr

/-! ## The Lamp Controller (05) -/

/-- How a lamp is driven (5.2). -/
inductive LampMode where
  | dark
  | steady
  | flash
  deriving DecidableEq, Repr

/-- One lamp record (5.2). `stuckOn` says that LAMP_STUCK_ON is present (R97). -/
structure LampRecord where
  mode : LampMode
  modeSince : Time
  proved : Bool
  unproved : Nat
  intervalStart : Option Time
  intervalEnd : Option Time
  intervalOk : Bool
  stuckOn : Bool
  deriving DecidableEq, Repr

/-- The proving record of one audible warning (R102). -/
structure AudibleRecord where
  soundSince : Time
  unproved : Nat
  deriving DecidableEq, Repr

/-- The lamp test run (R100, R101). -/
structure LampTest where
  run : RunState
  lamp : Option (Fin 12)
  slotEnd : Option Time
  allPassed : Bool
  deriving DecidableEq, Repr

/-- The Lamp Controller (5.2 to 5.5). `aspect` and `sound` are what the Sequencer last handed on; `phase` and
`phaseEnd` are the flash generator (R90); `darkEnd` the dark timers (R99). -/
structure LampController where
  lamps : Vector LampRecord 12
  aspect : Aspect
  sound : Bool
  phase : Option Phase
  phaseEnd : Option Time
  duty : Option Nat
  redProved : PerSide Bool
  darkEnd : PerSide (Option Time)
  audible : Vector AudibleRecord 2
  test : LampTest
  deriving DecidableEq, Repr

/-! ## The Barrier Controller (06) -/

/-- The phases of a barrier (6.3). -/
inductive BarrierPhase where
  | idle
  | held
  | start
  | run
  | brake
  | settle
  | reverse
  | tripped
  | stalled
  | atEnd
  deriving DecidableEq, Repr

/-- The phase a SETTLE was entered from (6.3). -/
inductive SettleFrom where
  | start
  | run
  | brake
  deriving DecidableEq, Repr

/-- What a motor output is driven with (6.3). -/
inductive Drive where
  | off
  | on (direction : BarrierEnd) (duty : Nat)
  deriving DecidableEq, Repr

/-- One barrier record (6.3). `target` absent is NONE. `disagreeing` says that a disagreement has begun and not
ended (R110); `feedbackLost` that FEEDBACK_LOST is present (R109); `underway` that a movement is under way, the span from
the entry to START up to AT_END, a stop order or an opposite order (6.3), which a gated HELD or a pause does not end. -/
structure BarrierRecord where
  target : Option BarrierEnd
  phase : BarrierPhase
  drive : Drive
  phaseEnd : Option Time
  moveStart : Option Time
  runOrigin : Option Nat
  runStart : Option Time
  openLoopOnly : Bool
  retries : Nat
  travelEnd : Option Time
  position : Option Nat
  provedDown : Bool
  provedUp : Bool
  settleFrom : Option SettleFrom
  disagreeEnd : Option Time
  disagreeing : Bool
  feedbackLost : Bool
  underway : Bool
  deriving DecidableEq, Repr

/-- The contact inputs of one barrier: true is closed (00_scope, "Connections and supply"). -/
structure Contacts where
  up : Bool
  down : Bool
  deriving DecidableEq, Repr

/-- The stages of a calibration (R124). -/
inductive CalStage where
  | seekUp
  | readUp
  | lower
  | readDown
  | raise
  deriving DecidableEq, Repr

/-- The barrier under calibration and the figures gathered for it (R124). `since` is the end of the stage before,
`driveStart` and `limit` the start and the 30,000 ms limit of the movement. -/
structure CalBarrier where
  barrier : Fin 4
  stage : CalStage
  since : Time
  driveStart : Option Time
  limit : Option Time
  codes : List Nat
  upCode : Nat
  downCode : Nat
  travelDown : Nat
  peakCurrent : Nat
  deriving DecidableEq, Repr

/-- The calibration run (R123, R124): the barrier being taken, those still to come and whether all passed. -/
structure CalibrationRun where
  run : RunState
  current : Option CalBarrier
  remaining : List (Fin 4)
  allPassed : Bool
  deriving DecidableEq, Repr

/-! ## The Proving Scanner (07) -/

/-- The strobe rates (7.3). -/
inductive Rate where
  | normal
  | quiet
  deriving DecidableEq, Repr

/-- The class of a result (R132). -/
inductive ResultClass where
  | low
  | inRange
  | high
  deriving DecidableEq, Repr

/-- One present result (7.2). -/
structure ScanResult where
  code : Nat
  cls : ResultClass
  overrange : Bool
  startTime : Time
  endTime : Time
  deriving DecidableEq, Repr

/-- The Proving Scanner (7.2 to 7.4). A block is in progress exactly while `blockStart` is present.
`batteryLow` and `batteryCritical` say that the faults are present (R137). -/
structure Scanner where
  nextStrobe : Option Time
  position : Option (Fin 24)
  blockStart : Option Time
  rate : Rate
  quietEnd : Option Time
  results : Vector (Option ScanResult) 24
  vBat : Option Nat
  batteryLow : Bool
  batteryCritical : Bool
  deriving DecidableEq, Repr

/-! ## The Report Unit (08, 8.4 and 8.5) -/

/-- The highest class of the present faults (R151). -/
inductive HighestClass where
  | none
  | notice
  | degraded
  | alarm
  deriving DecidableEq, Repr

/-- The state of a section as status shows it (R151). -/
inductive SectionStatus where
  | clear
  | occupied
  | disturbed
  | restoringZero
  | restoringAbove
  | outOfService
  deriving DecidableEq, Repr

/-- The states of a passage bank (8.5). -/
inductive BankState where
  | empty
  | filling
  | ready
  deriving DecidableEq, Repr

/-- The status content (R151). An approach out of service is `none`. -/
structure StatusContent where
  crossing : CrossingState
  proved : Bool
  closureRequest : Bool
  approaches : Vector (Option ApproachState) 4
  sections : Vector SectionStatus 8
  highest : HighestClass
  activeCount : Nat
  latchedCount : Nat
  acceptedCount : Nat
  newFault : Bool
  dropped : Bool
  overflow : Bool
  calibration : RunState
  lampTest : RunState
  saveRun : RunState
  bank0 : BankState
  bank1 : BankState
  vBat : Option Nat
  deriving DecidableEq, Repr

/-- One passage record (R56). -/
structure PassageRecord where
  approach : Fin 4
  strikeCause : StrikeCause
  strikeTime : Time
  vEAtStrike : Option Nat
  islandEntryTime : Option Time
  releaseTime : Time
  achievedWarning : Option Time
  shortWarning : Bool
  deriving DecidableEq, Repr

/-- One passage bank (8.5). -/
structure Bank where
  state : BankState
  records : List PassageRecord
  deriving DecidableEq, Repr

/-- The Report Unit (R152 to R156). -/
structure ReportUnit where
  newFault : Bool
  fresh : Bool
  lastStatus : Option StatusContent
  statusDue : Option Time
  linkEnd : Option Time
  bank0 : Bank
  bank1 : Bank
  deriving DecidableEq, Repr

/-! ## The machine -/

/-- What one block has handed another within the event being taken, and the other has not yet taken. It is the
model's own field: between two events nothing is in it. `alarm` is the ALARM notice (R145), `status` the request
for a status telegram (R153), `wheel` that a wheel event was formed (R134). -/
structure Handed where
  alarm : Bool
  status : Bool
  wheel : Bool
  deriving DecidableEq, Repr

/-- The Nalvor 740, its store and its input lines. `store` is the external configuration memory (R183),
`contacts` the contact inputs, `supply` and `resetHeld` the supply and the reset line (R186), `loading` that
cold start loading is under way (R187), `pending` the commands waiting to be taken, first in first out. -/
structure State where
  supply : Bool
  resetHeld : Bool
  loading : Bool
  now : Time
  store : List Word
  contacts : Vector Contacts 4
  tm : TableManager
  lnu : LoopNode
  heads : Vector HeadRecord 16
  sections : Vector SectionRecord 8
  approaches : Vector ApproachRecord 4
  crossing : CrossingRecord
  lamp : LampController
  barriers : Vector BarrierRecord 4
  cal : CalibrationRun
  scan : Scanner
  faults : FaultRecorder
  report : ReportUnit
  handed : Handed
  pending : List Instr
  deriving DecidableEq, Repr

/-- No command of the block stops it with a fault: the manual gives every event an effect, and an event whose
condition does not hold does nothing. Closed and empty. Safe: nothing is stopped. -/
inductive Fault where
  deriving DecidableEq, Repr

/-- Why a command has no meaning. -/
inductive Refusal where
  /-- Raised by an arm of `exec` that has no meaning yet, by no meaning itself. Safe: the model stops. -/
  | notModelled (mnemonic : String)
  deriving DecidableEq, Repr

/-! ## Blank tables (R174) -/

/-- Every entry out of service, every ranged field at its lowest value, every coded field at its first value,
every reference 0, every step END, every mask flag clear (R174). -/
def Tables.blank : Tables where
  node := Vector.replicate 4 { inService := false, address := 1, role := .signaller }
  params :=
    { headTimeout := 1000, groupGap := 2000, flashPeriod := 800, lampBaseDuty := 50, vNominal := 10000,
      batteryLow := 5000, batteryCritical := 5000, batteryEntry := 0, batterySpan := 1000,
      audibleEntry0 := 0, audibleEntry1 := 0, openDelay := 0, minOpen := 0, longClosure := 60000,
      exitDelayFailed := 0, statusPeriod := 1000, signallerTimeout := 2000, scanStrobe := 1,
      quietDivisor := 1, quietAfter := 10000, ownAddress := 1, signallerPort := .a }
  dpt := Vector.replicate 16
    { inService := false, address := 1, track := 1, role := .counting, spacing := 80, towardSense := .s1First }
  sectionTable := Vector.replicate 8
    { inService := false, kind := .approach, track := 1, boundaries := [{ head := 0, entering := .toward }] }
  approach := Vector.replicate 4
    { inService := false, track := 1, approachSection := 0, islandSection := 0,
      timingHeads := [{ head := 0, distance := 20, haltSide := true }],
      clearMargin := 0, loopAllow := 0, holdMax := 10000, vCreep := 100, vHalt := 100, vFinal := 100,
      vLine := 500 }
  closing := Vector.replicate 12 { kind := .finish, count := 0 }
  opening := Vector.replicate 12 { kind := .finish, count := 0 }
  barrier := Vector.replicate 4
    { inService := false, role := .entry, roadSide := .north, angleEntry := 0, currentEntry := 0,
      ratedDuty := 20, overdriveDuty := 20, startMs := 0, clampDuty := 50, brakePos := 0, brakeDuty := 0,
      loopGain := 0, closedLoop := true, downWindow := 0, upWindow := 900, upCode := 0, downCode := 0,
      travelDown := 2000, travelUp := 2000, peakCurrent := 0 }
  lamp := Vector.replicate 12
    { inService := false, roadSide := .north, colour := .red, phase := .a, scanEntry := 0 }
  scan := Vector.replicate 24
    { inService := false, channel := 0, gain := 1, blockCount := 1, lowThreshold := 0, highThreshold := 0 }
  reportMask := Vector.replicate 26 false

/-! ## The cold-start values of each block -/

/-- R3. -/
def HeadRecord.cold : HeadRecord := { state := .unseen, lastCount := none, lastSeen := 0, wasFaulty := false }

/-- R19. -/
def SectionRecord.cold : SectionRecord := { state := .disturbed, count := none, raised := false }

/-- The empty group context. R37 gives group_head, wheels_used, v_e and overspeed_entered; t_first and last_wheel_time
are 0, which is the model's choice and which nothing reads while group_head is absent (DESIGN CHOICE, log entry 34). -/
def GroupContext.cold : GroupContext :=
  { groupHead := none, tFirst := 0, wheelsUsed := 0, vE := none, lastWheelTime := 0, overspeedEntered := false }

/-- R37. -/
def ApproachRecord.cold : ApproachRecord :=
  { state := .idle, deadline := none, deadlineHead := none, group := .cold, strikeCause := none,
    strikeTime := none, vEAtStrike := none, islandSeen := false, islandEntryTime := none }

/-- R60. -/
def CrossingRecord.cold : CrossingRecord :=
  { state := .outOfUse, program := .none, step := none, stepWait := .none, waitEnd := none,
    closureRequest := false, openDelayEnd := none, permitLapse := none, exitDelayEnd := none,
    closedSince := none, longReported := false, aspect := .dark, sound := false, proved := false }

/-- R103. R103 gives no value to interval_ok while no interval is open; here, and as an interval is judged or abandoned,
the model puts no (DESIGN CHOICE, log entry 44). -/
def LampRecord.cold : LampRecord :=
  { mode := .dark, modeSince := 0, proved := false, unproved := 0, intervalStart := none, intervalEnd := none,
    intervalOk := false, stuckOn := false }

/-- R92, R98, R103. -/
def LampController.cold : LampController :=
  { lamps := Vector.replicate 12 .cold, aspect := .dark, sound := false, phase := none, phaseEnd := none,
    duty := none, redProved := ⟨false, false⟩, darkEnd := ⟨none, none⟩,
    audible := Vector.replicate 2 { soundSince := 0, unproved := 0 },
    test := { run := .idle, lamp := none, slotEnd := none, allPassed := true } }

/-- R111. -/
def BarrierRecord.cold : BarrierRecord :=
  { target := none, phase := .idle, drive := .off, phaseEnd := none, moveStart := none, runOrigin := none,
    runStart := none, openLoopOnly := false, retries := 0, travelEnd := none, position := none,
    provedDown := false, provedUp := false, settleFrom := none, disagreeEnd := none, disagreeing := false,
    feedbackLost := false, underway := false }

/-- R111, R123. -/
def CalibrationRun.cold : CalibrationRun := { run := .idle, current := none, remaining := [], allPassed := true }

/-- R133, R136, R138. -/
def Scanner.cold : Scanner :=
  { nextStrobe := none, position := none, blockStart := none, rate := .normal, quietEnd := none,
    results := Vector.replicate 24 none, vBat := none, batteryLow := false, batteryCritical := false }

/-- R152, R153, R155, R156. -/
def ReportUnit.cold : ReportUnit :=
  { newFault := false, fresh := false, lastStatus := none, statusDue := none, linkEnd := none,
    bank0 := { state := .filling, records := [] }, bank1 := { state := .empty, records := [] } }

/-- R164, R165, R167. -/
def OutPort.cold : OutPort := { forward := [], insertion := [], run := 0, sending := none }

/-- R164 to R171. -/
def LoopNode.cold : LoopNode :=
  { portA := .cold, portB := .cold, queue := [], processor := none, restarting := false, overflow := false,
    lateDiscard := false, passed := [] }

/-- R174, R184. Before any validation no own_address has been passed; `ownValidated` holds that of the blank record, 1,
which nothing reads while the flag is clear (DESIGN CHOICE, log entry 41). -/
def TableManager.cold : TableManager :=
  { tables := .blank, valid := false, ownValidated := 1, derived := none, saveRun := .idle, saveImage := [] }

/-- Nothing handed on. -/
def Handed.none : Handed := { alarm := false, status := false, wheel := false }

/-- A store that does not answer reads as words of 65,535 (R183). -/
def silentStore : List Word := List.replicate Config.imageWords 0xFFFF

/-- The part at the beginning of a cold start (R187): crossing time 0, loading under way, every block at its
cold-start value. The store's content and the contact inputs lie outside the part; the manual gives them no value
at reset (DESIGN CHOICE, log entry 1). -/
def State.reset : State where
  supply := true
  resetHeld := false
  loading := true
  now := 0
  store := silentStore
  contacts := Vector.replicate 4 { up := false, down := false }
  tm := .cold
  lnu := .cold
  heads := Vector.replicate 16 .cold
  sections := Vector.replicate 8 .cold
  approaches := Vector.replicate 4 .cold
  crossing := .cold
  lamp := .cold
  barriers := Vector.replicate 4 .cold
  cal := .cold
  scan := .cold
  faults := { records := [], dropped := false }
  report := .cold
  handed := .none
  pending := []

end Sys2Proof.Machine
end

