-- ==== Sys2Proof/Machine/Operands.lean ====
section
/-! DEFINITION. The operands as bytes: multi-byte fields, the telegram and its check, and how one field of a
table entry is read and clamped (11_telegram_and_table_layouts). -/

namespace Sys2Proof.Machine

/-! ## Multi-byte fields: most significant byte first (11) -/

/-- One byte of a number. -/
def byte (n : Nat) : Byte := BitVec.ofNat 8 n

/-- A two-byte field. -/
def bytes16 (n : Nat) : List Byte := [byte (n / 256), byte n]

/-- A four-byte field. -/
def bytes32 (n : Nat) : List Byte := [byte (n / 16777216), byte (n / 65536), byte (n / 256), byte n]

/-- The byte at an offset. -/
def read8 (bs : List Byte) (at_ : Nat) : Nat := (bs.getD at_ 0).toNat

/-- The two-byte field at an offset. -/
def read16 (bs : List Byte) (at_ : Nat) : Nat := read8 bs at_ * 256 + read8 bs (at_ + 1)

/-- The four-byte field at an offset. -/
def read32 (bs : List Byte) (at_ : Nat) : Nat := read16 bs at_ * 65536 + read16 bs (at_ + 2)

/-- A flag as a byte. -/
def flagByte (b : Bool) : Byte := if b then 1 else 0

/-! ## The telegram (9.1, 11.1) -/

/-- One bit of the check: generator x^16 + x^12 + x^5 + 1. -/
def crcShift (r : BitVec 16) : BitVec 16 := if r.msb then (r <<< 1) ^^^ 0x1021 else r <<< 1

/-- One byte enters the check, most significant bit first. -/
def crcByte (r : BitVec 16) (b : Byte) : BitVec 16 :=
  let r0 := r ^^^ (b.zeroExtend 16 <<< 8)
  crcShift (crcShift (crcShift (crcShift (crcShift (crcShift (crcShift (crcShift r0)))))))

/-- The check over bytes; the register starts at 65,535. -/
def crc (bs : List Byte) : BitVec 16 := bs.foldl crcByte 0xFFFF

/-- A good telegram, with the frame it arrived in. -/
structure Telegram where
  destination : Nat
  source : Nat
  kind : Nat
  payload : List Byte
  frame : List Byte
  deriving DecidableEq, Repr

/-- The telegram a received frame holds, or none where it is dropped: broken off, longer than 60 bytes of payload,
not as long as its length field says, or with a wrong check (R161). -/
def readTelegram (frame : List Byte) : Option Telegram :=
  match frame with
  | d :: s :: k :: l :: rest =>
    let payload := rest.take l.toNat
    if l.toNat ≤ Config.payloadMax ∧ rest.length = l.toNat + 2 ∧
        read16 rest l.toNat = (crc (d :: s :: k :: l :: payload)).toNat then
      some { destination := d.toNat, source := s.toNat, kind := k.toNat, payload := payload, frame := frame }
    else none
  | _ => none

/-- A telegram framed by the part (R189). -/
def frameOf (destination source kind : Nat) (payload : List Byte) : List Byte :=
  let body := byte destination :: byte source :: byte kind :: byte payload.length :: payload
  body ++ bytes16 (crc body).toNat

/-! The kind codes (11.1). -/
/-- WHEEL. -/
def kindWheel : Nat := 1
/-- HEALTH. -/
def kindHealth : Nat := 2
/-- COMMAND. -/
def kindCommand : Nat := 3
/-- REPLY. -/
def kindReply : Nat := 4
/-- STATUS. -/
def kindStatus : Nat := 5

/-! ## One field of a table entry -/

/-- A value read, and whether it had to be clamped. -/
structure Field (α : Type) where
  value : α
  clamped : Bool
  deriving DecidableEq, Repr

/-- The nearest value of a range. -/
def clampTo (lo hi v : Nat) : Nat := max lo (min hi v)

/-- A ranged field (00_scope, "Out-of-range values"). -/
def ranged (lo hi v : Nat) : Field Nat := { value := clampTo lo hi v, clamped := clampTo lo hi v != v }

/-- A field of two coded values; any other code is clamped to the first listed. -/
def coded {α : Type} (code0 : Nat) (v0 : α) (code1 : Nat) (v1 : α) (first : α) (code : Nat) : Field α :=
  if code = code0 then { value := v0, clamped := false }
  else if code = code1 then { value := v1, clamped := false }
  else { value := first, clamped := true }

/-- A flag coded 0 and 1 whose first value is no or clear. -/
def codedFlag (code : Nat) : Field Bool := coded 0 false 1 true false code

end Sys2Proof.Machine
end

