-- ==== Sys2Proof/Machine/Ops.lean ====
section
/-! DEFINITION. The operations every block shares: crossing time, taking the members of a list in index order,
and the Fault Recorder. -/

namespace Sys2Proof.Machine

/-! ## Crossing time (00_scope, "Crossing time") -/

/-- A crossing time some milliseconds later, modulo 2^32. -/
def after (t : Time) (ms : Nat) : Time := t + BitVec.ofNat 32 ms

/-- Crossing time `t` is at or past `e`: the difference modulo 2^32 is below 2^31 (R48). -/
def reached (t e : Time) : Bool := decide ((t - e).toNat < 2 ^ 31)

/-- `x` is earlier than `y`, judged by the difference modulo 2^32. -/
def earlier (x y : Time) : Bool := !reached x y

/-- A timer that is running has come to its end. -/
def due (t : Time) : Option Time → Bool
  | some e => reached t e
  | none => false

/-- Time goes by before the event is taken. -/
def State.advance (s : State) (dt : Time) : State := { s with now := s.now + dt }

/-- The part is supplied and not held by the reset line (R186). -/
def State.alive (s : State) : Bool := s.supply && !s.resetHeld

/-! ## In index order -/

/-- An operation for each index below `n`, in index order. -/
def forEach (n : Nat) (f : Fin n → State → State) (s : State) : State :=
  (List.finRange n).foldl (fun s i => f i s) s

/-- The operation, where the condition holds. -/
def State.when (s : State) (c : Bool) (f : State → State) : State := if c then f s else s

/-! ## The fault codes (8.1) -/

/-- Every code, in the order of the numbers. -/
def FaultCode.all : List FaultCode :=
  [.headLost, .headFault, .countSkip, .sectionDisturbed, .sectionReset, .overspeed, .untimeable, .reversal,
   .shortWarning, .longClosure, .lampFail, .lampStuckOn, .roadSideDark, .audibleFail, .barrierOvercurrent,
   .barrierStall, .barrierTimeout, .barrierDisagree, .feedbackLost, .calibrationFailed, .batteryLow,
   .batteryCritical, .signallerLinkLost, .tableInvalid, .passageOverrun, .coldStart]

/-- The number of a code. -/
def FaultCode.number (c : FaultCode) : Nat := FaultCode.all.idxOf c

/-- The class of a code. -/
def FaultCode.cls : FaultCode → FaultClass
  | .headLost | .headFault | .countSkip | .sectionDisturbed => .degraded
  | .sectionReset | .overspeed | .untimeable | .reversal => .notice
  | .shortWarning | .longClosure => .degraded
  | .lampFail | .lampStuckOn => .notice
  | .roadSideDark => .alarm
  | .audibleFail | .barrierOvercurrent => .notice
  | .barrierStall | .barrierTimeout | .barrierDisagree => .alarm
  | .feedbackLost => .degraded
  | .calibrationFailed => .notice
  | .batteryLow => .degraded
  | .batteryCritical => .alarm
  | .signallerLinkLost => .degraded
  | .tableInvalid => .alarm
  | .passageOverrun | .coldStart => .notice

/-- The kind of a code. -/
def FaultCode.kind : FaultCode → FaultKind
  | .countSkip | .sectionReset | .overspeed | .untimeable | .reversal | .shortWarning => .event
  | .barrierOvercurrent | .calibrationFailed | .passageOverrun | .coldStart => .event
  | .headLost | .headFault | .sectionDisturbed | .longClosure | .lampFail | .lampStuckOn => .condition
  | .roadSideDark | .audibleFail | .barrierStall | .barrierTimeout | .barrierDisagree => .condition
  | .feedbackLost | .batteryLow | .batteryCritical | .signallerLinkLost | .tableInvalid => .condition

/-- The order of the classes, least serious first. -/
def FaultClass.rank : FaultClass → Nat
  | .notice => 0
  | .degraded => 1
  | .alarm => 2

/-! ## The Fault Recorder (8.1) -/

/-- A record is the one of a code and subject. -/
def FaultRecord.isFor (r : FaultRecord) (c : FaultCode) (subject : Option Nat) : Bool :=
  r.code == c && r.subject == subject

/-- The record of a code and subject, if one is held. -/
def findRecord (rs : List FaultRecord) (c : FaultCode) (subject : Option Nat) : Option FaultRecord :=
  rs.find? (·.isFor c subject)

/-- The record of a code and subject updated in its place (R140). -/
def updateRecord (rs : List FaultRecord) (c : FaultCode) (subject : Option Nat)
    (f : FaultRecord → FaultRecord) : List FaultRecord :=
  rs.map fun r => if r.isFor c subject then f r else r

/-- One more occurrence; it stays at 255 (R140). -/
def moreOccurrences (n : Nat) : Nat := min 255 (n + 1)

/-- The class displacement takes first among LATCHED records: the lowest of them (R144). -/
def lowestLatchedRank (rs : List FaultRecord) : Nat :=
  ((rs.filter (·.state == .latched)).map (·.code.cls.rank)).foldl min 3

/-- The place of the record a new record of class `cls` displaces from a full table, if one may be (R144). -/
def displacedPlace (rs : List FaultRecord) (cls : FaultClass) : Option Nat :=
  match rs.findIdx? (fun r => r.state == .latched && r.code.cls.rank == lowestLatchedRank rs) with
  | some i => some i
  | none =>
    match cls with
    | .alarm => rs.findIdx? (fun r => r.state != .latched && r.code.cls != .alarm)
    | .notice | .degraded => none

/-- The table with a new record placed at the end, under the displacement rule; the second part says whether it
was entered (R140, R144). -/
def FaultRecorder.enter (f : FaultRecorder) (r : FaultRecord) : FaultRecorder × Bool :=
  if f.records.length < Config.faultCap then ({ f with records := f.records ++ [r] }, true)
  else
    match displacedPlace f.records r.code.cls with
    | some i =>
      let present := ((f.records[i]?).map (fun d => d.state != .latched)).getD false
      ({ records := f.records.eraseIdx i ++ [r], dropped := f.dropped || present }, true)
    | none => ({ f with dropped := true }, false)

/-- A code that the report mask lets through sets the new-fault flag and fresh (R148, R152). -/
def markNewFault (c : FaultCode) (s : State) : State :=
  if (s.tm.tables.reportMask[c.number]?).getD false then s
  else { s with report := { s.report with newFault := true, fresh := true } }

/-- A record has become ACTIVE: the new-fault flag, and the notice for an ALARM (R145, R152). -/
def becameActive (c : FaultCode) (s : State) : State :=
  let s := markNewFault c s
  if c.cls == .alarm then { s with handed := { s.handed with alarm := true } } else s

/-- A block reports that a condition has become present (R141). -/
def conditionPresent (c : FaultCode) (subject : Option Nat) (s : State) : State :=
  match findRecord s.faults.records c subject with
  | some r =>
    match r.state with
    | .latched =>
      becameActive c { s with faults := { s.faults with
        records := updateRecord s.faults.records c subject fun r =>
          { r with state := .active, lastTime := s.now, occurrences := moreOccurrences r.occurrences } } }
    | .active | .acceptedActive =>
      { s with faults := { s.faults with
        records := updateRecord s.faults.records c subject fun r => { r with lastTime := s.now } } }
  | none =>
    let (f, entered) := s.faults.enter
      { code := c, subject := subject, state := .active, firstTime := s.now, lastTime := s.now,
        occurrences := 1, detail := none }
    if entered then becameActive c { s with faults := f } else { s with faults := f }

/-- A block reports that a condition has ended (R142). -/
def conditionEnd (c : FaultCode) (subject : Option Nat) (s : State) : State :=
  match findRecord s.faults.records c subject with
  | some r =>
    match r.state with
    | .active =>
      { s with faults := { s.faults with
        records := updateRecord s.faults.records c subject fun r => { r with state := .latched } } }
    | .acceptedActive =>
      { s with faults := { s.faults with records := s.faults.records.filter fun r => !r.isFor c subject } }
    | .latched => s
  | none => s

/-- A block reports an event, with the reason it carries (R143). -/
def eventEntered (c : FaultCode) (subject : Option Nat) (detail : Option CalReason) (s : State) : State :=
  match findRecord s.faults.records c subject with
  | some _ =>
    markNewFault c { s with faults := { s.faults with
      records := updateRecord s.faults.records c subject fun r =>
        { r with lastTime := s.now, occurrences := moreOccurrences r.occurrences, detail := detail } } }
  | none =>
    let (f, entered) := s.faults.enter
      { code := c, subject := subject, state := .latched, firstTime := s.now, lastTime := s.now,
        occurrences := 1, detail := detail }
    if entered then markNewFault c { s with faults := f } else { s with faults := f }

/-- An ALARM record is ACTIVE or ACCEPTED_ACTIVE (R81, R84). -/
def alarmPresent (s : State) : Bool :=
  s.faults.records.any fun r => r.code.cls == .alarm && r.state != .latched

end Sys2Proof.Machine
end

