-- ==== Sys2Proof/Machine/Tables.lean ====
section
/-! DEFINITION. The table entries as bytes: reading one with its values clamped, writing it out, the store image
and the queries the blocks make of the tables (10, 11.6, 11.7 and the write rule of each table). -/

namespace Sys2Proof.Machine

/-! ## The table ids (10.1) -/

/-- The eleven tables by id. -/
inductive TableId where
  | node
  | params
  | dpt
  | sectionTable
  | approach
  | closing
  | opening
  | barrier
  | lamp
  | scan
  | reportMask
  deriving DecidableEq, Repr

/-- Every table, in table id order. -/
def TableId.all : List TableId :=
  [.node, .params, .dpt, .sectionTable, .approach, .closing, .opening, .barrier, .lamp, .scan, .reportMask]

/-- The table of an id 0-10. -/
def TableId.fromId (n : Nat) : Option TableId := TableId.all[n]?

/-- The id of a table. -/
def TableId.number (t : TableId) : Nat := TableId.all.idxOf t

/-- The entries of a table (10.1). -/
def TableId.entries : TableId → Nat
  | .node => 4
  | .params => 1
  | .dpt => 16
  | .sectionTable => 8
  | .approach => 4
  | .closing => 12
  | .opening => 12
  | .barrier => 4
  | .lamp => 12
  | .scan => 24
  | .reportMask => 26

/-- The bytes of one entry (11.6). -/
def TableId.entryBytes : TableId → Nat
  | .node => 3
  | .params => 40
  | .dpt => 7
  | .sectionTable => 12
  | .approach => 37
  | .closing => 2
  | .opening => 2
  | .barrier => 28
  | .lamp => 5
  | .scan => 8
  | .reportMask => 1

/-! ## Reading one entry, clamped -/

/-- NODE (R173). -/
def readNode (b : List Byte) : Field NodeEntry :=
  let sv := codedFlag (read8 b 0)
  let ad := ranged 1 253 (read8 b 1)
  let ro := coded 0 Role.signaller 1 Role.maintenance Role.signaller (read8 b 2)
  { value := { inService := sv.value, address := ad.value, role := ro.value }
    clamped := sv.clamped || ad.clamped || ro.clamped }

/-- PARAMETERS (R175). -/
def readParams (b : List Byte) : Field Params :=
  let headTimeout := ranged 1000 10000 (read16 b 0)
  let groupGap := ranged 2000 10000 (read16 b 2)
  let flashPeriod := ranged 800 1500 (read16 b 4)
  let lampBaseDuty := ranged 50 100 (read8 b 6)
  let vNominal := ranged 10000 30000 (read16 b 7)
  let batteryLow := ranged 5000 30000 (read16 b 9)
  let batteryCritical := ranged 5000 30000 (read16 b 11)
  let batterySpan := ranged 1000 65000 (read16 b 14)
  let openDelay := ranged 0 10000 (read16 b 18)
  let minOpen := ranged 0 30000 (read16 b 20)
  let longClosure := ranged 60000 1200000 (read32 b 22)
  let exitDelayFailed := ranged 0 20000 (read16 b 26)
  let statusPeriod := ranged 1000 10000 (read16 b 28)
  let signallerTimeout := ranged 2000 60000 (read16 b 30)
  let scanStrobe := ranged 1 20 (read8 b 32)
  let quietDivisor := ranged 1 16 (read8 b 33)
  let quietAfter := ranged 10000 600000 (read32 b 34)
  let ownAddress := ranged 1 253 (read8 b 38)
  let signallerPort := coded 0 Port.a 1 Port.b Port.a (read8 b 39)
  { value :=
      { headTimeout := headTimeout.value, groupGap := groupGap.value, flashPeriod := flashPeriod.value
        lampBaseDuty := lampBaseDuty.value, vNominal := vNominal.value, batteryLow := batteryLow.value
        batteryCritical := batteryCritical.value, batteryEntry := read8 b 13, batterySpan := batterySpan.value
        audibleEntry0 := read8 b 16, audibleEntry1 := read8 b 17, openDelay := openDelay.value
        minOpen := minOpen.value, longClosure := longClosure.value, exitDelayFailed := exitDelayFailed.value
        statusPeriod := statusPeriod.value, signallerTimeout := signallerTimeout.value
        scanStrobe := scanStrobe.value, quietDivisor := quietDivisor.value, quietAfter := quietAfter.value
        ownAddress := ownAddress.value, signallerPort := signallerPort.value }
    clamped := headTimeout.clamped || groupGap.clamped || flashPeriod.clamped || lampBaseDuty.clamped ||
      vNominal.clamped || batteryLow.clamped || batteryCritical.clamped || batterySpan.clamped ||
      openDelay.clamped || minOpen.clamped || longClosure.clamped || exitDelayFailed.clamped ||
      statusPeriod.clamped || signallerTimeout.clamped || scanStrobe.clamped || quietDivisor.clamped ||
      quietAfter.clamped || ownAddress.clamped || signallerPort.clamped }

/-- DPT (1.2). -/
def readDpt (b : List Byte) : Field DptEntry :=
  let sv := codedFlag (read8 b 0)
  let ad := ranged 1 253 (read8 b 1)
  let tr := ranged 1 2 (read8 b 2)
  let ro := coded 0 HeadRole.counting 1 HeadRole.timingOnly HeadRole.counting (read8 b 3)
  let sp := ranged 80 300 (read16 b 4)
  let ts := coded 1 SensorOrder.s1First 2 SensorOrder.s2First SensorOrder.s1First (read8 b 6)
  { value := { inService := sv.value, address := ad.value, track := tr.value, role := ro.value
               spacing := sp.value, towardSense := ts.value }
    clamped := sv.clamped || ad.clamped || tr.clamped || ro.clamped || sp.clamped || ts.clamped }

/-- One boundary of a section (R16). -/
def readBoundary (b : List Byte) (at_ : Nat) : Field Boundary :=
  let en := coded 0 Direction.toward 1 Direction.away Direction.toward (read8 b (at_ + 1))
  { value := { head := read8 b at_, entering := en.value }, clamped := en.clamped }

/-- SECTION: boundaries past the clamped number are not stored (R16). -/
def readSection (b : List Byte) : Field SectionEntry :=
  let sv := codedFlag (read8 b 0)
  let ki := coded 0 SectionKind.approach 1 SectionKind.island SectionKind.approach (read8 b 1)
  let tr := ranged 1 2 (read8 b 2)
  let nu := ranged 1 4 (read8 b 3)
  let bs := (List.range nu.value).map fun i => readBoundary b (4 + 2 * i)
  { value := { inService := sv.value, kind := ki.value, track := tr.value, boundaries := bs.map (·.value) }
    clamped := sv.clamped || ki.clamped || tr.clamped || nu.clamped || bs.any (·.clamped) }

/-- One timing head of an approach. halt_side lists set before clear, so set has the code 0 and clear the code 1; a
code that is neither is clamped to clear (R33, 11.6). -/
def readTimingHead (b : List Byte) (at_ : Nat) : Field TimingHead :=
  let di := ranged 20 4000 (read16 b (at_ + 1))
  let ha := coded 0 true 1 false false (read8 b (at_ + 3))
  { value := { head := read8 b at_, distance := di.value, haltSide := ha.value }
    clamped := di.clamped || ha.clamped }

/-- APPROACH: timing heads past the clamped number are not stored (R33). -/
def readApproach (b : List Byte) : Field ApproachEntry :=
  let sv := codedFlag (read8 b 0)
  let tr := ranged 1 2 (read8 b 1)
  let nu := ranged 1 4 (read8 b 4)
  let hs := (List.range nu.value).map fun i => readTimingHead b (5 + 4 * i)
  let clearMargin := ranged 0 30000 (read16 b 21)
  let loopAllow := ranged 0 1000 (read16 b 23)
  let holdMax := ranged 10000 600000 (read32 b 25)
  let vCreep := ranged 100 1000 (read16 b 29)
  let vHalt := ranged 100 3000 (read16 b 31)
  let vFinal := ranged 100 6000 (read16 b 33)
  let vLine := ranged 500 8000 (read16 b 35)
  { value :=
      { inService := sv.value, track := tr.value, approachSection := read8 b 2, islandSection := read8 b 3
        timingHeads := hs.map (·.value), clearMargin := clearMargin.value, loopAllow := loopAllow.value
        holdMax := holdMax.value, vCreep := vCreep.value, vHalt := vHalt.value, vFinal := vFinal.value
        vLine := vLine.value }
    clamped := sv.clamped || tr.clamped || nu.clamped || hs.any (·.clamped) || clearMargin.clamped ||
      loopAllow.clamped || holdMax.clamped || vCreep.clamped || vHalt.clamped || vFinal.clamped ||
      vLine.clamped }

/-- The step kinds, in the order of their codes (11.6). -/
def StepKind.all : List StepKind :=
  [.finish, .amber, .red, .dark, .soundOn, .soundOff, .lowerEntry, .lowerExit, .raiseEntry, .raiseExit, .wait,
   .waitDown, .waitUp]

/-- CLOSING_PROGRAM and OPENING_PROGRAM: the count of any kind but WAIT is stored as 0, which is no clamping
(R64, log entry 8). -/
def readStep (b : List Byte) : Field ProgramStep :=
  match StepKind.all[read8 b 0]? with
  | none => { value := { kind := .finish, count := 0 }, clamped := true }
  | some .wait =>
    let n := ranged 1 127 (read8 b 1)
    { value := { kind := .wait, count := n.value }, clamped := n.clamped }
  | some k => { value := { kind := k, count := 0 }, clamped := false }

/-- BARRIER: overdrive_duty is clamped to its range, then to the clamped clamp_duty (R105). -/
def readBarrier (b : List Byte) : Field BarrierEntry :=
  let sv := codedFlag (read8 b 0)
  let ro := coded 0 BarrierRole.entry 1 BarrierRole.exit BarrierRole.entry (read8 b 1)
  let sd := ranged 0 1 (read8 b 2)
  let ratedDuty := ranged 20 100 (read8 b 5)
  let over0 := ranged 20 100 (read8 b 6)
  let startMs := ranged 0 1000 (read16 b 7)
  let clampDuty := ranged 50 100 (read8 b 9)
  let capped := min over0.value clampDuty.value
  let brakePos := ranged 0 300 (read16 b 10)
  let brakeDuty := ranged 0 50 (read8 b 12)
  let loopGain := ranged 0 200 (read8 b 13)
  let closedLoop := coded 0 false 1 true true (read8 b 14)
  let downWindow := ranged 0 100 (read8 b 15)
  let upWindow := ranged 900 1000 (read16 b 16)
  let upCode := ranged 0 4095 (read16 b 18)
  let downCode := ranged 0 4095 (read16 b 20)
  let travelDown := ranged 2000 20000 (read16 b 22)
  let travelUp := ranged 2000 20000 (read16 b 24)
  let peakCurrent := ranged 0 4095 (read16 b 26)
  { value :=
      { inService := sv.value, role := ro.value, roadSide := if sd.value = 0 then .north else .south
        angleEntry := read8 b 3, currentEntry := read8 b 4, ratedDuty := ratedDuty.value
        overdriveDuty := capped, startMs := startMs.value, clampDuty := clampDuty.value
        brakePos := brakePos.value, brakeDuty := brakeDuty.value, loopGain := loopGain.value
        closedLoop := closedLoop.value, downWindow := downWindow.value, upWindow := upWindow.value
        upCode := upCode.value, downCode := downCode.value, travelDown := travelDown.value
        travelUp := travelUp.value, peakCurrent := peakCurrent.value }
    clamped := sv.clamped || ro.clamped || sd.clamped || ratedDuty.clamped || over0.clamped ||
      capped != over0.value || startMs.clamped || clampDuty.clamped || brakePos.clamped || brakeDuty.clamped ||
      loopGain.clamped || closedLoop.clamped || downWindow.clamped || upWindow.clamped || upCode.clamped ||
      downCode.clamped || travelDown.clamped || travelUp.clamped || peakCurrent.clamped }

/-- LAMP (R87). -/
def readLamp (b : List Byte) : Field LampEntry :=
  let sv := codedFlag (read8 b 0)
  let sd := ranged 0 1 (read8 b 1)
  let co := coded 0 Colour.red 1 Colour.amber Colour.red (read8 b 2)
  let ph := coded 0 Phase.a 1 Phase.b Phase.a (read8 b 3)
  { value := { inService := sv.value, roadSide := if sd.value = 0 then .north else .south, colour := co.value
               phase := ph.value, scanEntry := read8 b 4 }
    clamped := sv.clamped || sd.clamped || co.clamped || ph.clamped }

/-- The nearest gain of 1, 2, 4 and 8, the lower one when two are equally near (R128). -/
def nearestGain (g : Nat) : Nat :=
  if g ≤ 1 then 1 else if g ≤ 3 then 2 else if g ≤ 6 then 4 else 8

/-- SCAN (R128). -/
def readScan (b : List Byte) : Field ScanEntry :=
  let sv := codedFlag (read8 b 0)
  let ch := ranged 0 23 (read8 b 1)
  let ga := read8 b 2
  let bc := ranged 1 8 (read8 b 3)
  let lo := ranged 0 4095 (read16 b 4)
  let hi := ranged 0 4095 (read16 b 6)
  { value := { inService := sv.value, channel := ch.value, gain := nearestGain ga, blockCount := bc.value
               lowThreshold := lo.value, highThreshold := hi.value }
    clamped := sv.clamped || ch.clamped || nearestGain ga != ga || bc.clamped || lo.clamped || hi.clamped }

/-- REPORT_MASK: a flag of an ALARM code is forced clear (R148). -/
def readMask (i : Nat) (b : List Byte) : Field Bool :=
  let f := codedFlag (read8 b 0)
  let alarm := ((FaultCode.all[i]?).map (fun c => c.cls == .alarm)).getD false
  { value := f.value && !alarm, clamped := f.clamped || (f.value && alarm) }

/-! ## Storing one entry -/

/-- One entry of a table stored whole with its values clamped; an index past the table's last stores nothing
(R177). -/
def storeEntry (t : TableId) (i : Nat) (b : List Byte) (ts : Tables) : Field Tables :=
  match t with
  | .node =>
    if h : i < 4 then
      { value := { ts with node := ts.node.set i (readNode b).value h }, clamped := (readNode b).clamped }
    else { value := ts, clamped := false }
  | .params =>
    if i = 0 then { value := { ts with params := (readParams b).value }, clamped := (readParams b).clamped }
    else { value := ts, clamped := false }
  | .dpt =>
    if h : i < 16 then
      { value := { ts with dpt := ts.dpt.set i (readDpt b).value h }, clamped := (readDpt b).clamped }
    else { value := ts, clamped := false }
  | .sectionTable =>
    if h : i < 8 then
      { value := { ts with sectionTable := ts.sectionTable.set i (readSection b).value h }
        clamped := (readSection b).clamped }
    else { value := ts, clamped := false }
  | .approach =>
    if h : i < 4 then
      { value := { ts with approach := ts.approach.set i (readApproach b).value h }
        clamped := (readApproach b).clamped }
    else { value := ts, clamped := false }
  | .closing =>
    if h : i < 12 then
      { value := { ts with closing := ts.closing.set i (readStep b).value h }, clamped := (readStep b).clamped }
    else { value := ts, clamped := false }
  | .opening =>
    if h : i < 12 then
      { value := { ts with opening := ts.opening.set i (readStep b).value h }, clamped := (readStep b).clamped }
    else { value := ts, clamped := false }
  | .barrier =>
    if h : i < 4 then
      { value := { ts with barrier := ts.barrier.set i (readBarrier b).value h }
        clamped := (readBarrier b).clamped }
    else { value := ts, clamped := false }
  | .lamp =>
    if h : i < 12 then
      { value := { ts with lamp := ts.lamp.set i (readLamp b).value h }, clamped := (readLamp b).clamped }
    else { value := ts, clamped := false }
  | .scan =>
    if h : i < 24 then
      { value := { ts with scan := ts.scan.set i (readScan b).value h }, clamped := (readScan b).clamped }
    else { value := ts, clamped := false }
  | .reportMask =>
    if h : i < 26 then
      { value := { ts with reportMask := ts.reportMask.set i (readMask i b).value h }
        clamped := (readMask i b).clamped }
    else { value := ts, clamped := false }

/-- Whole entries stored at consecutive indices from the first (R177). -/
def storeEntries (t : TableId) (first : Nat) (entries : List (List Byte)) (ts : Tables) : Field Tables :=
  match entries with
  | [] => { value := ts, clamped := false }
  | e :: rest =>
    let r := storeEntry t first e ts
    let r' := storeEntries t (first + 1) rest r.value
    { value := r'.value, clamped := r.clamped || r'.clamped }

/-! ## Writing one entry out (11.6) -/

/-- NODE. -/
def writeNode (e : NodeEntry) : List Byte :=
  [flagByte e.inService, byte e.address, if e.role = .signaller then 0 else 1]

/-- PARAMETERS. -/
def writeParams (p : Params) : List Byte :=
  bytes16 p.headTimeout ++ bytes16 p.groupGap ++ bytes16 p.flashPeriod ++ [byte p.lampBaseDuty] ++
  bytes16 p.vNominal ++ bytes16 p.batteryLow ++ bytes16 p.batteryCritical ++ [byte p.batteryEntry] ++
  bytes16 p.batterySpan ++ [byte p.audibleEntry0, byte p.audibleEntry1] ++ bytes16 p.openDelay ++
  bytes16 p.minOpen ++ bytes32 p.longClosure ++ bytes16 p.exitDelayFailed ++ bytes16 p.statusPeriod ++
  bytes16 p.signallerTimeout ++ [byte p.scanStrobe, byte p.quietDivisor] ++ bytes32 p.quietAfter ++
  [byte p.ownAddress, if p.signallerPort = .a then 0 else 1]

/-- DPT. -/
def writeDpt (e : DptEntry) : List Byte :=
  [flagByte e.inService, byte e.address, byte e.track, if e.role = .counting then 0 else 1] ++
  bytes16 e.spacing ++ [if e.towardSense = .s1First then 1 else 2]

/-- One boundary. -/
def writeBoundary (b : Boundary) : List Byte := [byte b.head, if b.entering = .toward then 0 else 1]

/-- Places beyond the stored number read back as 0 (11.6). -/
def writeSection (e : SectionEntry) : List Byte :=
  [flagByte e.inService, if e.kind = .approach then 0 else 1, byte e.track, byte e.boundaries.length] ++
  ((e.boundaries.flatMap writeBoundary) ++ List.replicate 8 0).take 8

/-- One timing head; halt_side is 0 set, 1 clear (11.6). -/
def writeTimingHead (t : TimingHead) : List Byte :=
  [byte t.head] ++ bytes16 t.distance ++ [flagByte (!t.haltSide)]

/-- Places beyond the stored number read back as 0 (11.6). -/
def writeApproach (e : ApproachEntry) : List Byte :=
  [flagByte e.inService, byte e.track, byte e.approachSection, byte e.islandSection,
   byte e.timingHeads.length] ++
  ((e.timingHeads.flatMap writeTimingHead) ++ List.replicate 16 0).take 16 ++
  bytes16 e.clearMargin ++ bytes16 e.loopAllow ++ bytes32 e.holdMax ++ bytes16 e.vCreep ++ bytes16 e.vHalt ++
  bytes16 e.vFinal ++ bytes16 e.vLine

/-- CLOSING_PROGRAM, OPENING_PROGRAM. -/
def writeStep (e : ProgramStep) : List Byte := [byte (StepKind.all.idxOf e.kind), byte e.count]

/-- A road side as a byte. -/
def sideByte (side : Side) : Byte := if side = .north then 0 else 1

/-- BARRIER. -/
def writeBarrier (e : BarrierEntry) : List Byte :=
  [flagByte e.inService, if e.role = .entry then 0 else 1, sideByte e.roadSide, byte e.angleEntry,
   byte e.currentEntry, byte e.ratedDuty, byte e.overdriveDuty] ++ bytes16 e.startMs ++ [byte e.clampDuty] ++
  bytes16 e.brakePos ++ [byte e.brakeDuty, byte e.loopGain, flagByte e.closedLoop, byte e.downWindow] ++
  bytes16 e.upWindow ++ bytes16 e.upCode ++ bytes16 e.downCode ++ bytes16 e.travelDown ++
  bytes16 e.travelUp ++ bytes16 e.peakCurrent

/-- LAMP. -/
def writeLamp (e : LampEntry) : List Byte :=
  [flagByte e.inService, sideByte e.roadSide, if e.colour = .red then 0 else 1,
   if e.phase = .a then 0 else 1, byte e.scanEntry]

/-- SCAN. -/
def writeScan (e : ScanEntry) : List Byte :=
  [flagByte e.inService, byte e.channel, byte e.gain, byte e.blockCount] ++ bytes16 e.lowThreshold ++
  bytes16 e.highThreshold

/-- The entries of a table as read out, in index order. -/
def tableEntries (t : TableId) (ts : Tables) : List (List Byte) :=
  match t with
  | .node => ts.node.toList.map writeNode
  | .params => [writeParams ts.params]
  | .dpt => ts.dpt.toList.map writeDpt
  | .sectionTable => ts.sectionTable.toList.map writeSection
  | .approach => ts.approach.toList.map writeApproach
  | .closing => ts.closing.toList.map writeStep
  | .opening => ts.opening.toList.map writeStep
  | .barrier => ts.barrier.toList.map writeBarrier
  | .lamp => ts.lamp.toList.map writeLamp
  | .scan => ts.scan.toList.map writeScan
  | .reportMask => ts.reportMask.toList.map fun m => [flagByte m]

/-! ## The store image (R183, R191) -/

/-- Bytes as words, the first byte most significant; an odd count is padded with a byte of 0. -/
def wordsOf : List Byte → List Word
  | [] => []
  | [b] => [b.zeroExtend 16 <<< 8]
  | b :: c :: rest => (b.zeroExtend 16 <<< 8 ||| c.zeroExtend 16) :: wordsOf rest

/-- A word as bytes, the most significant first. -/
def wordBytes (w : Word) : List Byte := [(w >>> 8).truncate 8, w.truncate 8]

/-- The words of one table of the image. -/
def tableWords (t : TableId) (ts : Tables) : List Word := wordsOf (tableEntries t ts).flatten

/-- The sum of words modulo 65,536. -/
def wordSum (ws : List Word) : Word := ws.foldl (· + ·) 0

/-- The image of the tables: length word, format word 1, the tables in table id order, check word. -/
def imageOf (ts : Tables) : List Word :=
  let body := BitVec.ofNat 16 Config.imageWords :: 1 :: TableId.all.flatMap (tableWords · ts)
  body ++ [-(wordSum body)]

/-- The first word of a table in the image (R191). -/
def TableId.firstWord : TableId → Nat
  | .node => 2
  | .params => 8
  | .dpt => 28
  | .sectionTable => 84
  | .approach => 132
  | .closing => 206
  | .opening => 218
  | .barrier => 230
  | .lamp => 286
  | .scan => 316
  | .reportMask => 412

/-- The words of a table in the image (R191). -/
def TableId.imageLength (t : TableId) : Nat := (t.entries * t.entryBytes + 1) / 2

/-- Bytes cut into entries of a size; a last piece that is not whole is left out. -/
def cutEntries (size : Nat) : Nat → List Byte → List (List Byte)
  | 0, _ => []
  | n + 1, bs => if bs.length < size then [] else bs.take size :: cutEntries size n (bs.drop size)

/-- The tables an image holds, each value clamped as a TABLE_WRITE would clamp it (R187, R191). -/
def loadImage (ws : List Word) : Tables :=
  TableId.all.foldl (fun ts t =>
    let bs := ((ws.drop t.firstWord).take t.imageLength).flatMap wordBytes
    (storeEntries t 0 (cutEntries t.entryBytes t.entries bs) ts).value) Tables.blank

/-- The three image checks, in order: length word, format word, sum of all words (R187). -/
def imagePasses (ws : List Word) : Bool :=
  ws.getD 0 0 == BitVec.ofNat 16 Config.imageWords && ws.getD 1 0 == 1 && wordSum ws == 0

/-- What the part reads from the store: 426 words, or words of 65,535 where it does not answer (R183, R191). -/
def readStore (answers : Bool) (store : List Word) : List Word :=
  if answers then (List.range Config.imageWords).map fun i => store.getD i 0xFFFF else silentStore

/-- The store after the first `written` word writes of a save run: format word 0, length word, table words, check
word, format word 1. The first write is made as the run starts (R185, log entry 4). -/
def partialSave (written : Nat) (image old : List Word) : List Word :=
  (List.range Config.imageWords).map fun i =>
    if i = 1 then (if written ≥ Config.saveWrites then 1 else 0)
    else if i = 0 then (if written ≥ 2 then image.getD 0 0xFFFF else old.getD 0 0xFFFF)
    else if written ≥ i + 1 then image.getD i 0xFFFF else old.getD i 0xFFFF

/-! ## What the blocks ask of the tables -/

/-- The DPT entry of an index that names one. -/
def dptAt (s : State) (i : Nat) : Option DptEntry := s.tm.tables.dpt[i]?

/-- The section entry of an index that names one. -/
def sectionAt (s : State) (i : Nat) : Option SectionEntry := s.tm.tables.sectionTable[i]?

/-- A source holds a role: an in-service NODE entry carries its address with that role (R172). -/
def holdsRole (ts : Tables) (source : Nat) (role : Role) : Bool :=
  ts.node.toList.any fun e => e.inService && e.address == source && e.role == role

/-- The signaller address: the lowest-indexed in-service NODE entry with role SIGNALLER (R151). -/
def signallerAddress (ts : Tables) : Option Nat :=
  (ts.node.toList.find? fun e => e.inService && e.role == .signaller).map (·.address)

/-- The PARAMETERS record in force (R174). -/
def State.params (s : State) : Params := s.tm.tables.params

/-- The derived figures; before any successful validation they are absent and nothing that uses them runs
(R174), so the zeros here are read in no run (log entry 9). -/
def State.derivedFigures (s : State) : Derived :=
  s.tm.derived.getD { lClose := 0, tReq := Vector.replicate 4 0, rOpen := 0 }

end Sys2Proof.Machine
end

