-- ==== Sys2Proof/Machine/Lnu.lean ====
section
/-! DEFINITION. The Loop Node Unit: answering address, forward buffers, insertion queues, output arbiters and the
command queue (09). -/

namespace Sys2Proof.Machine

/-! ## Ports -/

/-- The other port. -/
def otherPort : Port → Port
  | .a => .b
  | .b => .a

/-- One output port. -/
def LoopNode.port (l : LoopNode) : Port → OutPort
  | .a => l.portA
  | .b => l.portB

/-- One output port replaced. -/
def LoopNode.setPort (l : LoopNode) (p : Port) (o : OutPort) : LoopNode :=
  match p with
  | .a => { l with portA := o }
  | .b => { l with portB := o }

/-- The answering address: none while loading, own_address as last validated while the table-valid flag is set,
the service address while it is clear (R163). -/
def answeringAddress (s : State) : Option Nat :=
  if s.loading then none
  else if s.tm.valid then some s.tm.ownValidated
  else some Config.serviceAddress

/-- The source address of a telegram the part places (R168, R189). The part places none while loading. -/
def sourceAddress (s : State) : Nat := (answeringAddress s).getD Config.serviceAddress

/-! ## The arbiter (R165) -/

/-- A waiting telegram is a status telegram. -/
def Inserted.isStatus : Inserted → Bool
  | .status _ _ _ => true
  | .reply _ _ => false

/-- An idle port starts the telegram its arbiter chooses (R165). -/
def OutPort.choose (o : OutPort) : OutPort :=
  match o.forward, o.insertion with
  | [], [] => o
  | f :: fs, [] => { o with forward := fs, sending := some (.forwarded f) }
  | f :: fs, q :: qs =>
    if o.run < Config.runLimit then
      { o with forward := fs, run := o.run + 1, sending := some (.forwarded f) }
    else { o with insertion := qs, run := 0, sending := some (.inserted q) }
  | [], q :: qs => { o with insertion := qs, run := 0, sending := some (.inserted q) }

/-- A status telegram has left signaller_port: the new-fault flag is cleared if it carried new fault yes and no
entry came after its content was formed, and the command-overflow flag likewise (R152, R166, R170). -/
def statusLeft (newFault overflow : Bool) (s : State) : State :=
  { s with
    report := { s.report with newFault := s.report.newFault && !(newFault && !s.report.fresh) }
    lnu := { s.lnu with overflow := s.lnu.overflow && !(overflow && !s.lnu.lateDiscard) } }

/-- The arbiter of a port makes a choice if the port is idle (R165, R166). -/
def startPort (p : Port) (s : State) : State :=
  match (s.lnu.port p).sending with
  | some _ => s
  | none =>
    let o := (s.lnu.port p).choose
    let s1 := { s with lnu := s.lnu.setPort p o }
    match o.sending with
    | some (.inserted (.status _ newFault overflow)) =>
      if p = s.params.signallerPort then statusLeft newFault overflow s1 else s1
    | _ => s1

/-! ## Forwarding (R164) -/

/-- A telegram is repeated out of a port, unless its forward buffer holds 4 (R164). -/
def forwardTo (p : Port) (frame : List Byte) (s : State) : State :=
  let o := s.lnu.port p
  if o.forward.length < Config.forwardCap then
    startPort p { s with lnu := s.lnu.setPort p { o with forward := o.forward ++ [frame] } }
  else s

/-! ## The insertion queues (R167) -/

/-- The waiting status telegram takes the new content in place, or the new one is appended (R167). Taken in place, the
whole telegram is the new one, its source and destination with it (DESIGN CHOICE, log entry 39). -/
def placeStatusIn (t : Inserted) (q : List Inserted) : List Inserted :=
  if q.any (·.isStatus) then q.map fun x => if x.isStatus then t else x else q ++ [t]

/-- A status telegram is placed in the insertion queue of a port (R167, R168). -/
def placeStatus (p : Port) (t : Inserted) (s : State) : State :=
  let o := s.lnu.port p
  startPort p { s with lnu := s.lnu.setPort p { o with insertion := placeStatusIn t o.insertion } }

/-- The insertion queue of a port has room for a reply (R167). -/
def replyFits (p : Port) (s : State) : Bool :=
  decide (((s.lnu.port p).insertion.filter fun x => !x.isStatus).length < Config.replyCap)

/-- A reply is placed in the insertion queue of a port, or discarded where 7 replies wait (R167). -/
def placeReply (p : Port) (t : Inserted) (s : State) : State :=
  if replyFits p s then
    let o := s.lnu.port p
    startPort p { s with lnu := s.lnu.setPort p { o with insertion := o.insertion ++ [t] } }
  else s

/-! ## The command queue (R169, R170) -/

/-- The idle command processor takes the head of the command queue (R171). -/
def takeCommand (s : State) : State :=
  match s.lnu.processor, s.lnu.queue with
  | none, c :: rest => { s with lnu := { s.lnu with processor := some c, queue := rest } }
  | _, _ => s

/-- A consumed command joins the queue, or is discarded with the command-overflow flag and late_discard set where
8 wait (R169, R170). -/
def joinQueue (c : QueuedCommand) (s : State) : State :=
  if s.lnu.queue.length < Config.commandCap then
    takeCommand { s with lnu := { s.lnu with queue := s.lnu.queue ++ [c] } }
  else { s with lnu := { s.lnu with overflow := true, lateDiscard := true } }

end Sys2Proof.Machine
end

