-- ==== Sys2Proof/Machine/Flags.lean ====
section
/-! DEFINITION. The status content and the flags it carries, and the records as read out, all as codes
(R151, 11.4, 11.5). -/

namespace Sys2Proof.Machine

/-! ## The status content (R151) -/

/-- The highest class among ACTIVE and ACCEPTED_ACTIVE records. -/
def highestClass (rs : List FaultRecord) : HighestClass :=
  let present := rs.filter fun r => r.state != .latched
  if present.any (·.code.cls == .alarm) then .alarm
  else if present.any (·.code.cls == .degraded) then .degraded
  else if present.any (·.code.cls == .notice) then .notice
  else .none

/-- The number of records in a state. -/
def countState (rs : List FaultRecord) (st : RecordState) : Nat := rs.countP (·.state == st)

/-- The state of a section as status shows it (R21, R30). -/
def sectionStatus (e : SectionEntry) (r : SectionRecord) : SectionStatus :=
  if !e.inService then .outOfService
  else match r.state with
    | .clear => .clear
    | .occupied => .occupied
    | .disturbed => .disturbed
    | .restoring => if r.count = some 0 then .restoringZero else .restoringAbove

/-- The state of an approach as status shows it. -/
def approachStatus (e : ApproachEntry) (r : ApproachRecord) : Option ApproachState :=
  if e.inService then some r.state else none

/-- The status content as it stands (R151). -/
def statusContent (s : State) : StatusContent where
  crossing := s.crossing.state
  proved := s.crossing.proved
  closureRequest := s.crossing.closureRequest
  approaches := Vector.ofFn fun i => approachStatus s.tm.tables.approach[i] s.approaches[i]
  sections := Vector.ofFn fun i => sectionStatus s.tm.tables.sectionTable[i] s.sections[i]
  highest := highestClass s.faults.records
  activeCount := countState s.faults.records .active
  latchedCount := countState s.faults.records .latched
  acceptedCount := countState s.faults.records .acceptedActive
  newFault := s.report.newFault
  dropped := s.faults.dropped
  overflow := s.lnu.overflow
  calibration := s.cal.run
  lampTest := s.lamp.test.run
  saveRun := s.tm.saveRun
  bank0 := s.report.bank0.state
  bank1 := s.report.bank1.state
  vBat := s.scan.vBat

/-- Two contents differ in a part other than V_bat (R153). -/
def StatusContent.differs (c d : StatusContent) : Bool :=
  { c with vBat := none } != { d with vBat := none }

/-! ## Codes (11.4) -/

def CrossingState.code : CrossingState → Byte
  | .outOfUse => 0
  | .isOpen => 1
  | .closing => 2
  | .closed => 3
  | .opening => 4
  | .failed => 5

def HighestClass.code : HighestClass → Byte
  | .none => 0
  | .notice => 1
  | .degraded => 2
  | .alarm => 3

def ApproachState.code : ApproachState → Byte
  | .idle => 0
  | .tracking => 1
  | .armed => 2
  | .deferred => 3
  | .struck => 4

def SectionStatus.code : SectionStatus → Byte
  | .clear => 0
  | .occupied => 1
  | .disturbed => 2
  | .restoringZero => 3
  | .restoringAbove => 4
  | .outOfService => 255

def RunState.code : RunState → Byte
  | .idle => 0
  | .running => 1
  | .donePass => 2
  | .doneFail => 3

def BankState.code : BankState → Byte
  | .empty => 0
  | .filling => 1
  | .ready => 2

/-- The flags byte of the status payload: 1 proved, 2 closure request, 4 new fault, 8 records dropped, 16 command
overflow, summed. -/
def StatusContent.flags (c : StatusContent) : Byte :=
  (if c.proved then 1 else 0) + (if c.closureRequest then 2 else 0) + (if c.newFault then 4 else 0) +
  (if c.dropped then 8 else 0) + (if c.overflow then 16 else 0)

/-- The 25 bytes of the status payload. -/
def StatusContent.bytes (c : StatusContent) : List Byte :=
  [c.crossing.code, c.flags, c.highest.code] ++
  c.approaches.toList.map (fun a => (a.map ApproachState.code).getD 255) ++
  c.sections.toList.map SectionStatus.code ++
  [byte c.activeCount, byte c.latchedCount, byte c.acceptedCount, c.calibration.code, c.lampTest.code,
   c.saveRun.code, c.bank0.code, c.bank1.code] ++
  bytes16 (c.vBat.getD 65535)

/-! ## Records as read out (11.5) -/

def RecordState.code : RecordState → Nat
  | .active => 0
  | .latched => 1
  | .acceptedActive => 2

def FaultKind.code : FaultKind → Nat
  | .condition => 0
  | .event => 1

def CalReason.code : CalReason → Byte
  | .span => 1
  | .travel => 2
  | .current => 3

def StrikeCause.code : StrikeCause → Nat
  | .timed => 0
  | .immediate => 1
  | .fallback => 2
  | .untimeable => 3
  | .depart => 4
  | .disturbed => 5

def ResultClass.code : ResultClass → Nat
  | .low => 0
  | .inRange => 1
  | .high => 2

/-- A crossing time as read out. -/
def timeBytes (t : Time) : List Byte := bytes32 t.toNat

/-- A fault record as read out: 13 bytes. -/
def FaultRecord.bytes (r : FaultRecord) : List Byte :=
  [byte r.code.number, byte (r.subject.getD 255),
   byte (r.code.cls.rank * 16 + r.code.kind.code * 4 + r.state.code), byte r.occurrences,
   (r.detail.map CalReason.code).getD 0] ++
  timeBytes r.firstTime ++ timeBytes r.lastTime

/-- A passage record as read out: 15 bytes. -/
def PassageRecord.bytes (r : PassageRecord) : List Byte :=
  [byte (r.approach.val + r.strikeCause.code * 4 + (if r.islandEntryTime.isSome then 32 else 0) +
    (if r.shortWarning then 64 else 0))] ++
  bytes16 (r.vEAtStrike.getD 0) ++ timeBytes r.strikeTime ++ timeBytes (r.islandEntryTime.getD 0) ++
  timeBytes r.releaseTime

/-- A result entry as read out: 12 bytes. -/
def resultBytes (i : Nat) (r : Option ScanResult) : List Byte :=
  match r with
  | none => byte i :: List.replicate 11 0
  | some r =>
    [byte i, byte (1 + (if r.overrange then 2 else 0) + r.cls.code * 4)] ++ bytes16 r.code ++
    timeBytes r.startTime ++ timeBytes r.endTime

end Sys2Proof.Machine
end

