-- ==== Sys2Proof/Machine/Report.lean ====
section
/-! DEFINITION. The Report Unit: producing status telegrams, the signaller link and the passage log
(08, 8.4 and 8.5). -/

namespace Sys2Proof.Machine

/-! ## Status production (R153) -/

/-- A status telegram is produced: the content is formed as it stands, fresh and late_discard are cleared, the
telegram is placed in the insertion queue of signaller_port and status_due is set. Without a signaller address
nothing is produced (R151, R152, R153, R170). -/
def produceStatus (s : State) : State :=
  match signallerAddress s.tm.tables with
  | none => s
  | some dest =>
    let c := statusContent s
    let t := Inserted.status (frameOf dest (sourceAddress s) kindStatus c.bytes) c.newFault c.overflow
    placeStatus s.params.signallerPort t
      { s with
        report := { s.report with
          fresh := false, lastStatus := some c, statusDue := some (after s.now s.params.statusPeriod) }
        lnu := { s.lnu with lateDiscard := false } }

/-- The content differs from that of the last status produced, in a part other than V_bat (R153). -/
def statusChanged (s : State) : Bool :=
  match s.report.lastStatus with
  | none => true
  | some last => (statusContent s).differs last

/-- The Report Unit takes what the event handed on: a status asked for, or a change of the content (R153). -/
def reportTurn (s : State) : State :=
  let s1 := { s with handed := { s.handed with status := false } }
  if s.tm.valid && (s.handed.status || statusChanged s) then produceStatus s1 else s1

/-! ## The signaller link (R155) -/

/-- A telegram from this source was consumed: one from a SIGNALLER source ends SIGNALLER_LINK_LOST and sets
link_end afresh, while the table-valid flag is set (R155, R162). -/
def linkRefresh (source : Nat) (s : State) : State :=
  if s.tm.valid && holdsRole s.tm.tables source .signaller then
    let s := conditionEnd .signallerLinkLost none s
    { s with report := { s.report with linkEnd := some (after s.now s.params.signallerTimeout) } }
  else s

/-! ## The passage log (R156) -/

/-- A bank by its number. -/
def ReportUnit.bank (r : ReportUnit) (one : Bool) : Bank := if one then r.bank1 else r.bank0

/-- A bank replaced. -/
def ReportUnit.setBank (r : ReportUnit) (one : Bool) (b : Bank) : ReportUnit :=
  if one then { r with bank1 := b } else { r with bank0 := b }

/-- The bank that is FILLING, if one is. -/
def ReportUnit.fillingBank (r : ReportUnit) : Option Bool :=
  if r.bank0.state = .filling then some false
  else if r.bank1.state = .filling then some true
  else none

/-- A bank becomes READY, and the other FILLING if it is EMPTY (R156, R157). -/
def ReportUnit.makeReady (r : ReportUnit) (one : Bool) : ReportUnit :=
  let r := r.setBank one { r.bank one with state := .ready }
  if (r.bank !one).state = .empty then r.setBank (!one) { r.bank (!one) with state := .filling } else r

/-- A passage record is appended to the FILLING bank, or discarded with PASSAGE_OVERRUN (R156). -/
def appendPassage (p : PassageRecord) (s : State) : State :=
  match s.report.fillingBank with
  | none => eventEntered .passageOverrun none none s
  | some one =>
    let b := s.report.bank one
    let r := s.report.setBank one { b with records := b.records ++ [p] }
    let r := if b.records.length + 1 ≥ Config.bankCap then r.makeReady one else r
    { s with report := r }

end Sys2Proof.Machine
end

