-- ==== Sys2Proof/Machine/Barrier.lean ====
section
/-! DEFINITION. The Barrier Controller: position and proving, orders and phases, the red-proved gate, regulation,
current and travel supervision (06, 6.2 to 6.5). -/

namespace Sys2Proof.Machine

/-! ## Reading and writing one barrier -/

/-- The table entry of a barrier. -/
def State.barrierEntry (s : State) (i : Fin 4) : BarrierEntry := s.tm.tables.barrier[i]

/-- A barrier record replaced. -/
def State.setBarrier (s : State) (i : Fin 4) (r : BarrierRecord) : State :=
  { s with barriers := s.barriers.set i r }

/-- The barrier is under calibration (R124). -/
def underCalibration (s : State) (i : Fin 4) : Bool :=
  match s.cal.current with
  | some c => c.barrier == i
  | none => false

/-- The red-proved flag of the barrier's own road side (R113). -/
def sideRed (s : State) (i : Fin 4) : Bool := s.lamp.redProved.get (s.barrierEntry i).roadSide

/-- The other end. -/
def otherEnd : BarrierEnd → BarrierEnd
  | .down => .up
  | .up => .down

/-- The travel time toward an end (R114). -/
def BarrierEntry.travel (e : BarrierEntry) : BarrierEnd → Nat
  | .down => e.travelDown
  | .up => e.travelUp

/-- The barrier is proved at an end. -/
def BarrierRecord.provedAt (r : BarrierRecord) : BarrierEnd → Bool
  | .down => r.provedDown
  | .up => r.provedUp

/-- The barrier is proved at its target end. -/
def BarrierRecord.provedAtTarget (r : BarrierRecord) : Bool :=
  match r.target with
  | some d => r.provedAt d
  | none => false

/-- The contact of an end is closed. -/
def Contacts.at_ (c : Contacts) : BarrierEnd → Bool
  | .down => c.down
  | .up => c.up

/-! ## Position and proving (6.2) -/

/-- The span of angle codes is usable (R107). -/
def BarrierEntry.spanUsable (e : BarrierEntry) : Bool := decide (e.downCode + Config.spanMin ≤ e.upCode)

/-- The position from the latest angle result: floor((code − down_code) × 1000 / (up_code − down_code)), clamped to
0-1000; none where it is invalid (R107). -/
def positionOf (e : BarrierEntry) (result : Option ScanResult) : Option Nat :=
  match result with
  | none => none
  | some r =>
    if r.overrange || decide (24 ≤ e.angleEntry) || !e.spanUsable then none
    else
      let q := (((r.code : Int) - e.downCode) * 1000).fdiv ((e.upCode : Int) - e.downCode)
      some (min 1000 q.toNat)

/-- Proved down and proved up (R108). -/
def provingOf (e : BarrierEntry) (c : Contacts) (position : Option Nat) : Bool × Bool :=
  if !e.inService then (false, false)
  else match position with
    | none => (c.down, c.up)
    | some p => (c.down && decide (p ≤ e.downWindow), c.up && decide (e.upWindow ≤ p))

/-- The barrier is in disagreement (R110). -/
def disagreementOf (c : Contacts) (position : Option Nat) : Bool :=
  (c.up && c.down) ||
  match position with
  | none => false
  | some p => (c.down && decide (Config.falseDownPos < p)) || (c.up && decide (p < Config.falseUpPos))

/-! ## Entering the phases (R111 to R118) -/

/-- A stop order (R111). -/
def BarrierRecord.stopped (r : BarrierRecord) : BarrierRecord :=
  { r with target := none, phase := .idle, drive := .off, phaseEnd := none, moveStart := none, runOrigin := none,
           runStart := none, openLoopOnly := false, retries := 0, travelEnd := none, settleFrom := none,
           underway := false }

/-- HELD: drive off, with phase_end, move_start and travel_end discarded (R113), on every entry: move_start on those of
which R112 and R117 do not say so too (DESIGN CHOICE, log entry 48). A movement under way stays so: only AT_END, a stop
order or an opposite order ends it (6.3). -/
def BarrierRecord.held (r : BarrierRecord) : BarrierRecord :=
  { r with phase := .held, drive := .off, phaseEnd := none, moveStart := none, travelEnd := none,
           settleFrom := none }

/-- AT_END: drive off, with phase_end and travel_end discarded (R112). The movement is over, and open_loop_only
with it (R115). -/
def BarrierRecord.ended (r : BarrierRecord) : BarrierRecord :=
  { r with phase := .atEnd, drive := .off, phaseEnd := none, travelEnd := none, settleFrom := none,
           openLoopOnly := false, underway := false }

/-- The position lies within brake_pos of an end (R116). -/
def inBrakeZone (e : BarrierEntry) (d : BarrierEnd) (p : Nat) : Bool :=
  match d with
  | .down => decide (p ≤ e.brakePos)
  | .up => decide (1000 - e.brakePos ≤ p)

/-- A movement in RUN enters BRAKE where its position is valid, open_loop_only no and the position in the brake
zone (R116). -/
def BarrierRecord.brakeTest (e : BarrierEntry) (d : BarrierEnd) (r : BarrierRecord) : BarrierRecord :=
  match r.position with
  | some p =>
    if !r.openLoopOnly && inBrakeZone e d p then { r with phase := .brake, drive := .on d e.brakeDuty } else r
  | none => r

/-- Entry to RUN: rated_duty toward the target, with run_start and run_origin set and the brake test made at once
(R114). -/
def BarrierRecord.toRun (e : BarrierEntry) (now : Time) (d : BarrierEnd) (r : BarrierRecord) : BarrierRecord :=
  BarrierRecord.brakeTest e d
    { r with phase := .run, drive := .on d e.ratedDuty, phaseEnd := none, runStart := some now,
             runOrigin := r.position, settleFrom := none }

/-- Entry to START; `fresh` is not a retry restart, and sets move_start and travel_end. With start_ms 0 the
movement enters RUN at once (R114, R119). -/
def BarrierRecord.toStart (e : BarrierEntry) (now : Time) (d : BarrierEnd) (fresh : Bool)
    (r : BarrierRecord) : BarrierRecord :=
  let r := { r with phase := .start, drive := .on d e.overdriveDuty, phaseEnd := some (after now e.startMs),
                    settleFrom := none, underway := true }
  let r := if fresh then
      { r with moveStart := some now, travelEnd := some (after now (e.travel d * 3 / 2)) }
    else r
  if e.startMs = 0 then r.toRun e now d else r

/-- A movement toward an end is about to enter START: HELD in its place for a lower movement without red proved
(R113, R114). -/
def BarrierRecord.move (e : BarrierEntry) (now : Time) (red : Bool) (d : BarrierEnd) (fresh : Bool)
    (r : BarrierRecord) : BarrierRecord :=
  if d = .down ∧ red = false then r.held else r.toStart e now d fresh

/-- Entry to AT_END, which ends BARRIER_TIMEOUT (R112). -/
def enterAtEnd (i : Fin 4) (s : State) : State :=
  conditionEnd .barrierTimeout (some i.val) (s.setBarrier i s.barriers[i].ended)

/-- A movement is started toward an end under the gate. -/
def startMove (i : Fin 4) (d : BarrierEnd) (fresh : Bool) (s : State) : State :=
  s.setBarrier i (s.barriers[i].move (s.barrierEntry i) s.now (sideRed s i) d fresh)

/-- "Begin" of the order table: target, retries 0, BARRIER_STALL ended, then AT_END or a movement (R112). -/
def beginOrder (i : Fin 4) (d : BarrierEnd) (s : State) : State :=
  let s := conditionEnd .barrierStall (some i.val)
    (s.setBarrier i { s.barriers[i] with target := some d, retries := 0, openLoopOnly := false, underway := false })
  if s.barriers[i].provedAt d then enterAtEnd i s else startMove i d true s

/-- An opposite order in START, RUN or BRAKE: drive off and REVERSE (R118). -/
def BarrierRecord.reversed (now : Time) (d : BarrierEnd) (r : BarrierRecord) : BarrierRecord :=
  { r with target := some d, phase := .reverse, drive := .off, phaseEnd := some (after now Config.reversePause),
           runOrigin := none, runStart := none, travelEnd := none, openLoopOnly := false, retries := 0,
           underway := false }

/-- A lower or raise order is taken by a barrier according to its phase; an out-of-service barrier takes none
(R112). -/
def order (i : Fin 4) (d : BarrierEnd) (s : State) : State :=
  let r := s.barriers[i]
  if !(s.barrierEntry i).inService then s
  else if r.phase = .stalled then beginOrder i d s
  else if r.target = some d then s
  else match r.phase with
    | .start | .run | .brake => s.setBarrier i (r.reversed s.now d)
    | .reverse => s.setBarrier i { r with target := some d }
    | .idle | .held | .settle | .tripped | .stalled | .atEnd => beginOrder i d s

/-- A lower or raise order to each in-service barrier of a role (R63). -/
def orderRole (role : BarrierRole) (d : BarrierEnd) (s : State) : State :=
  forEach 4 (fun i s => if (s.barrierEntry i).role = role then order i d s else s) s

/-- A stop order to every barrier (R60, R82). -/
def stopAll (s : State) : State := forEach 4 (fun i s => s.setBarrier i s.barriers[i].stopped) s

/-! ## The gate (R113) -/

/-- A driven phase: START, RUN or BRAKE. -/
def BarrierPhase.driven : BarrierPhase → Bool
  | .start | .run | .brake => true
  | .idle | .held | .settle | .reverse | .tripped | .stalled | .atEnd => false

/-- The Lamp Controller hands on a changed red-proved flag of a side: gained, every barrier held there starts;
lost, every barrier driven down there is held with its run discarded. A barrier under calibration is not gated
(R113). -/
def gateSide (side : Side) (red : Bool) (s : State) : State :=
  forEach 4 (fun i s =>
    let r := s.barriers[i]
    let e := s.barrierEntry i
    if !e.inService || e.roadSide != side || underCalibration s i then s
    else if red then
      if r.phase = .held then s.setBarrier i (r.toStart e s.now .down true) else s
    else if r.phase.driven && r.target == some .down then
      s.setBarrier i { r.held with runOrigin := none, runStart := none }
    else s) s

/-! ## Judging proving and disagreement (R108, R110, R117) -/

/-- The flags proved_down and proved_up are formed again; a barrier in SETTLE that is proved enters AT_END, and
one pushed off its end in AT_END begins a new movement toward it (R108, R117). -/
def judgeProving (i : Fin 4) (s : State) : State :=
  let r := s.barriers[i]
  let p := provingOf (s.barrierEntry i) s.contacts[i] r.position
  let s := s.setBarrier i { r with provedDown := p.1, provedUp := p.2 }
  let r := s.barriers[i]
  match r.phase, r.target with
  | .settle, some d => if r.provedAt d then enterAtEnd i s else s
  | .atEnd, some d => if r.provedAt d then s else startMove i d true s
  | _, _ => s

/-- Disagreement is judged for an in-service barrier that is not under calibration (R110). -/
def judgeDisagreement (i : Fin 4) (s : State) : State :=
  let r := s.barriers[i]
  if !(s.barrierEntry i).inService || underCalibration s i then s
  else
    match disagreementOf s.contacts[i] r.position, r.disagreeing with
    | true, false =>
      s.setBarrier i { r with disagreeing := true, disagreeEnd := some (after s.now Config.disagreeTime) }
    | false, true =>
      conditionEnd .barrierDisagree (some i.val)
        (s.setBarrier i { r with disagreeing := false, disagreeEnd := none })
    | true, true | false, false => s

/-- Both judgements, made at a contact change and at a new position. -/
def judgeBarrier (i : Fin 4) (s : State) : State := judgeDisagreement i (judgeProving i s)

/-! ## Contacts (R117) -/

/-- The phase a SETTLE is entered from. -/
def BarrierPhase.settleFrom : BarrierPhase → Option SettleFrom
  | .start => some .start
  | .run => some .run
  | .brake => some .brake
  | .idle | .held | .settle | .reverse | .tripped | .stalled | .atEnd => none

/-- The target contact has closed in a driven phase: drive off and SETTLE (R117). -/
def BarrierRecord.toSettle (r : BarrierRecord) : BarrierRecord :=
  { r with phase := .settle, drive := .off, phaseEnd := none, runOrigin := none, runStart := none,
           settleFrom := r.phase.settleFrom }

/-- The target contact has opened in SETTLE: HELD for a lower movement without red proved, else BRAKE or RUN by
settle_from (R117). -/
def BarrierRecord.fromSettle (e : BarrierEntry) (now : Time) (red : Bool) (d : BarrierEnd)
    (r : BarrierRecord) : BarrierRecord :=
  if d = .down ∧ red = false then r.held
  else if r.settleFrom = some .brake ∧ r.openLoopOnly = false then
    { r with phase := .brake, drive := .on d e.brakeDuty, settleFrom := none }
  else r.toRun e now d

/-- A contact of a barrier has closed or opened: the movement it ends or resumes (R117). -/
def contactMotion (i : Fin 4) (d : BarrierEnd) (closed : Bool) (s : State) : State :=
  let r := s.barriers[i]
  if r.target != some d || underCalibration s i then s
  else if closed then if r.phase.driven then s.setBarrier i r.toSettle else s
  else if r.phase = .settle then s.setBarrier i (r.fromSettle (s.barrierEntry i) s.now (sideRed s i) d)
  else s

/-! ## Angle results (R107, R109, R115, R116) -/

/-- The regulated duty: rated_duty + floor(lag × loop_gain / 100), clamped to 0-clamp_duty, with the lag behind
the ramp from run_origin (R115). -/
def regulatedDuty (e : BarrierEntry) (d : BarrierEnd) (origin position elapsed : Nat) : Nat :=
  let t := e.travel d
  let done := 1000 * min elapsed t / t
  let lag : Int := match d with
    | .down => (position : Int) - ((origin - done : Nat) : Int)
    | .up => ((min 1000 (origin + done) : Nat) : Int) - (position : Int)
  let duty := (e.ratedDuty : Int) + (lag * (e.loopGain : Int)).fdiv 100
  min e.clampDuty duty.toNat

/-- What a new position does to a movement. A movement that loses its position is open_loop_only from then to its end, in
whatever phase it stands, and in RUN and BRAKE runs at rated_duty (R109, R115; log entry 24). In RUN a valid position is
brake-tested, and a regulated RUN takes a new duty (R115, R116). A movement that returns from BRAKE to RUN keeps the
run_start and run_origin it holds (DESIGN CHOICE, log entry 46). -/
def BarrierRecord.steer (e : BarrierEntry) (now : Time) (was : Option Nat) (r : BarrierRecord) : BarrierRecord :=
  match r.target with
  | none => r
  | some d =>
    match r.phase with
    | .run | .brake =>
      match r.position with
      | none =>
        if was.isSome then { r with phase := .run, openLoopOnly := true, drive := .on d e.ratedDuty } else r
      | some p =>
        if r.phase = .brake then r
        else if !r.openLoopOnly && inBrakeZone e d p then
          { r with phase := .brake, drive := .on d e.brakeDuty }
        else match e.closedLoop, r.runOrigin, r.runStart, r.openLoopOnly with
          | true, some o, some t0, false => { r with drive := .on d (regulatedDuty e d o p (now - t0).toNat) }
          | _, _, _, _ => r
    | .idle | .held | .start | .settle | .reverse | .tripped | .stalled | .atEnd =>
      if r.underway && was.isSome && r.position.isNone then { r with openLoopOnly := true } else r

/-- FEEDBACK_LOST is judged on a stored angle result (R109). -/
def judgeFeedback (i : Fin 4) (overrange : Bool) (s : State) : State :=
  let r := s.barriers[i]
  match overrange, r.feedbackLost with
  | true, false => conditionPresent .feedbackLost (some i.val) (s.setBarrier i { r with feedbackLost := true })
  | false, true => conditionEnd .feedbackLost (some i.val) (s.setBarrier i { r with feedbackLost := false })
  | true, true | false, false => s

/-- A barrier takes a stored result of its angle entry: FEEDBACK_LOST, the new position, the movement it steers,
and the judgements on it (R107 to R110, R115, R116). -/
def angleResult (i : Fin 4) (result : ScanResult) (s : State) : State :=
  let e := s.barrierEntry i
  let s := if e.inService then judgeFeedback i result.overrange s else s
  let r := s.barriers[i]
  let r' := { r with position := positionOf e (some result) }
  let r' := if underCalibration s i then r' else r'.steer e s.now r.position
  judgeBarrier i (s.setBarrier i r')

/-! ## Current and travel (6.5) -/

/-- A result that trips a drive: classed HIGH or flagged OVERRANGE (R119). -/
def ScanResult.trips (r : ScanResult) : Bool := r.cls == .high || r.overrange

/-- A trip: drive off and BARRIER_OVERCURRENT, then TRIPPED with one more retry, or STALLED with BARRIER_STALL on
the fourth (R119, R120). -/
def trip (i : Fin 4) (s : State) : State :=
  let s := eventEntered .barrierOvercurrent (some i.val) none s
  let r := s.barriers[i]
  if r.retries < Config.retryMax then
    s.setBarrier i { r with phase := .tripped, drive := .off, retries := r.retries + 1,
                            phaseEnd := some (after s.now Config.tripPause) }
  else
    conditionPresent .barrierStall (some i.val)
      (s.setBarrier i { r with phase := .stalled, drive := .off, phaseEnd := none })

/-- A barrier that is not under calibration takes a stored result of its current entry (R119). -/
def currentResult (i : Fin 4) (result : ScanResult) (s : State) : State :=
  if s.barriers[i].phase.driven && result.trips && !underCalibration s i then trip i s else s

/-! ## The ends of the timed phases -/

/-- A START phase ends, and the movement enters RUN (R114). -/
def startPhaseEnds (i : Fin 4) (s : State) : State :=
  let r := s.barriers[i]
  match r.target with
  | some d => if r.phase = .start && due s.now r.phaseEnd then s.setBarrier i (r.toRun (s.barrierEntry i) s.now d) else s
  | none => s

/-- A pause ends: AT_END where the target is proved already, else the movement under the gate (R118, R119). -/
def pauseEnds (phase : BarrierPhase) (fresh : Bool) (i : Fin 4) (s : State) : State :=
  let r := s.barriers[i]
  match r.target with
  | some d =>
    if r.phase = phase && due s.now r.phaseEnd then
      if r.provedAt d then enterAtEnd i s else startMove i d fresh s
    else s
  | none => s

/-- Travel supervision comes to its limit with the barrier not proved at its target end (R121). Where it is proved there but
not AT_END, travel_end stays, and a later expiry can still find the barrier not proved (DESIGN CHOICE, log entry 42). -/
def travelEnds (i : Fin 4) (s : State) : State :=
  let r := s.barriers[i]
  if due s.now r.travelEnd && !r.provedAtTarget then
    conditionPresent .barrierTimeout (some i.val) (s.setBarrier i { r with travelEnd := none })
  else s

/-- The disagreement timer ends (R110). -/
def disagreementEnds (i : Fin 4) (s : State) : State :=
  let r := s.barriers[i]
  if due s.now r.disagreeEnd then
    conditionPresent .barrierDisagree (some i.val) (s.setBarrier i { r with disagreeEnd := none })
  else s

/-! ## Table writes (R105) -/

/-- A barrier taken out of service by a table write: IDLE with drive off, no disagreement timer, its conditions
ended (R105). -/
def takeBarrierOut (i : Fin 4) (s : State) : State :=
  let s := s.setBarrier i { s.barriers[i].stopped with
    disagreeEnd := none, disagreeing := false, feedbackLost := false }
  conditionEnd .feedbackLost (some i.val) (conditionEnd .barrierDisagree (some i.val)
    (conditionEnd .barrierTimeout (some i.val) (conditionEnd .barrierStall (some i.val) s)))

/-- After a write to the barrier table or the scan list: a position whose angle result, entry or span no longer
serves becomes invalid, and the judgements are made on it (R107, R108, R128). A valid position keeps its value
until the next angle result (R111). -/
def rejudgePosition (i : Fin 4) (s : State) : State :=
  let e := s.barrierEntry i
  let result := (s.scan.results[e.angleEntry]?).getD none
  let r := s.barriers[i]
  let r := if (positionOf e result).isSome then r else { r with position := none }
  judgeBarrier i (s.setBarrier i r)

end Sys2Proof.Machine
end

