-- ==== Sys2Proof/Machine/Lamp.lean ====
section
/-! DEFINITION. The Lamp Controller: modes and flash, proving, red proved and the dark timers, the lamp test and
the audible warnings (05). -/

namespace Sys2Proof.Machine

/-- The table entry of a lamp. -/
def State.lampEntry (s : State) (i : Fin 12) : LampEntry := s.tm.tables.lamp[i]

/-- The record of a lamp. -/
def State.lampRecord (s : State) (i : Fin 12) : LampRecord := s.lamp.lamps[i]

/-- A lamp record replaced. -/
def State.setLamp (s : State) (i : Fin 12) (r : LampRecord) : State :=
  { s with lamp := { s.lamp with lamps := s.lamp.lamps.set i r } }

/-- One half-period of the flash, in ms (R90). -/
def halfPeriod (s : State) : Nat := s.params.flashPeriod / 2

/-- Two flash periods, in ms: the dark timer and a lamp test slot (R99, R101). -/
def twoFlashPeriods (s : State) : Nat := 4 * halfPeriod s

/-! ## Red proved and the dark timers (R98, R99) -/

/-- A side has red proved: an in-service red lamp of it has proved yes (R98). -/
def sideHasRed (s : State) (side : Side) : Bool :=
  (List.finRange 12).any fun i =>
    let e := s.lampEntry i
    e.inService && e.colour == .red && e.roadSide == side && (s.lampRecord i).proved

/-- The number of a road side (00_scope, "Indices and names"). -/
def sideNumber : Side → Nat
  | .north => 0
  | .south => 1

/-- The flag of one side is formed again. Gained: the dark timer is discarded and ROAD_SIDE_DARK ends. Lost while
the aspect is RED: the dark timer is set. A change is handed to the Barrier Controller (R98, R99, R113). -/
def formRed (side : Side) (s : State) : State :=
  let red := sideHasRed s side
  if red = s.lamp.redProved.get side then s
  else
    let s := { s with lamp := { s.lamp with redProved := s.lamp.redProved.set side red } }
    let s :=
      if red then
        conditionEnd .roadSideDark (some (sideNumber side))
          { s with lamp := { s.lamp with darkEnd := s.lamp.darkEnd.set side none } }
      else if s.lamp.aspect = .red then
        { s with lamp := { s.lamp with
          darkEnd := s.lamp.darkEnd.set side (some (after s.now (twoFlashPeriods s))) } }
      else s
    gateSide side red s

/-- Both flags are formed again. -/
def formBothRed (s : State) : State := formRed .south (formRed .north s)

/-! ## Modes (R89) -/

/-- An interval is opened (R94). -/
def LampRecord.openInterval (r : LampRecord) (start stop : Time) : LampRecord :=
  { r with intervalStart := some start, intervalEnd := some stop, intervalOk := false }

/-- An open interval is abandoned without judgement (R89). -/
def LampRecord.dropInterval (r : LampRecord) : LampRecord :=
  { r with intervalStart := none, intervalEnd := none, intervalOk := false }

/-- The record of a lamp whose mode changes: darkening abandons the interval and clears proved, and any change away
from DARK clears stuck-on (R89, R97). -/
def LampRecord.withMode (r : LampRecord) (mode : LampMode) (now : Time) : LampRecord :=
  let r := { r.dropInterval with mode := mode, modeSince := now }
  if mode = .dark then { r with proved := false } else { r with stuckOn := false }

/-- The mode of a lamp is set; a lamp whose mode is the same is not changed (R89, R97). -/
def setMode (i : Fin 12) (mode : LampMode) (s : State) : State :=
  let r := s.lampRecord i
  if r.mode = mode then s
  else
    let s := s.setLamp i (r.withMode mode s.now)
    if mode = .dark then s else conditionEnd .lampStuckOn (some i.val) s

/-- The mode the aspect gives a lamp (R62, R89). -/
def aspectMode (e : LampEntry) (a : Aspect) : LampMode :=
  if !e.inService then .dark
  else match a, e.colour with
    | .red, .red => .flash
    | .amber, .amber => .steady
    | .red, .amber | .amber, .red | .dark, _ => .dark

/-! ## Judging an interval (R94 to R96) -/

/-- The unproved count and LAMP_FAIL after a judged interval (R96). -/
def countJudged (i : Fin 12) (ok : Bool) (s : State) : State :=
  let r := s.lampRecord i
  if ok then conditionEnd .lampFail (some i.val) (s.setLamp i { r with proved := true, unproved := 0 })
  else
    let n := min 2 (r.unproved + 1)
    let s := s.setLamp i { r with proved := false, unproved := n }
    if n = 2 ∧ r.unproved < 2 then conditionPresent .lampFail (some i.val) s else s

/-- The open interval of a flashing lamp is judged by its interval_ok (R94). -/
def judgeInterval (i : Fin 12) (s : State) : State :=
  let ok := (s.lampRecord i).intervalOk
  countJudged i ok (s.setLamp i (s.lampRecord i).dropInterval)

/-- A result is a proving result (R93). -/
def ScanResult.proves (r : ScanResult) : Bool := r.cls == .inRange && !r.overrange

/-- A result lies inside a span: it starts at or after its start and ends at or before its end (R93). -/
def ScanResult.inside (r : ScanResult) (start stop : Time) : Bool :=
  reached r.startTime start && reached stop r.endTime

/-- A flashing lamp takes a result of its entry: inside the open interval a proving one sets interval_ok, and the
first that starts at or after its end judges it (R94). -/
def flashResult (i : Fin 12) (res : ScanResult) (s : State) : State :=
  let r := s.lampRecord i
  match r.intervalStart, r.intervalEnd with
  | some start, some stop =>
    if reached res.startTime stop then judgeInterval i s
    else if res.proves && res.inside start stop then s.setLamp i { r with intervalOk := true }
    else s
  | _, _ => s

/-- A dark lamp takes a result of its entry: stuck-on. A result flagged OVERRANGE that is classed LOW or IN_RANGE makes
LAMP_STUCK_ON active and does not end it (R97; DESIGN CHOICE, log entry 38). -/
def darkResult (i : Fin 12) (res : ScanResult) (s : State) : State :=
  let r := s.lampRecord i
  if !reached res.startTime r.modeSince then s
  else
    match res.trips, r.stuckOn with
    | true, false => conditionPresent .lampStuckOn (some i.val) (s.setLamp i { r with stuckOn := true })
    | false, true => conditionEnd .lampStuckOn (some i.val) (s.setLamp i { r with stuckOn := false })
    | true, true | false, false => s

/-- A lamp takes a stored result of its scan entry, and the red-proved flags are formed again (R94 to R98). -/
def lampResult (i : Fin 12) (res : ScanResult) (s : State) : State :=
  let r := s.lampRecord i
  match r.mode with
  | .flash => formBothRed (flashResult i res s)
  | .steady => if reached res.startTime r.modeSince then formBothRed (countJudged i res.proves s) else s
  | .dark => darkResult i res s

/-! ## The flash generator (R90) -/

/-- The other phase. -/
def otherPhase : Phase → Phase
  | .a => .b
  | .b => .a

/-- The lit interval of a flashing lamp of the phase that starts now; an interval not yet judged is judged at that
moment (R94). -/
def openLit (phase : Phase) (i : Fin 12) (s : State) : State :=
  if (s.lampRecord i).mode = .flash ∧ (s.lampEntry i).phase = phase then
    let s := if (s.lampRecord i).intervalStart.isSome then judgeInterval i s else s
    s.setLamp i ((s.lampRecord i).openInterval s.now (after s.now (halfPeriod s)))
  else s

/-- A half-period of a phase starts now (R90, R94). The intervals that are then judged are judged by rising index, and
the red-proved flags are formed once, after all of them (DESIGN CHOICE, log entry 43). -/
def startHalfPeriod (phase : Phase) (s : State) : State :=
  let s := { s with lamp := { s.lamp with phase := some phase, phaseEnd := some (after s.now (halfPeriod s)) } }
  formBothRed (forEach 12 (openLit phase) s)

/-- A half-period ends while the generator runs, and the other phase starts (R90). -/
def halfPeriodEnds (s : State) : State :=
  match s.lamp.phase with
  | some p => if due s.now s.lamp.phaseEnd then startHalfPeriod (otherPhase p) s else s
  | none => s

/-! ## Taking the aspect and the sound (R62, R89, R90, R99, R102) -/

/-- The dark timer of a side as the aspect becomes RED without red proved there, or leaves RED (R99). -/
def darkTimerOnAspect (side : Side) (s : State) : State :=
  if s.lamp.aspect = .red then
    if s.lamp.redProved.get side then s
    else { s with lamp := { s.lamp with
      darkEnd := s.lamp.darkEnd.set side (some (after s.now (twoFlashPeriods s))) } }
  else
    conditionEnd .roadSideDark (some (sideNumber side))
      { s with lamp := { s.lamp with darkEnd := s.lamp.darkEnd.set side none } }

/-- The aspect handed on differs from the one held: the lamps take their modes, the generator starts in phase A or
stops, the dark timers are set or discarded, and red proved is formed again. -/
def changeAspect (a : Aspect) (s : State) : State :=
  let was := s.lamp.aspect
  let s := { s with lamp := { s.lamp with aspect := a } }
  let s := forEach 12 (fun i s => setMode i (aspectMode (s.lampEntry i) a) s) s
  let s := formBothRed s
  if a = .red then
    startHalfPeriod .a (darkTimerOnAspect .south (darkTimerOnAspect .north s))
  else
    let s := { s with lamp := { s.lamp with phase := none, phaseEnd := none } }
    if was = .red then darkTimerOnAspect .south (darkTimerOnAspect .north s) else s

/-- The sound mode handed on differs from the one held: sound_since becomes now (R102). -/
def changeSound (on : Bool) (s : State) : State :=
  { s with lamp := { s.lamp with
    sound := on, audible := s.lamp.audible.map fun a => { a with soundSince := s.now } } }

/-- The Lamp Controller takes the aspect and the sound as they stand at the end of the Sequencer's event (R62,
R85). -/
def takeAspect (s : State) : State :=
  let s := if s.crossing.aspect = s.lamp.aspect then s else changeAspect s.crossing.aspect s
  if s.crossing.sound = s.lamp.sound then s else changeSound s.crossing.sound s

/-- A dark timer ends: ROAD_SIDE_DARK (R99). -/
def darkTimerEnds (side : Side) (s : State) : State :=
  if due s.now (s.lamp.darkEnd.get side) then
    conditionPresent .roadSideDark (some (sideNumber side))
      { s with lamp := { s.lamp with darkEnd := s.lamp.darkEnd.set side none } }
  else s

/-! ## The audible warnings (R102) -/

/-- A result of an audible entry taken while sound is on closes one scan cycle of the warning (R102). -/
def audibleResult (i : Fin 2) (res : ScanResult) (s : State) : State :=
  let a := s.lamp.audible[i]
  if s.lamp.sound && reached res.startTime a.soundSince then
    let set (n : Nat) : State :=
      { s with lamp := { s.lamp with audible := s.lamp.audible.set i { a with unproved := n } } }
    if res.proves then conditionEnd .audibleFail (some i.val) (set 0)
    else if a.unproved < 2 ∧ a.unproved + 1 = 2 then conditionPresent .audibleFail (some i.val) (set 2)
    else set (min 2 (a.unproved + 1))
  else s

/-! ## The lamp drive duty (R91) -/

/-- duty = min(100, floor(lamp_base_duty × v_nominal / V_bat)) from a V_bat above 0 (R91). -/
def setDuty (vBat : Nat) (s : State) : State :=
  if vBat = 0 then s
  else { s with lamp := { s.lamp with
    duty := some (min 100 (s.params.lampBaseDuty * s.params.vNominal / vBat)) } }

/-! ## The lamp test (R100, R101) -/

/-- The in-service lamps from an index on, in index order. -/
def nextLamp (s : State) (from_ : Nat) : Option (Fin 12) :=
  (List.finRange 12).find? fun i => decide (from_ ≤ i.val) && (s.lampEntry i).inService

/-- The slot of the next in-service lamp opens, or the test ends (R101). -/
def openSlot (from_ : Nat) (s : State) : State :=
  match nextLamp s from_ with
  | some i =>
    let s := { s with lamp := { s.lamp with test := { s.lamp.test with
      lamp := some i, slotEnd := some (after s.now (twoFlashPeriods s)) } } }
    setMode i .steady s
  | none =>
    { s with lamp := { s.lamp with test := { s.lamp.test with
      run := if s.lamp.test.allPassed then .donePass else .doneFail, lamp := none, slotEnd := none } } }

/-- A lamp test starts (R100, R101). -/
def startLampTest (s : State) : State :=
  let s := { s with lamp := { s.lamp with
    test := { run := .running, lamp := none, slotEnd := none, allPassed := true } } }
  openSlot 0 (forEach 12 (fun i s => setMode i .dark s) s)

/-- A slot ends: the lamp passes if its proved is yes, becomes DARK, and the next slot opens (R101). -/
def slotEnds (s : State) : State :=
  match s.lamp.test.lamp with
  | some i =>
    if due s.now s.lamp.test.slotEnd then
      let passed := (s.lampRecord i).proved
      let s := { s with lamp := { s.lamp with test := { s.lamp.test with
        allPassed := s.lamp.test.allPassed && passed } } }
      openSlot (i.val + 1) (formBothRed (setMode i .dark s))
    else s
  | none => s

/-- A running test is ended at once, done-fail (R101). -/
def endLampTest (s : State) : State :=
  if s.lamp.test.run = .running then
    { s with lamp := { s.lamp with
      test := { run := .doneFail, lamp := none, slotEnd := none, allPassed := false } } }
  else s

/-! ## The table-valid flag (R92, R103) -/

/-- One lamp as the flag is cleared: DARK with proved no, unproved 0 and no interval, its conditions ended (R103). -/
def lampOnClear (i : Fin 12) (s : State) : State :=
  let s := setMode i .dark s
  let s := s.setLamp i { (s.lampRecord i).dropInterval with proved := false, unproved := 0, stuckOn := false }
  conditionEnd .lampStuckOn (some i.val) (conditionEnd .lampFail (some i.val) s)

/-- The audible counts as the flag is cleared: 0 (R103). -/
def zeroAudible (s : State) : State :=
  { s with lamp := { s.lamp with audible := s.lamp.audible.map fun a => { a with unproved := 0 } } }

/-- The flag is cleared: a lamp test ended, every lamp record reset, the audible counts 0, the audible conditions
ended (R101, R103). -/
def lampsOnClear (s : State) : State :=
  formBothRed (forEach 2 (fun i s => conditionEnd .audibleFail (some i.val) s)
    (zeroAudible (forEach 12 lampOnClear (endLampTest s))))

end Sys2Proof.Machine
end

