-- ==== Sys2Proof/Machine/Sequencer.lean ====
section
/-! DEFINITION. The Crossing Sequencer: closure demand, the two programs, the opening permit, failure, the proved
indication (04). -/

namespace Sys2Proof.Machine

/-- The crossing record replaced. -/
def State.setCrossing (s : State) (c : CrossingRecord) : State := { s with crossing := c }

/-! ## Closure demand (R61) -/

/-- A section record is free (R18). -/
def SectionRecord.free (r : SectionRecord) : Bool :=
  match r.state with
  | .clear => true
  | .restoring => r.count == some 0
  | .occupied | .disturbed => false

/-- An in-service approach is STRUCK. -/
def anyStruck (s : State) : Bool :=
  (List.finRange 4).any fun i => s.tm.tables.approach[i].inService && s.approaches[i].state == .struck

/-- An in-service ISLAND section is not free. -/
def anyIslandHeld (s : State) : Bool :=
  (List.finRange 8).any fun i =>
    let e := s.tm.tables.sectionTable[i]
    e.inService && e.kind == .island && !s.sections[i].free

/-- Closure demand holds (R61). -/
def demand (s : State) : Bool := anyStruck s || anyIslandHeld s || s.crossing.closureRequest

/-! ## Waits on barriers and on red (R66, R67) -/

/-- Every in-service barrier is proved at an end. -/
def allProved (d : BarrierEnd) (s : State) : Bool :=
  (List.finRange 4).all fun i => !(s.barrierEntry i).inService || s.barriers[i].provedAt d

/-- Every road side on which an in-service barrier of a role stands has red proved. -/
def roleRed (role : BarrierRole) (s : State) : Bool :=
  (List.finRange 4).all fun i =>
    let e := s.barrierEntry i
    !(e.inService && e.role == role) || s.lamp.redProved.get e.roadSide

/-- The role a LOWER step orders down, and waits for red proved on its sides (R66). -/
def StepKind.lowered : StepKind → Option BarrierRole
  | .lowerEntry => some .entry
  | .lowerExit => some .exit
  | .finish | .amber | .red | .dark | .soundOn | .soundOff | .raiseEntry | .raiseExit | .wait | .waitDown
  | .waitUp => none

/-! ## Program steps (R63, R65) -/

/-- The aspect of the crossing record is set. -/
def setAspect (a : Aspect) (s : State) : State := s.setCrossing { s.crossing with aspect := a }

/-- The sound of the crossing record is set. -/
def setSound (on : Bool) (s : State) : State := s.setCrossing { s.crossing with sound := on }

/-- The wait of the current step is set. -/
def setWait (w : StepWait) (s : State) : State := s.setCrossing { s.crossing with stepWait := w }

/-- The effect a step has at its entry, and what it then waits for; `none` as the second part is a step complete
at once (R63, R65 to R67). END has no effect and ends the program. -/
def stepEffect (k : ProgramStep) (s : State) : State × Option StepWait :=
  match k.kind with
  | .finish => (s, none)
  | .amber => (setAspect .amber s, none)
  | .red => (setAspect .red s, none)
  | .dark => (setAspect .dark s, none)
  | .soundOn => (setSound true s, none)
  | .soundOff => (setSound false s, none)
  | .lowerEntry =>
    let s := orderRole .entry .down s
    (s, if roleRed .entry s then none else some .redProved)
  | .lowerExit =>
    let s := orderRole .exit .down s
    (s, if roleRed .exit s then none else some .redProved)
  | .raiseEntry => (orderRole .entry .up s, none)
  | .raiseExit => (orderRole .exit .up s, none)
  | .wait =>
    (s.setCrossing { s.crossing with waitEnd := some (after s.now (k.count * 100)) }, some .time)
  | .waitDown => (s, if allProved .down s then none else some .allDown)
  | .waitUp => (s, if allProved .up s then none else some .allUp)

/-- The steps from position `n` on are entered up to the first that waits, or to the program's end; the second part
says whether the program has ended (R65). -/
def runSteps (n : Nat) (steps : List ProgramStep) (s : State) : State × Bool :=
  match steps with
  | [] => (s, true)
  | k :: rest =>
    if k.kind = .finish then (s, true)
    else
      let s := s.setCrossing { s.crossing with step := some n, stepWait := .none, waitEnd := none }
      match stepEffect k s with
      | (s, none) => runSteps (n + 1) rest s
      | (s, some w) => (setWait w s, false)

/-- The table of the program being run. -/
def programTable (s : State) : Program → List ProgramStep
  | .closing => s.tm.tables.closing.toList
  | .opening => s.tm.tables.opening.toList
  | .none => []

/-- The run steps of a program: those before the first END (R63). -/
def runStepsOf (steps : List ProgramStep) : List ProgramStep := steps.takeWhile fun k => k.kind != .finish

/-- The program position and its waits discarded. -/
def CrossingRecord.noProgram (c : CrossingRecord) : CrossingRecord :=
  { c with program := .none, step := none, stepWait := .none, waitEnd := none }

/-! ## Opening (R73 to R75) -/

/-- The crossing becomes OPEN: aspect DARK, sound off, no barrier order (R75). -/
def enterOpen (s : State) : State :=
  s.setCrossing { s.crossing.noProgram with state := .isOpen, aspect := .dark, sound := false }

/-- The opening program runs on from a position; its end makes the crossing OPEN (R65). -/
def runOpening (n : Nat) (s : State) : State :=
  match runSteps n ((programTable s .opening).drop (n - 1)) s with
  | (s, true) => enterOpen s
  | (s, false) => s

/-- The crossing becomes OPENING with the opening program started at step 1; LONG_CLOSURE ends (R74, R79). -/
def enterOpening (s : State) : State :=
  let s := conditionEnd .longClosure none (s.setCrossing { s.crossing with
    state := .opening, program := .opening, step := none, stepWait := .none, waitEnd := none,
    openDelayEnd := none, permitLapse := none, closedSince := none, longReported := false })
  runOpening 1 s

/-- The deadlines of the in-service ARMED approaches (R73). -/
def armedDeadlines (s : State) : List Time :=
  (List.finRange 4).filterMap fun i =>
    if s.tm.tables.approach[i].inService && s.approaches[i].state == .armed then s.approaches[i].deadline
    else none

/-- The lookahead of the opening permit, in ms (R73). -/
def lookahead (s : State) : Nat := s.derivedFigures.rOpen + s.params.minOpen

/-- A deadline is earlier than now + R_open + min_open: the signed difference is below the lookahead (R73). -/
def insideLookahead (s : State) (d : Time) : Bool := decide ((d - s.now).toInt < (lookahead s : Int))

/-- The earliest of some deadlines, judged by the difference modulo 2^32. -/
def earliest : List Time → Option Time
  | [] => none
  | d :: rest =>
    match earliest rest with
    | none => some d
    | some e => some (if earlier e d then e else d)

/-- The opening permit is judged in CLOSED. It begins to hold: the open delay starts, or with open_delay 0 the
crossing becomes OPENING; it holds on: permit_lapse follows the earliest deadline; it does not hold: both are
discarded (R73, R74). -/
def judgePermit (s : State) : State :=
  if s.crossing.state != .closed then s
  else
    let ds := armedDeadlines s
    if demand s || ds.any (insideLookahead s) then
      s.setCrossing { s.crossing with openDelayEnd := none, permitLapse := none }
    else
      let lapse := (earliest ds).map fun d => d - BitVec.ofNat 32 (lookahead s)
      match s.crossing.openDelayEnd with
      | some _ => s.setCrossing { s.crossing with permitLapse := lapse }
      | none =>
        if s.params.openDelay = 0 then enterOpening s
        else s.setCrossing { s.crossing with
          permitLapse := lapse, openDelayEnd := some (after s.now s.params.openDelay) }

/-! ## Closing (R70 to R72) -/

/-- The closing program has ended: CLOSED, and the permit is first judged (R65, R72). -/
def enterClosed (s : State) : State :=
  judgePermit (s.setCrossing { s.crossing.noProgram with
    state := .closed, openDelayEnd := none, permitLapse := none })

/-- The closing program runs on from a position; its end makes the crossing CLOSED (R65). -/
def runClosing (n : Nat) (s : State) : State :=
  match runSteps n ((programTable s .closing).drop (n - 1)) s with
  | (s, true) => enterClosed s
  | (s, false) => s

/-- The record on entry to CLOSING: the old program and every other time discarded, closed_since now (R71, R75,
R79). -/
def CrossingRecord.toClosing (c : CrossingRecord) (now : Time) : CrossingRecord :=
  { c with state := .closing, program := .closing, step := none, stepWait := .none, waitEnd := none,
           openDelayEnd := none, permitLapse := none, exitDelayEnd := none, closedSince := some now,
           longReported := false }

/-- The crossing becomes CLOSING with the closing program started at step 1 (R71). -/
def enterClosing (s : State) : State := runClosing 1 (s.setCrossing (s.crossing.toClosing s.now))

/-- A LOWER step. -/
def StepKind.lowers (k : StepKind) : Bool := k == .lowerEntry || k == .lowerExit

/-- A RAISE step. -/
def StepKind.raises (k : StepKind) : Bool := k == .raiseEntry || k == .raiseExit

/-- The place of the first LOWER step of a program, counted from 0; past its end where it has none. -/
def firstLower (steps : List ProgramStep) : Nat := steps.findIdx fun k => k.kind.lowers

/-- The crossing becomes CLOSING by re-entry: aspect RED at once, sound on if a SOUND_ON step stands before the
re-entry point, and the program runs from there (R70). -/
def reenterClosing (s : State) : State :=
  let steps := runStepsOf (programTable s .closing)
  let n := firstLower steps
  let sounded := (steps.take n).any fun k => k.kind == .soundOn
  let c := s.crossing.toClosing s.now
  runClosing (n + 1) (s.setCrossing { c with aspect := .red, sound := c.sound || sounded })

/-! ## Failure (R76) -/

/-- The exit barriers are ordered down (R77). -/
def orderExits (s : State) : State :=
  orderRole .exit .down (s.setCrossing { s.crossing with exitDelayEnd := none })

/-- Entry to FAILED (R76, R77). -/
def enterFailed (s : State) : State :=
  let s := s.setCrossing { s.crossing.noProgram with
    state := .failed, openDelayEnd := none, permitLapse := none, closedSince := none, longReported := false,
    aspect := .red, sound := false, exitDelayEnd := some (after s.now s.params.exitDelayFailed) }
  let s := orderRole .entry .down s
  if s.params.exitDelayFailed = 0 then orderExits s else s

/-! ## The end of an event (R61, R66, R67, R73, R76, R78, R85) -/

/-- An ALARM notice is taken: a crossing in automatic working becomes FAILED (R76, R145). -/
def takeAlarm (s : State) : State :=
  let s1 := { s with handed := { s.handed with alarm := false } }
  if s.handed.alarm then
    match s.crossing.state with
    | .isOpen | .closing | .closed | .opening => enterFailed s1
    | .failed | .outOfUse => s1
  else s1

/-- The wait of the current step holds (R66, R67). -/
def waitHolds (s : State) : Bool :=
  match s.crossing.stepWait with
  | .allDown => allProved .down s
  | .allUp => allProved .up s
  | .redProved =>
    match s.crossing.step with
    | some n =>
      match ((programTable s s.crossing.program)[n - 1]?).bind (fun k => k.kind.lowered) with
      | some role => roleRed role s
      | none => false
    | none => false
  | .none | .time => false

/-- The program moves on past the step it stands at. -/
def moveOn (s : State) : State :=
  match s.crossing.step with
  | none => s
  | some n =>
    let s := s.setCrossing { s.crossing with stepWait := .none, waitEnd := none }
    match s.crossing.program with
    | .closing => runClosing (n + 1) s
    | .opening => runOpening (n + 1) s
    | .none => s

/-- What the permit depends on in the approaches: each deadline with the head that set it (R57, R73). -/
def deadlinesHeld (s : State) : List (Option Time × Option Nat) :=
  s.approaches.toList.map fun a => (a.deadline, a.deadlineHead)

/-- The Sequencer takes what an event has brought, `before` being the state before the event: demand in OPEN and
OPENING, a wait that holds, the permit in CLOSED at a change of demand or of a deadline (R61, R66, R67, R71, R73,
R75). -/
def sequencerTurn (before s : State) : State :=
  let s := takeAlarm s
  match s.crossing.state with
  | .isOpen => if demand s then enterClosing s else s
  | .opening => if demand s then reenterClosing s else if waitHolds s then moveOn s else s
  | .closing => if waitHolds s then moveOn s else s
  | .closed =>
    if demand s != demand before || deadlinesHeld s != deadlinesHeld before then judgePermit s else s
  | .failed | .outOfUse => s

/-- The proved indication (R78). -/
def judgeProved (s : State) : State :=
  let p := s.crossing.state == .closed && allProved .down s && s.lamp.redProved.north && s.lamp.redProved.south
  s.setCrossing { s.crossing with proved := p }

/-- The crossing takes what has been handed on, `before` being the state before it: the Sequencer its demand, its
permit and its waits, then the Lamp Controller the aspect and the sound, and the proved indication is formed. It is
made after each event of the Approach Timer and at the end of every event (R57, R61, R62, R71, R73, R75, R78, R85;
log entry 13). -/
def crossingTurn (before s : State) : State := judgeProved (takeAspect (sequencerTurn before s))

/-! ## Timers of the crossing -/

/-- A WAIT step's time ends (R65). -/
def waitEnds (s : State) : State :=
  if s.crossing.stepWait = .time && due s.now s.crossing.waitEnd then moveOn s else s

/-- permit_lapse is reached: the permit stops holding (R73, R74). -/
def permitLapses (s : State) : State :=
  if s.crossing.state = .closed && due s.now s.crossing.permitLapse then
    s.setCrossing { s.crossing with openDelayEnd := none, permitLapse := none }
  else s

/-- The open delay ends: OPENING (R74). -/
def openDelayEnds (s : State) : State :=
  if s.crossing.state = .closed && due s.now s.crossing.openDelayEnd then enterOpening s else s

/-- In FAILED the exit delay ends (R77). -/
def exitDelayEnds (s : State) : State :=
  if s.crossing.state = .failed && due s.now s.crossing.exitDelayEnd then orderExits s else s

/-- The crossing has been CLOSING or CLOSED for long_closure: LONG_CLOSURE, once for each span (R79). -/
def longClosureEnds (s : State) : State :=
  match s.crossing.closedSince with
  | some t =>
    if reached s.now (after t s.params.longClosure) && !s.crossing.longReported then
      conditionPresent .longClosure none (s.setCrossing { s.crossing with longReported := true })
    else s
  | none => s

/-! ## Going out of use (R82) -/

/-- Entry to OUT_OF_USE; the Approach Timer's part is in Approach.lean (R82). -/
def sequencerOutOfUse (s : State) : State :=
  conditionEnd .longClosure none (stopAll (s.setCrossing { s.crossing.noProgram with
    state := .outOfUse, aspect := .dark, sound := false, openDelayEnd := none, permitLapse := none,
    exitDelayEnd := none, closedSince := none, longReported := false, closureRequest := false }))

end Sys2Proof.Machine
end

