-- ==== Sys2Proof/Machine/Approach.lean ====
section
/-! DEFINITION. The Approach Timer: wheel speed and groups, the outcome of a measured wheel, strikes, section
change reports and releases (03). -/

namespace Sys2Proof.Machine

/-! ## The section change report (R25) -/

/-- The cause of a section change report; for a wheel its head, direction and arrival time, and those of the
listed sections that it entered, having left the others (R25). -/
inductive ReportCause where
  | wheel (head : Fin 16) (direction : Direction) (arrival : Time) (entered : List Nat)
  | disturb
  | reset
  | setup
  deriving DecidableEq, Repr

/-- One section of a report: its index, state and freedom before and after, and its count after (R25). -/
structure ReportEntry where
  index : Nat
  stateBefore : SectionState
  stateAfter : SectionState
  countAfter : Option Nat
  freeBefore : Bool
  freeAfter : Bool
  deriving DecidableEq, Repr

/-- A section change report (R25). -/
structure SectionReport where
  cause : ReportCause
  entries : List ReportEntry
  deriving DecidableEq, Repr

/-- The report's entry for a section, if it lists it. -/
def SectionReport.entry (r : SectionReport) (i : Nat) : Option ReportEntry := r.entries.find? (·.index == i)

/-- The section became DISTURBED. -/
def ReportEntry.disturbed (e : ReportEntry) : Bool := e.stateAfter == .disturbed && e.stateBefore != .disturbed

/-- The section went from free to not free. -/
def ReportEntry.taken (e : ReportEntry) : Bool := e.freeBefore && !e.freeAfter

/-- The section went from not free to free. -/
def ReportEntry.freed (e : ReportEntry) : Bool := !e.freeBefore && e.freeAfter

/-! ## Reading and writing one approach -/

/-- The table entry of an approach. -/
def State.approachEntry (s : State) (i : Fin 4) : ApproachEntry := s.tm.tables.approach[i]

/-- An approach record replaced. -/
def State.setApproach (s : State) (i : Fin 4) (r : ApproachRecord) : State :=
  { s with approaches := s.approaches.set i r }

/-- A section is free; one that does not exist is not (R18). -/
def sectionFree (s : State) (i : Nat) : Bool := ((s.sections[i]?).map (·.free)).getD false

/-- The state of a section. -/
def sectionState (s : State) (i : Nat) : Option SectionState := (s.sections[i]?).map (·.state)

/-- The approach acts: it is in service and the crossing is not OUT_OF_USE (R37). -/
def approachActs (s : State) (i : Fin 4) : Bool :=
  (s.approachEntry i).inService && s.crossing.state != .outOfUse

/-! ## Strikes (R49) -/

/-- The record of an approach that strikes. -/
def ApproachRecord.strike (r : ApproachRecord) (cause : StrikeCause) (now : Time) (islandHeld : Bool) :
    ApproachRecord :=
  { r with state := .struck, deadline := none, deadlineHead := none, strikeCause := some cause,
           strikeTime := some now, vEAtStrike := r.group.vE, islandSeen := islandHeld, islandEntryTime := none }

/-- An approach strikes; a strike that comes to one already STRUCK changes nothing. UNTIMEABLE is entered for its
cause (R49). -/
def strike (i : Fin 4) (cause : StrikeCause) (s : State) : State :=
  let r := s.approaches[i]
  if r.state = .struck then s
  else
    let held := !sectionFree s (s.approachEntry i).islandSection
    let s := s.setApproach i (r.strike cause s.now held)
    if cause = .untimeable then eventEntered .untimeable (some i.val) none s else s

/-! ## Wheel speed and the group (R40 to R42) -/

/-- v = floor(s × 100,000 / t) cm/s (R40). -/
def wheelSpeed (spacing interval : Nat) : Nat := spacing * 100000 / interval

/-- A wheel event (R4). -/
structure WheelEvent where
  head : Fin 16
  direction : Direction
  interval : Nat
  arrival : Time
  deriving DecidableEq, Repr

/-- The position of a head in the timing-head list. -/
def ApproachEntry.positionOf (e : ApproachEntry) (head : Nat) : Option Nat :=
  e.timingHeads.findIdx? (·.head == head)

/-- The wheel belongs to the current group (R41). -/
def GroupContext.continues (g : GroupContext) (position : Nat) (arrival : Time) (gap : Nat) : Bool :=
  g.groupHead == some position && decide ((arrival - g.lastWheelTime).toNat ≤ gap)

/-- A new group at a head (R41). -/
def GroupContext.fresh (position : Nat) (arrival : Time) : GroupContext :=
  { groupHead := some position, tFirst := arrival, wheelsUsed := 0, vE := none, lastWheelTime := arrival,
    overspeedEntered := false }

/-- The group after a measured wheel of a speed: v_e takes a valid speed that is higher, or the first (R41). -/
def GroupContext.measure (g : GroupContext) (v : Nat) : GroupContext :=
  let raised := decide (v ≤ Config.speedMax) && (match g.vE with | none => true | some u => decide (u < v))
  { g with wheelsUsed := g.wheelsUsed + 1, vE := if raised then some v else g.vE }

/-! ## The outcome of a measured wheel (3.5) -/

/-- What a measured wheel brings (R43 to R46). -/
inductive WheelOutcome where
  | nothing
  | strike (cause : StrikeCause)
  | discard (state : ApproachState)
  | deadline (at_ : Time)
  deriving DecidableEq, Repr

/-- The final head of an approach is LOST or FAULTY (R15, R43). -/
def finalHeadGone (s : State) (e : ApproachEntry) : Bool :=
  match e.timingHeads.getLast? with
  | none => true
  | some h =>
    match s.heads[h.head]? with
    | some r => r.state == .lost || r.state == .faulty
    | none => true

/-- T_arr = floor(d × 100,000 / v_e) ms (R46). -/
def arrivalTime (distance vE : Nat) : Nat := distance * 100000 / vE

/-- The tests of a measured wheel at a position, in order (R43 to R46). `first` says that it is its group's first,
`v` is its speed, `g` the group after it. -/
def wheelOutcome (s : State) (i : Fin 4) (position : Nat) (first : Bool) (v : Nat) (g : GroupContext) :
    WheelOutcome :=
  let e := s.approachEntry i
  let final := decide (position + 1 = e.timingHeads.length)
  if Config.speedMax < v then if first then .strike .untimeable else .nothing
  else if finalHeadGone s e then .strike .fallback
  else if sectionState s e.approachSection = some .restoring then .strike .untimeable
  else
    match g.vE, e.timingHeads[position]? with
    | some vE, some h =>
      if vE < e.vCreep then if final then .strike .fallback else .discard .tracking
      else if h.haltSide && decide (vE ≤ e.vHalt) then .discard .deferred
      else
        let tReq := s.derivedFigures.tReq[i]
        let tArr := arrivalTime h.distance vE
        if tArr ≤ tReq then .strike .immediate
        else .deadline (after g.tFirst (min (tArr - tReq) e.holdMax))
    | _, _ => .nothing

/-- A position is nearer than the head that set the deadline, or there is none (R44, R45, R47). -/
def nearerOrNone (r : ApproachRecord) (position : Nat) : Bool :=
  match r.deadline, r.deadlineHead with
  | some _, some h => decide (h < position)
  | _, _ => true

/-- The outcome is applied: a strike; the deadline discarded for TRACKING or DEFERRED; or D_new taken as the
deadline, which strikes TIMED at once where it is not later than now (R43 to R48). -/
def applyOutcome (i : Fin 4) (position : Nat) (o : WheelOutcome) (s : State) : State :=
  let r := s.approaches[i]
  match o with
  | .nothing => s
  | .strike cause => strike i cause s
  | .discard st =>
    if nearerOrNone r position then
      s.setApproach i { r with state := st, deadline := none, deadlineHead := none }
    else s
  | .deadline d =>
    let sooner := match r.deadline with | some d0 => earlier d d0 | none => true
    if nearerOrNone r position || sooner then
      let s := s.setApproach i { r with state := .armed, deadline := some d, deadlineHead := some position }
      if reached s.now d then strike i .timed s else s
    else s

/-- One approach takes a timing wheel at a position (R39, R41, R42). -/
def timingWheel (i : Fin 4) (position : Nat) (w : WheelEvent) (s : State) : State :=
  let r := s.approaches[i]
  let e := s.approachEntry i
  let joins := r.group.continues position w.arrival s.params.groupGap
  let g0 := if joins then { r.group with lastWheelTime := w.arrival } else GroupContext.fresh position w.arrival
  if Config.groupWheels ≤ g0.wheelsUsed then s.setApproach i { r with group := g0 }
  else
    let v := wheelSpeed ((dptAt s w.head.val).map (·.spacing) |>.getD 0) w.interval
    let g := g0.measure v
    let fast := g.vE != g0.vE && decide (e.vLine < g.vE.getD 0) && !g0.overspeedEntered
    let g := if fast then { g with overspeedEntered := true } else g
    let s := s.setApproach i { r with group := g }
    let s := if fast then eventEntered .overspeed (some i.val) none s else s
    if r.state = .struck then s
    else applyOutcome i position (wheelOutcome s i position (!joins) v g) s

/-- The Approach Timer takes a wheel event: each in-service approach whose timing heads hold its head takes a
TOWARD wheel (R39), by rising index (DESIGN CHOICE, log entry 49). -/
def approachWheel (w : WheelEvent) (s : State) : State :=
  forEach 4 (fun i s =>
    if approachActs s i && w.direction == .toward then
      match (s.approachEntry i).positionOf w.head.val with
      | some p => timingWheel i p w s
      | none => s
    else s) s

/-! ## Section change reports (R50 to R56) -/

/-- The passage record of a release (R56). -/
def passageOf (i : Fin 4) (r : ApproachRecord) (now : Time) (limit : Nat) : PassageRecord :=
  let achieved := r.islandEntryTime.map fun t => t - r.strikeTime.getD 0
  { approach := i, strikeCause := r.strikeCause.getD .disturbed, strikeTime := r.strikeTime.getD 0
    vEAtStrike := r.vEAtStrike, islandEntryTime := r.islandEntryTime, releaseTime := now
    achievedWarning := achieved, shortWarning := achieved.any fun t => decide (t.toNat < limit) }

/-- A STRUCK approach is released to IDLE, with its passage record and the events of the release (R55, R56). -/
def release (i : Fin 4) (s : State) : State :=
  let r := s.approaches[i]
  let p := passageOf i r s.now (s.derivedFigures.lClose + (s.approachEntry i).clearMargin)
  let s := appendPassage p (s.setApproach i .cold)
  let s := if r.islandSeen then s else eventEntered .reversal (some i.val) none s
  if p.shortWarning then eventEntered .shortWarning (some i.val) none s else s

/-- The island section of a STRUCK approach goes from free to not free (R54). -/
def islandTaken (i : Fin 4) (cause : ReportCause) (s : State) : State :=
  let r := s.approaches[i]
  if r.islandSeen then s
  else
    let entry := match cause with
      | .wheel _ _ arrival _ => some arrival
      | .disturb | .reset | .setup => none
    s.setApproach i { r with islandSeen := true, islandEntryTime := entry }

/-- The approach section goes from free to not free by a TOWARD wheel at a head that is none of the approach's
timing heads (R50). -/
def enteredUntimed (e : ApproachEntry) (cause : ReportCause) : Bool :=
  match cause with
  | .wheel head direction _ _ => direction == .toward && (e.positionOf head.val).isNone
  | .disturb | .reset | .setup => false

/-- One approach takes a section change report (R50 to R55). The order of the tests is the model's choice where one
report meets two of them: a section becoming DISTURBED strikes DISTURBED before UNTIMEABLE is looked at (DESIGN CHOICE,
log entry 35), and before a freed approach section empties the group, so that the strike keeps the group and its v_e
(DESIGN CHOICE, log entry 36). -/
def approachReport (i : Fin 4) (rep : SectionReport) (s : State) : State :=
  let e := s.approachEntry i
  let ea := rep.entry e.approachSection
  let ei := rep.entry e.islandSection
  let was := s.approaches[i].state
  -- a section becoming DISTURBED strikes (R51)
  let s := if ea.any (·.disturbed) || ei.any (·.disturbed) then strike i .disturbed s else s
  -- the island taken while STRUCK (R54)
  let s := if was = .struck && ei.any (·.taken) then islandTaken i rep.cause s else s
  -- the approach section taken without a timing head (R50)
  let s := if ea.any (·.taken) && enteredUntimed e rep.cause then strike i .untimeable s else s
  -- the approach section freed, or a release (R52, R55)
  match s.approaches[i].state with
  | .tracking | .armed | .deferred => if ea.any (·.freed) then s.setApproach i .cold else s
  | .struck =>
    if (ea.isSome || ei.isSome) && sectionFree s e.approachSection &&
        (!s.approaches[i].islandSeen || sectionFree s e.islandSection) then release i s
    else s
  | .idle => s

/-- The Approach Timer takes a section change report (R37), each approach by rising index, and so appends the passage
records of one report (DESIGN CHOICE, log entry 49). -/
def approachReports (rep : SectionReport) (s : State) : State :=
  forEach 4 (fun i s => if approachActs s i then approachReport i rep s else s) s

/-! ## Deadlines, cold start, return to use and out of use -/

/-- The deadline of an ARMED approach is reached (R48). -/
def deadlineEnds (i : Fin 4) (s : State) : State :=
  if s.approaches[i].state = .armed && due s.now s.approaches[i].deadline then strike i .timed s else s

/-- After a successful load every in-service approach strikes DISTURBED (R37). -/
def strikeAllDisturbed (s : State) : State :=
  forEach 4 (fun i s => if (s.approachEntry i).inService then strike i .disturbed s else s) s

/-- At return to use each in-service approach is set up from its sections (R38). -/
def setUpApproaches (s : State) : State :=
  forEach 4 (fun i s =>
    let e := s.approachEntry i
    if !e.inService then s
    else if sectionState s e.approachSection = some .disturbed ∨ sectionState s e.islandSection = some .disturbed then
      strike i .disturbed s
    else if !sectionFree s e.approachSection then strike i .untimeable s
    else s) s

/-- On entry to OUT_OF_USE every record becomes IDLE (R37). -/
def idleApproaches (s : State) : State := { s with approaches := s.approaches.map fun _ => .cold }

end Sys2Proof.Machine
end

