-- ==== Sys2Proof/Machine/Section.lean ====
section
/-! DEFINITION. The Section Counter: counting wheels, disturbance, reset and the setting up of the records
(02). -/

namespace Sys2Proof.Machine

/-- The table entry of a section. -/
def State.sectionEntry (s : State) (i : Fin 8) : SectionEntry := s.tm.tables.sectionTable[i]

/-- The boundary a head forms of a section, if it bounds it. -/
def SectionEntry.boundaryAt (e : SectionEntry) (head : Nat) : Option Boundary :=
  e.boundaries.find? (·.head == head)

/-- A DISTURBED record (R23, R26). -/
def SectionRecord.asDisturbed : SectionRecord := { state := .disturbed, count := none, raised := false }

/-- A record after a wheel that enters (+1) or leaves (−1) (R22 to R24). -/
def SectionRecord.wheel (r : SectionRecord) (enters : Bool) : SectionRecord :=
  match r.state, r.count with
  | .clear, _ => if enters then { state := .occupied, count := some 1, raised := false } else .asDisturbed
  | .occupied, some n =>
    if enters then if n < Config.axleMax then { r with count := some (n + 1) } else .asDisturbed
    else if n ≤ 1 then { state := .clear, count := some 0, raised := false }
    else { r with count := some (n - 1) }
  | .restoring, some n =>
    if enters then
      if n < Config.axleMax then { r with count := some (n + 1), raised := true } else .asDisturbed
    else if n = 0 then .asDisturbed
    else if n = 1 then { state := .clear, count := some 0, raised := false }
    else { r with count := some (n - 1) }
  | .occupied, none | .restoring, none | .disturbed, _ => r

/-- A record named in a disturb request: DISTURBED, and one that is DISTURBED already is left unchanged (R26). -/
def SectionRecord.disturb (r : SectionRecord) : SectionRecord :=
  match r.state with
  | .clear | .occupied | .restoring => .asDisturbed
  | .disturbed => r

/-- A section record replaced. -/
def State.setSection (s : State) (i : Fin 8) (r : SectionRecord) : State :=
  { s with sections := s.sections.set i r }

/-- A section takes a new record; SECTION_DISTURBED becomes active where it becomes DISTURBED (R26). -/
def changeSection (i : Fin 8) (r : SectionRecord) (s : State) : State :=
  let was := s.sections[i].state
  let s := s.setSection i r
  if r.state = .disturbed ∧ was ≠ .disturbed then conditionPresent .sectionDisturbed (some i.val) s else s

/-- A step from `before` has the report list a section: it is in service, and its state, or whether it is free, has
changed (R21, R25). -/
def sectionListed (before s : State) (i : Fin 8) : Bool :=
  (s.sectionEntry i).inService &&
    (before.sections[i].state != s.sections[i].state || before.sections[i].free != s.sections[i].free)

/-- The listed sections that a wheel has entered; it has left the other listed ones (R25). -/
def sectionsEntered (w : WheelEvent) (before s : State) : List Nat :=
  ((List.finRange 8).filter fun i => sectionListed before s i &&
    ((s.sectionEntry i).boundaryAt w.head.val).any (·.entering == w.direction)).map (·.val)

/-- The report of a step: each section it lists, in index order (R25). -/
def sectionReport (cause : ReportCause) (before s : State) : SectionReport :=
  { cause := cause
    entries := (List.finRange 8).filterMap fun i =>
      let b := before.sections[i]
      let a := s.sections[i]
      if sectionListed before s i then
        some { index := i.val, stateBefore := b.state, stateAfter := a.state, countAfter := a.count,
               freeBefore := b.free, freeAfter := a.free }
      else none }

/-- A report is handed on to the Approach Timer and the Sequencer once its step is complete, and the crossing takes
what comes of it; a step that changes no listed section gives none (R25, R57). -/
def handReport (cause : ReportCause) (before s : State) : State :=
  let rep := sectionReport cause before s
  if rep.entries.isEmpty then s else crossingTurn before (approachReports rep s)

/-- A wheel event is applied in one step to every in-service section it bounds (R22). -/
def sectionWheel (w : WheelEvent) (s : State) : State :=
  let s1 := forEach 8 (fun i s =>
    let e := s.sectionEntry i
    if !e.inService then s
    else match e.boundaryAt w.head.val with
      | some b => changeSection i (s.sections[i].wheel (b.entering == w.direction)) s
      | none => s) s
  handReport (.wheel w.head w.direction w.arrival (sectionsEntered w s s1)) s s1

/-- A disturb request for the sections a head bounds; none is sent where it bounds no in-service section (R12,
R26). -/
def disturbSections (head : Fin 16) (s : State) : State :=
  let s1 := forEach 8 (fun i s =>
    let e := s.sectionEntry i
    if e.inService && (e.boundaryAt head.val).isSome then changeSection i s.sections[i].disturb s else s) s
  handReport .disturb s s1

/-- A section is reset: RESTORING at count 0, SECTION_DISTURBED ended, SECTION_RESET entered, and the report
(R28). -/
def resetSectionRecord (i : Fin 8) (s : State) : State :=
  let s1 := s.setSection i { state := .restoring, count := some 0, raised := false }
  let s1 := eventEntered .sectionReset (some i.val) none (conditionEnd .sectionDisturbed (some i.val) s1)
  handReport .reset s s1

/-- The records are set up as the table-valid flag goes from clear to set (R20). -/
def setUpSections (s : State) : State :=
  let s1 := { s with sections := s.sections.map fun _ => SectionRecord.asDisturbed }
  let s1 := forEach 8 (fun i s =>
    if (s.sectionEntry i).inService then conditionPresent .sectionDisturbed (some i.val) s
    else conditionEnd .sectionDisturbed (some i.val) s) s1
  handReport .setup s s1

end Sys2Proof.Machine
end

