-- ==== Sys2Proof/Machine/Head.lean ====
section
/-! DEFINITION. The Head Monitor: wheel and health telegrams, count continuity, silence (01). -/

namespace Sys2Proof.Machine

/-- The table entry of a detection point. -/
def State.dptEntry (s : State) (i : Fin 16) : DptEntry := s.tm.tables.dpt[i]

/-- A head record replaced. -/
def State.setHead (s : State) (i : Fin 16) (r : HeadRecord) : State := { s with heads := s.heads.set i r }

/-- The in-service detection point that carries a source address (R1). -/
def headOf (ts : Tables) (source : Nat) : Option (Fin 16) :=
  (List.finRange 16).find? fun i => ts.dpt[i].inService && ts.dpt[i].address == source

/-- A telegram is acted on: the table-valid flag is set, an in-service entry carries its source, and its payload
has the length of its kind (R1, R5). -/
def actedOn (o : Observed) (s : State) : Option (Fin 16) :=
  let long := match o.kind with
    | .wheel => o.payload.length == 4
    | .health => o.payload.length == 2
  if s.tm.valid && long then headOf s.tm.tables o.source else none

/-- A count skip's fault entry (R13). -/
def countSkip (i : Fin 16) (s : State) : State := eventEntered .countSkip (some i.val) none s

/-- The head becomes LIVE with a count adopted from a telegram (R6, R7, R10). -/
def HeadRecord.adopt (r : HeadRecord) (count : Byte) (arrival : Time) (state : HeadState) : HeadRecord :=
  { r with state := state, lastCount := some count, lastSeen := arrival, wasFaulty := false }

/-- A wheel event is formed; it is told to the Proving Scanner and handed to the Approach Timer, and the crossing
takes what comes of it before any section change the wheel causes (R4, R57, R59, R134). -/
def wheelToApproach (w : WheelEvent) (s : State) : State :=
  crossingTurn s (approachWheel w { s with handed := { s.handed with wheel := true } })

/-- An ordinary wheel event: the Approach Timer takes it before the section change it causes (R4). -/
def ordinaryWheel (w : WheelEvent) (s : State) : State := sectionWheel w (wheelToApproach w s)

/-- The sensor order of a wheel payload; none where its code is neither (R5, R189). -/
def sensorOrder (code : Nat) : Option SensorOrder :=
  if code = 1 then some .s1First else if code = 2 then some .s2First else none

/-- The wheel event of a payload; none where the wheel cannot be interpreted (R4, R5). -/
def wheelEventOf (e : DptEntry) (i : Fin 16) (payload : List Byte) (arrival : Time) : Option WheelEvent :=
  let interval := read16 payload 2
  match sensorOrder (read8 payload 1) with
  | none => none
  | some o =>
    if interval = 0 then none
    else some { head := i, direction := if o = e.towardSense then .toward else .away, interval := interval
                arrival := arrival }

/-- The head's silence ends: HEAD_LOST (R10). -/
def endLost (i : Fin 16) (s : State) : State := conditionEnd .headLost (some i.val) s

/-- A wheel telegram acted on for a head (R5 to R7, R9, R10). -/
def wheelTelegramFor (i : Fin 16) (o : Observed) (s : State) : State :=
  let r := s.heads[i]
  let count := o.payload.getD 0 0
  let live := s.setHead i (r.adopt count o.arrival .live)
  match r.state, wheelEventOf (s.dptEntry i) i o.payload o.arrival with
  -- a FAULTY head ignores it; a LOST one that was FAULTY returns to FAULTY (R9, R10)
  | .faulty, _ => s.setHead i { r with lastSeen := o.arrival }
  | .lost, w =>
    if r.wasFaulty then endLost i (s.setHead i (r.adopt count o.arrival .faulty))
    else match w with
      | some w => wheelToApproach w (endLost i live)
      | none => countSkip i (disturbSections i (endLost i live))
  -- an uninterpretable wheel is a count skip without a wheel event (R5)
  | .unseen, none | .live, none => countSkip i (disturbSections i live)
  | .unseen, some w => ordinaryWheel w live
  | .live, some w =>
    match r.lastCount with
    | some last =>
      if count = last + 1 then ordinaryWheel w live
      else if count = last then s
      else wheelToApproach w (countSkip i (disturbSections i live))
    | none => ordinaryWheel w live

/-- The condition of a health telegram (1.1). -/
inductive HealthCondition where
  | normal
  | sensorDisturbed
  | sensorFault
  deriving DecidableEq, Repr

/-- The condition of a code; one that is none of the three is taken as SENSOR_DISTURBED (R5). -/
def healthCondition (code : Nat) : HealthCondition :=
  if code = 0 then .normal else if code = 2 then .sensorFault else .sensorDisturbed

/-- The treatment of the condition for a LIVE head, with a count skip found in the same telegram: at most one
disturb request (R8, "Apply condition"). -/
def applyCondition (i : Fin 16) (c : HealthCondition) (skip : Bool) (s : State) : State :=
  let s := if skip then countSkip i s else s
  let s := if skip || c != .normal then disturbSections i s else s
  match c with
  | .sensorFault =>
    conditionPresent .headFault (some i.val) (s.setHead i { s.heads[i] with state := .faulty })
  | .normal | .sensorDisturbed => s

/-- A health telegram acted on for a head (R6, R8 to R10). -/
def healthTelegramFor (i : Fin 16) (o : Observed) (s : State) : State :=
  let r := s.heads[i]
  let count := o.payload.getD 0 0
  let c := healthCondition (read8 o.payload 1)
  let live := s.setHead i (r.adopt count o.arrival .live)
  let faulty := s.setHead i (r.adopt count o.arrival .faulty)
  match r.state with
  | .unseen => applyCondition i c false live
  | .live => applyCondition i c (r.lastCount != some count) live
  | .faulty => if c = .normal then conditionEnd .headFault (some i.val) live else faulty
  | .lost =>
    if r.wasFaulty then
      if c = .normal then conditionEnd .headFault (some i.val) (endLost i live) else endLost i faulty
    else applyCondition i c false (endLost i live)

/-- A head silent for head_timeout becomes LOST (R11). -/
def headSilent (i : Fin 16) (s : State) : State :=
  let r := s.heads[i]
  if s.tm.valid && (s.dptEntry i).inService && r.state != .lost &&
      reached s.now (after r.lastSeen s.params.headTimeout) then
    let s := s.setHead i { r with state := .lost, wasFaulty := r.state == .faulty }
    conditionPresent .headLost (some i.val) (disturbSections i s)
  else s

/-- Every head record UNSEEN, last_seen now (R3). -/
def unseenHeads (s : State) : State :=
  { s with heads := s.heads.map fun _ =>
      { state := .unseen, lastCount := none, lastSeen := s.now, wasFaulty := false } }

/-- The flag is cleared: the records UNSEEN, HEAD_LOST and HEAD_FAULT ended (R3). -/
def headsOnClear (s : State) : State :=
  forEach 16 (fun i s => conditionEnd .headFault (some i.val) (endLost i s)) (unseenHeads s)

end Sys2Proof.Machine
end

