-- ==== Sys2Proof/Machine/Validate.lean ====
section
/-! DEFINITION. Validation: the twelve steps, the index each broken condition reports, and the derived figures
(10.4 and the validation rule of each table). -/

namespace Sys2Proof.Machine

/-- Where a validation failed: a table id and an index (R180). -/
structure Failure where
  table : Nat
  index : Nat
  deriving DecidableEq, Repr

/-- The first index below `n` that breaks a condition. -/
def firstBroken (n : Nat) (broken : Fin n → Bool) : Option Nat := ((List.finRange n).find? broken).map (·.val)

/-- A failure of a table at an index. -/
def failAt (t : TableId) (index : Option Nat) : Option Failure :=
  index.map fun i => { table := t.number, index := i }

/-! ## Steps 1 and 3: NODE and DPT -/

/-- NODE: no address repeated with its role, none that is own_address, then at least one MAINTENANCE entry
(R173). -/
def checkNode (ts : Tables) : Option Failure :=
  let broken := firstBroken 4 fun i =>
    let e := ts.node[i]
    e.inService && (e.address == ts.params.ownAddress ||
      (List.finRange 4).any fun j =>
        let f := ts.node[j]
        decide (j.val < i.val) && f.inService && f.address == e.address && f.role == e.role)
  match broken with
  | some i => failAt .node (some i)
  | none =>
    if ts.node.toList.any fun e => e.inService && e.role == .maintenance then none else failAt .node (some 0)

/-- DPT: no address shared, none that is own_address; the lowest index concerned is reported (R2). -/
def checkDpt (ts : Tables) : Option Failure :=
  failAt .dpt <| firstBroken 16 fun i =>
    let e := ts.dpt[i]
    e.inService && (e.address == ts.params.ownAddress ||
      (List.finRange 16).any fun j =>
        let f := ts.dpt[j]
        decide (i.val < j.val) && f.inService && f.address == e.address)

/-! ## Steps 4 and 5: SECTION and APPROACH -/

/-- The heads of a list are all different. -/
def distinctHeads (hs : List Nat) : Bool := decide hs.Nodup

/-- SECTION (R17). -/
def checkSection (ts : Tables) : Option Failure :=
  failAt .sectionTable <| firstBroken 8 fun i =>
    let e := ts.sectionTable[i]
    e.inService &&
      !((e.boundaries.all fun b =>
          match ts.dpt[b.head]? with
          | some d => d.inService && d.role == .counting && d.track == e.track
          | none => false) &&
        distinctHeads (e.boundaries.map (·.head)))

/-- A section reference of an approach names an in-service section of a kind on its track. -/
def sectionSuits (ts : Tables) (ref : Nat) (kind : SectionKind) (track : Nat) : Bool :=
  match ts.sectionTable[ref]? with
  | some e => e.inService && e.kind == kind && e.track == track
  | none => false

/-- Each distance is less than the one before it. -/
def runsFarToNear : List Nat → Bool
  | a :: b :: rest => decide (b < a) && runsFarToNear (b :: rest)
  | _ => true

/-- The farthest head is a boundary of the approach section entered TOWARD (R34). -/
def farthestAdmits (ts : Tables) (e : ApproachEntry) : Bool :=
  match e.timingHeads.head?, ts.sectionTable[e.approachSection]? with
  | some h, some sec => sec.boundaries.any fun b => b.head == h.head && b.entering == .toward
  | _, _ => false

/-- APPROACH, without the final-head check (R34). -/
def checkApproach (ts : Tables) : Option Failure :=
  failAt .approach <| firstBroken 4 fun i =>
    let e := ts.approach[i]
    e.inService &&
      !(sectionSuits ts e.approachSection .approach e.track &&
        sectionSuits ts e.islandSection .island e.track &&
        (List.finRange 4).all (fun j =>
          let f := ts.approach[j]
          !(decide (j.val < i.val) && f.inService && f.approachSection == e.approachSection)) &&
        e.timingHeads.all (fun h =>
          match ts.dpt[h.head]? with
          | some d => d.inService && d.track == e.track
          | none => false) &&
        distinctHeads (e.timingHeads.map (·.head)) &&
        runsFarToNear (e.timingHeads.map (·.distance)) &&
        !((e.timingHeads.getLast?).any (·.haltSide)) &&
        farthestAdmits ts e)

/-! ## Steps 6 and 7: the programs -/

/-- The first place of a program's run steps that holds. -/
def placeOf (steps : List ProgramStep) (p : StepKind → Bool) : Option Nat :=
  steps.findIdx? fun k => p k.kind

/-- The last place of a program's run steps that holds. -/
def lastPlaceOf (steps : List ProgramStep) (p : StepKind → Bool) : Option Nat :=
  ((List.range steps.length).filter fun i => ((steps[i]?).map fun k => p k.kind).getD false).getLast?

/-- The ending entry: the first END, or entry 11 (R68). -/
def endingEntry (run : List ProgramStep) : Nat := min 11 run.length

/-- The sum of the WAIT steps, in ms (R36). -/
def waitSum (steps : List ProgramStep) : Nat :=
  (steps.map fun k => if k.kind = .wait then k.count * 100 else 0).sum

/-- Some step of a kind stands among the steps. -/
def hasKind (steps : List ProgramStep) (k : StepKind) : Bool := steps.any (·.kind == k)

/-- The WAIT steps between the last RED step before a place and that place, in ms (R68). -/
def redLead (steps : List ProgramStep) (place : Nat) : Nat :=
  match lastPlaceOf (steps.take place) (· == .red) with
  | some r => waitSum ((steps.take place).drop (r + 1))
  | none => 0

/-- The index at which the closing program breaks its first condition (R68). Where a DARK step and an AMBER step after
the first RED stand in it, the lower of the two indices is reported (DESIGN CHOICE, log entry 37). -/
def closingBroken (steps : List ProgramStep) : Option Nat :=
  let run := runStepsOf steps
  let lower := firstLower run
  let dark := placeOf run (· == .dark)
  let red := (placeOf run (· == .red)).getD run.length
  let lateAmber := (placeOf (run.drop red) (· == .amber)).map (· + red)
  let unfit := match dark, lateAmber with
    | some d, some a => some (min d a)
    | some d, none => some d
    | none, a => a
  let lastLower := (lastPlaceOf run StepKind.lowers).getD 0
  if !(hasKind run .lowerEntry && hasKind run .lowerExit) then some (endingEntry run)
  else match placeOf run StepKind.raises with
    | some i => some i
    | none =>
      match unfit with
      | some i => some i
      | none =>
        if lower < red then some lower
        else if redLead run lower < Config.redLeadTime then some lower
        else if hasKind (run.drop (lastLower + 1)) .waitDown then none
        else some (endingEntry run)

/-- The index at which the opening program breaks its first condition (R69). -/
def openingBroken (steps : List ProgramStep) : Option Nat :=
  let run := runStepsOf steps
  let lastRaise := (lastPlaceOf run StepKind.raises).getD 0
  if !(hasKind run .raiseEntry && hasKind run .raiseExit) then some (endingEntry run)
  else match placeOf run StepKind.lowers with
    | some i => some i
    | none =>
      match placeOf (run.drop (lastRaise + 1)) (· == .waitUp) with
      | none => some (endingEntry run)
      | some w => placeOf (run.take (lastRaise + 1 + w)) fun k => k == .dark || k == .amber

/-! ## Steps 8 to 10: BARRIER, LAMP, SCAN -/

/-- A scan reference names an in-service entry. -/
def scanServes (ts : Tables) (ref : Nat) : Bool := ((ts.scan[ref]?).map (·.inService)).getD false

/-- An in-service barrier of an index below a bound uses a scan entry. -/
def barrierUses (ts : Tables) (below : Nat) (ref : Nat) : Bool :=
  (List.finRange 4).any fun j =>
    let f := ts.barrier[j]
    decide (j.val < below) && f.inService && (f.angleEntry == ref || f.currentEntry == ref)

/-- An in-service lamp of an index below a bound uses a scan entry. -/
def lampUses (ts : Tables) (below : Nat) (ref : Nat) : Bool :=
  (List.finRange 12).any fun j =>
    let f := ts.lamp[j]
    decide (j.val < below) && f.inService && f.scanEntry == ref

/-- BARRIER (R106). -/
def checkBarrier (ts : Tables) : Option Failure :=
  failAt .barrier <| firstBroken 4 fun i =>
    let e := ts.barrier[i]
    e.inService &&
      !(scanServes ts e.angleEntry && scanServes ts e.currentEntry &&
        e.angleEntry != e.currentEntry &&
        !barrierUses ts i.val e.angleEntry && !barrierUses ts i.val e.currentEntry &&
        e.angleEntry != ts.params.batteryEntry && e.currentEntry != ts.params.batteryEntry &&
        e.spanUsable && decide (e.ratedDuty ≤ e.clampDuty) &&
        (match ts.scan[e.currentEntry]? with
          | some c => decide (e.peakCurrent < c.highThreshold)
          | none => false))

/-- A road side has an in-service RED lamp (R88). -/
def sideHasRedLamp (ts : Tables) (side : Side) : Bool :=
  ts.lamp.toList.any fun e => e.inService && e.roadSide == side && e.colour == .red

/-- An audible entry serves and is no other user's (R88). -/
def audibleServes (ts : Tables) (ref : Nat) : Bool :=
  scanServes ts ref && ref != ts.params.batteryEntry && !lampUses ts 12 ref && !barrierUses ts 4 ref

/-- LAMP, then the red lamps per road side, then the audible entries (R88). -/
def checkLamp (ts : Tables) : Option Failure :=
  let broken := firstBroken 12 fun i =>
    let e := ts.lamp[i]
    e.inService &&
      !(scanServes ts e.scanEntry && !lampUses ts i.val e.scanEntry && !barrierUses ts 4 e.scanEntry &&
        e.scanEntry != ts.params.batteryEntry)
  match broken with
  | some i => failAt .lamp (some i)
  | none =>
    if !sideHasRedLamp ts .north then failAt .lamp (some 0)
    else if !sideHasRedLamp ts .south then failAt .lamp (some 1)
    else if audibleServes ts ts.params.audibleEntry0 && audibleServes ts ts.params.audibleEntry1 &&
        ts.params.audibleEntry0 != ts.params.audibleEntry1 then none
    else failAt .params (some 0)

/-- The in-service entries of the scan list, in index order. -/
def scanInService (ts : Tables) : List (Fin 24) := (List.finRange 24).filter fun i => ts.scan[i].inService

/-- SCAN, then the battery entry and the battery levels (R129). -/
def checkScan (ts : Tables) : Option Failure :=
  let p := ts.params
  let unordered := firstBroken 24 fun i =>
    ts.scan[i].inService && decide (ts.scan[i].highThreshold < ts.scan[i].lowThreshold)
  match unordered with
  | some i => failAt .scan (some i)
  | none =>
    if Config.scanCycleMax < (scanInService ts).length * p.scanStrobe then
      failAt .scan (((scanInService ts)[Config.scanCycleMax / p.scanStrobe]?).map (·.val))
    else if !scanServes ts p.batteryEntry then failAt .params (some 0)
    else if p.batteryCritical < p.batteryLow ∧ p.batteryLow + Config.batteryHysteresis < p.batterySpan then none
    else failAt .params (some 0)

/-! ## The derived figures and step 12 (R35, R36, R69, R181) -/

/-- The largest travel toward an end among the in-service barriers; 0 where none is in service. -/
def travelMax (ts : Tables) (d : BarrierEnd) : Nat :=
  ((ts.barrier.toList.filter (·.inService)).map (·.travel d)).foldl max 0

/-- The candidate figures (R181). -/
def candidateFigures (ts : Tables) : Derived :=
  let lClose := waitSum (runStepsOf ts.closing.toList) + travelMax ts .down
  { lClose := lClose
    tReq := ts.approach.map fun e => lClose + e.clearMargin + e.loopAllow
    rOpen := waitSum (runStepsOf ts.opening.toList) + travelMax ts .up }

/-- The final-head check: floor(d_final × 100,000 / v_final) is at least T_req (R35). -/
def checkFinalHeads (ts : Tables) (f : Derived) : Option Failure :=
  failAt .approach <| firstBroken 4 fun i =>
    let e := ts.approach[i]
    e.inService &&
      match e.timingHeads.getLast? with
      | some h => decide (h.distance * 100000 / e.vFinal < f.tReq[i])
      | none => true

/-- The outcome of a validation. -/
inductive Verdict where
  | failed (f : Failure)
  | passed (d : Derived)
  deriving DecidableEq, Repr

/-- Validation: the steps in order, stopping at the first broken condition (R180). PARAMETERS and REPORT_MASK have
no condition at their own place. -/
def validate (ts : Tables) : Verdict :=
  let f := candidateFigures ts
  let steps :=
    [checkNode ts, checkDpt ts, checkSection ts, checkApproach ts,
     failAt .closing (closingBroken ts.closing.toList), failAt .opening (openingBroken ts.opening.toList),
     checkBarrier ts, checkLamp ts, checkScan ts, checkFinalHeads ts f]
  match steps.findSome? id with
  | some x => .failed x
  | none => .passed f

end Sys2Proof.Machine
end

