-- ==== Sys2Proof/Machine/TableFlag.lean ====
section
/-! DEFINITION. The table-valid flag: what its clearing and its setting do in each block (R178), and a successful
validation taking effect (R182). -/

namespace Sys2Proof.Machine

/-- The battery faults end as the flag is cleared (R138). -/
def batteryOnClear (s : State) : State :=
  conditionEnd .batteryCritical none (conditionEnd .batteryLow none
    { s with scan := { s.scan with batteryLow := false, batteryCritical := false } })

/-- No status is due and the link is not supervised while the flag is clear (R153, R155). -/
def reportOnClear (s : State) : State :=
  conditionEnd .signallerLinkLost none
    { s with report := { s.report with statusDue := none, linkEnd := none } }

/-- The table-valid flag is cleared, if it is set (R178). -/
def clearValid (s : State) : State :=
  if s.tm.valid then
    reportOnClear (batteryOnClear (lampsOnClear (headsOnClear
      { s with tm := { s.tm with valid := false } })))
  else s

/-- The duty and the link as the flag goes from clear to set (R92, R155). -/
def beginSupervision (s : State) : State :=
  { s with
    lamp := { s.lamp with duty := some s.params.lampBaseDuty }
    report := { s.report with linkEnd := some (after s.now s.params.signallerTimeout) } }

/-- The flag goes from clear to set: a status at once with the content as it then stands, then the head records, the
sections, the duty and the link; what these change gives a further status at the end of the event (R3, R20, R92,
R153, R155, R178; log entry 12). -/
def setUpOnValid (s : State) : State := beginSupervision (setUpSections (unseenHeads (produceStatus s)))

/-- The flag set, the figures adopted, the answering address that of the record passed (R163, R178, R182). -/
def adoptFigures (d : Derived) (s : State) : State :=
  { s with tm := { s.tm with valid := true, derived := some d, ownValidated := s.params.ownAddress } }

/-- A successful validation takes effect: the flag set, the figures adopted, the answering address that of the
record passed, TABLE_INVALID ended; the blocks set up where the flag was clear (R163, R178, R182). -/
def validationPassed (d : Derived) (s : State) : State :=
  let s' := conditionEnd .tableInvalid none (adoptFigures d s)
  if s.tm.valid then s' else setUpOnValid s'

end Sys2Proof.Machine
end

