-- ==== Sys2Proof/Machine/Calibration.lean ====
section
/-! DEFINITION. Calibration of the barriers: the five stages, the judgement and the write of the figures
(06, 6.6). -/

namespace Sys2Proof.Machine

/-- The calibration run replaced. -/
def State.setCal (s : State) (c : CalibrationRun) : State := { s with cal := c }

/-- A barrier is left where it stands: drive off, IDLE, target NONE (R124). -/
def stopBarrier (i : Fin 4) (s : State) : State := s.setBarrier i s.barriers[i].stopped

/-- A calibration movement: rated_duty toward an end from its first moment, BARRIER_STALL ended (R124). The record
shows it as RUN toward the end (DESIGN CHOICE, log entry 10). -/
def driveCalibration (i : Fin 4) (d : BarrierEnd) (s : State) : State :=
  conditionEnd .barrierStall (some i.val)
    (s.setBarrier i { s.barriers[i].stopped with
      target := some d, phase := .run, drive := .on d (s.barrierEntry i).ratedDuty })

/-- A stage with a movement begins: its drive start and its limit (R124). -/
def beginMovement (c : CalBarrier) (stage : CalStage) (d : BarrierEnd) (s : State) : State :=
  driveCalibration c.barrier d (s.setCal { s.cal with current := some { c with
    stage := stage, since := s.now, driveStart := some s.now,
    limit := some (after s.now Config.calibrationLimit), codes := [] } })

/-- A reading stage begins with the drive off (R124). -/
def beginReading (c : CalBarrier) (stage : CalStage) (s : State) : State :=
  stopBarrier c.barrier (s.setCal { s.cal with current := some { c with
    stage := stage, since := s.now, driveStart := none, limit := none, codes := [] } })

/-- A barrier comes under calibration: its disagreement timer is discarded, and stage 1 begins (R110, R124). -/
def beginBarrier (i : Fin 4) (s : State) : State :=
  let r := s.barriers[i]
  let s := s.setBarrier i { r with disagreeEnd := none, disagreeing := r.disagreeing && r.disagreeEnd.isNone }
  let c : CalBarrier :=
    { barrier := i, stage := .seekUp, since := s.now, driveStart := none, limit := none, codes := [],
      upCode := 0, downCode := 0, travelDown := 0, peakCurrent := 0 }
  if s.contacts[i].up then beginReading c .readUp s else beginMovement c .seekUp .up s

/-- The next selected barrier is taken, or the run ends done-pass or done-fail (R124). -/
def nextBarrier (s : State) : State :=
  match s.cal.remaining with
  | i :: rest => beginBarrier i (s.setCal { s.cal with remaining := rest, current := none })
  | [] => s.setCal { s.cal with
      run := if s.cal.allPassed then .donePass else .doneFail, current := none, allPassed := true }

/-- The barrier in progress fails with a reason (R124, R125). -/
def failBarrier (c : CalBarrier) (reason : CalReason) (s : State) : State :=
  let s := eventEntered .calibrationFailed (some c.barrier.val) (some reason) (stopBarrier c.barrier s)
  nextBarrier (s.setCal { s.cal with allPassed := false, current := none })

/-- The table entry of a passing barrier with its five figures (R125). -/
def BarrierEntry.calibrated (e : BarrierEntry) (c : CalBarrier) (travelUp : Nat) : BarrierEntry :=
  { e with upCode := c.upCode, downCode := c.downCode, travelDown := c.travelDown, travelUp := travelUp,
           peakCurrent := c.peakCurrent }

/-- A travel time lies within 2,000-20,000 ms (R125). -/
def travelFits (t : Nat) : Bool := decide (2000 ≤ t) && decide (t ≤ 20000)

/-- A barrier that has completed stage 5 is judged: SPAN first, then TRAVEL; a passing one has its figures written,
which clears the table-valid flag (R125). -/
def judgeCalibration (c : CalBarrier) (travelUp : Nat) (s : State) : State :=
  if c.upCode < c.downCode + Config.spanMin then failBarrier c .span s
  else if !(travelFits c.travelDown && travelFits travelUp) then failBarrier c .travel s
  else
    let e := (s.barrierEntry c.barrier).calibrated c travelUp
    let ts := s.tm.tables
    let s := { s with tm := { s.tm with tables := { ts with barrier := ts.barrier.set c.barrier e } } }
    nextBarrier (stopBarrier c.barrier (clearValid s))

/-- A contact of the barrier under calibration has closed: the movement it ends, and the stage after (R124). -/
def calibrationContact (i : Fin 4) (d : BarrierEnd) (s : State) : State :=
  match s.cal.current with
  | none => s
  | some c =>
    if c.barrier ≠ i then s
    else
      let took := (s.now - c.driveStart.getD s.now).toNat
      match c.stage, d with
      | .seekUp, .up => beginReading c .readUp s
      | .lower, .down => beginReading { c with travelDown := took } .readDown s
      | .raise, .up => judgeCalibration c took (stopBarrier i s)
      | .seekUp, .down | .lower, .up | .raise, .down | .readUp, _ | .readDown, _ => s

/-- The stage after a reading: its movement, or a failure TRAVEL where the contact is closed already (R124). -/
def afterReading (c : CalBarrier) (stage : CalStage) (d : BarrierEnd) (s : State) : State :=
  if s.contacts[c.barrier].at_ d then failBarrier c .travel s else beginMovement c stage d s

/-- The barrier under calibration takes an angle result in a reading stage: four that start after the stage before
ended are averaged; one flagged OVERRANGE fails it with SPAN (R124). -/
def calibrationAngle (i : Fin 4) (res : ScanResult) (s : State) : State :=
  match s.cal.current with
  | none => s
  | some c =>
    if c.barrier ≠ i ∨ reached res.startTime c.since = false then s
    else
      match c.stage with
      | .seekUp | .lower | .raise => s
      | .readUp | .readDown =>
        if res.overrange then failBarrier c .span s
        else
          let codes := c.codes ++ [res.code]
          if codes.length < Config.calibrationReads then
            s.setCal { s.cal with current := some { c with codes := codes } }
          else
            let mean := codes.sum / Config.calibrationReads
            if c.stage = .readUp then afterReading { c with upCode := mean } .lower .down s
            else afterReading { c with downCode := mean } .raise .up s

/-- The barrier under calibration takes a current result during a movement: a trip fails it with CURRENT; in
stage 3 the highest code is kept (R124). -/
def calibrationCurrent (i : Fin 4) (res : ScanResult) (s : State) : State :=
  match s.cal.current with
  | none => s
  | some c =>
    if c.barrier ≠ i ∨ c.driveStart = none then s
    else if res.trips then
      failBarrier c .current (eventEntered .barrierOvercurrent (some i.val) none (stopBarrier i s))
    else if c.stage = .lower then
      s.setCal { s.cal with current := some { c with peakCurrent := max c.peakCurrent res.code } }
    else s

/-- A calibration movement comes to its limit without its contact: TRAVEL (R124). -/
def calibrationLimitEnds (s : State) : State :=
  match s.cal.current with
  | none => s
  | some c => if due s.now c.limit then failBarrier c .travel s else s

/-- A calibration of the selected barriers starts (R123, R124). -/
def startCalibration (selected : List (Fin 4)) (s : State) : State :=
  nextBarrier (s.setCal { run := .running, current := none, remaining := selected, allPassed := true })

/-- A running calibration is cancelled: every drive off, every barrier IDLE, run state done-fail (R126). -/
def cancelCalibration (s : State) : State :=
  stopAll (s.setCal { run := .doneFail, current := none, remaining := [], allPassed := true })

end Sys2Proof.Machine
end

