-- ==== Sys2Proof/Machine/Scanner.lean ====
section
/-! DEFINITION. The Proving Scanner: strobe, results, who takes them, the battery and the quiet rate (07). -/

namespace Sys2Proof.Machine

/-- The table entry of a scan entry. -/
def State.scanEntry (s : State) (i : Fin 24) : ScanEntry := s.tm.tables.scan[i]

/-! ## A block's result (R131, R132) -/

/-- The class of a code against the thresholds of its entry (R132). A code below low_threshold and above high_threshold, as
unvalidated tables allow, is LOW (DESIGN CHOICE, log entry 45). -/
def classOf (e : ScanEntry) (code : Nat) : ResultClass :=
  if code < e.lowThreshold then .low else if e.highThreshold < code then .high else .inRange

/-- The code of one conversion: proportional to the level of the entry's channel amplified by its gain, and full
scale at or beyond it (R131; the unit and the floor are the model's choice, log entry 15). -/
def conversion (e : ScanEntry) (levels : AnalogueLevels) : Nat :=
  min Config.codeMax (((levels[e.channel]?).getD 0).toNat * e.gain / Config.levelsPerCode)

/-- The result of a block: the floor of the mean of its block_count conversions, its class and the overrange flag
(R131, R132). -/
def blockResult (e : ScanEntry) (inputs : List AnalogueLevels) (start now : Time) : ScanResult :=
  let block := (inputs.take e.blockCount).map (conversion e)
  let code := block.sum / e.blockCount
  { code := code, cls := classOf e code, overrange := block.any (· == Config.codeMax),
    startTime := start, endTime := now }

/-! ## The battery (R136, R137) -/

/-- BATTERY_LOW is judged on a V_bat (R137). -/
def judgeBatteryLow (v : Nat) (s : State) : State :=
  if v < s.params.batteryLow then
    if s.scan.batteryLow then s
    else conditionPresent .batteryLow none { s with scan := { s.scan with batteryLow := true } }
  else if s.params.batteryLow + Config.batteryHysteresis < v ∧ s.scan.batteryLow then
    conditionEnd .batteryLow none { s with scan := { s.scan with batteryLow := false } }
  else s

/-- BATTERY_CRITICAL is judged on a V_bat (R137). -/
def judgeBatteryCritical (v : Nat) (s : State) : State :=
  if v < s.params.batteryCritical then
    if s.scan.batteryCritical then s
    else conditionPresent .batteryCritical none { s with scan := { s.scan with batteryCritical := true } }
  else if s.params.batteryCritical + Config.batteryHysteresis < v ∧ s.scan.batteryCritical then
    conditionEnd .batteryCritical none { s with scan := { s.scan with batteryCritical := false } }
  else s

/-- V_bat = floor(code × battery_span / 4095) (R136). -/
def batteryVoltage (code span : Nat) : Nat := code * span / Config.codeMax

/-- A result of battery_entry is taken: while the table-valid flag is set, one without the overrange flag forms
V_bat, is judged and sets the lamp drive duty (R91, R136, R137). -/
def batteryResult (res : ScanResult) (s : State) : State :=
  if s.tm.valid && !res.overrange then
    let v := batteryVoltage res.code s.params.batterySpan
    let s := { s with scan := { s.scan with vBat := some v } }
    setDuty v (judgeBatteryCritical v (judgeBatteryLow v s))
  else s

/-! ## Handing on a stored result (R132) -/

/-- A barrier's angle result, for the controller and for a calibration. -/
def takeAngle (i : Fin 4) (res : ScanResult) (s : State) : State := calibrationAngle i res (angleResult i res s)

/-- A barrier's current result, for the controller and for a calibration. A barrier under calibration is judged
by the calibration alone. -/
def takeCurrent (i : Fin 4) (res : ScanResult) (s : State) : State :=
  if underCalibration s i then calibrationCurrent i res s else currentResult i res s

/-- A stored result is handed to every block that uses its entry (R132), one user after another, each as the user before
leaves it: a barrier whose calibration begins as the result fails the barrier before takes that result too, where it uses
the same entry (DESIGN CHOICE, log entry 47). -/
def handResult (n : Fin 24) (res : ScanResult) (s : State) : State :=
  let s := forEach 12 (fun i s =>
    if (s.lampEntry i).inService && (s.lampEntry i).scanEntry == n.val then lampResult i res s else s) s
  let s := if s.params.audibleEntry0 = n.val then audibleResult 0 res s else s
  let s := if s.params.audibleEntry1 = n.val then audibleResult 1 res s else s
  let s := forEach 4 (fun i s =>
    if (s.barrierEntry i).angleEntry = n.val then takeAngle i res s else s) s
  let s := forEach 4 (fun i s =>
    if (s.barrierEntry i).currentEntry = n.val then takeCurrent i res s else s) s
  if s.params.batteryEntry = n.val then batteryResult res s else s

/-! ## The strobe (R130) -/

/-- The strobe period in force (R130). -/
def strobePeriod (s : State) : Nat :=
  match s.scan.rate with
  | .normal => s.params.scanStrobe
  | .quiet => s.params.scanStrobe * s.params.quietDivisor

/-- The in-service entry after a position, wrapping to the lowest of all (R130). -/
def nextEntry (ts : Tables) (position : Option (Fin 24)) : Option (Fin 24) :=
  let served := scanInService ts
  match position with
  | none => served.head?
  | some p =>
    match served.find? fun i => decide (p.val < i.val) with
    | some i => some i
    | none => served.head?

/-- The next block starts, and the next strobe is set (R130). -/
def startBlock (s : State) : State :=
  let next := nextEntry s.tm.tables s.scan.position
  { s with scan := { s.scan with
    position := next, blockStart := next.map fun _ => s.now, nextStrobe := some (after s.now (strobePeriod s)) } }

/-- The block in progress is completed: its result is stored and handed on (R130, R132). -/
def completeBlock (inputs : List AnalogueLevels) (s : State) : State :=
  match s.scan.position, s.scan.blockStart with
  | some n, some start =>
    let res := blockResult (s.scanEntry n) inputs start s.now
    handResult n res { s with scan := { s.scan with
      results := s.scan.results.set n (some res), blockStart := none } }
  | _, _ => s

/-- The strobe: the block in progress is completed, and the next one starts (R130). -/
def strobeTaken (inputs : List AnalogueLevels) (s : State) : State :=
  if due s.now s.scan.nextStrobe then startBlock (completeBlock inputs s) else s

/-- A scan entry has been written: its result is absent, and a block in progress for it is abandoned with the
position kept (R128). -/
def scanWritten (n : Fin 24) (s : State) : State :=
  { s with scan := { s.scan with
    results := s.scan.results.set n none
    blockStart := if s.scan.position = some n then none else s.scan.blockStart } }

/-! ## The quiet rate (R134, R135) -/

/-- The crossing is calm: OPEN with every in-service approach IDLE (R134). -/
def calm (s : State) : Bool :=
  s.crossing.state == .isOpen &&
    (List.finRange 4).all fun i => !s.tm.tables.approach[i].inService || s.approaches[i].state == .idle

/-- The states of the approaches. -/
def approachStates (s : State) : List ApproachState := s.approaches.toList.map (·.state)

/-- The normal rate is restored: the next strobe is the sooner of the pending one and one period from now
(R135). -/
def wakeScanner (s : State) : State :=
  let soon := after s.now s.params.scanStrobe
  { s with scan := { s.scan with
    rate := .normal
    nextStrobe := s.scan.nextStrobe.map fun t => if earlier soon t then soon else t } }

/-- quiet_end is set. -/
def setQuietEnd (t : Option Time) (s : State) : State := { s with scan := { s.scan with quietEnd := t } }

/-- quiet_end while calm: set afresh as calm begins and by an event that renews it; absent outside calm (R134). -/
def moveQuietEnd (renewed : Bool) (s : State) : State :=
  if calm s then if renewed then setQuietEnd (some (after s.now s.params.quietAfter)) s else s
  else setQuietEnd none s

/-- The event was a wheel event, or changed the state of the crossing or of an approach (R135). -/
def stirred (before s : State) : Bool :=
  s.handed.wheel || s.crossing.state != before.crossing.state || approachStates s != approachStates before

/-- The scanner takes what an event has brought: a wheel event or a change of crossing or approach state restores
the normal rate, and calm beginning, holding on through such an event, or ending moves quiet_end (R134, R135). -/
def scannerTurn (before s : State) : State :=
  let woken := stirred before s && s.scan.rate == .quiet
  let renewed := !calm before || s.handed.wheel || woken
  let s := { s with handed := { s.handed with wheel := false } }
  moveQuietEnd renewed (if woken then wakeScanner s else s)

/-- quiet_end is reached: the rate becomes QUIET (R134). -/
def quietEnds (s : State) : State :=
  if due s.now s.scan.quietEnd then { s with scan := { s.scan with rate := .quiet, quietEnd := none } } else s

end Sys2Proof.Machine
end

