-- ==== Sys2Proof/Machine/Event.lean ====
section
/-! DEFINITION. One event of the part: time goes by, the event does its own work, and the blocks then take what
it has brought, each once, in a fixed order (00_scope, "How the blocks work together"; R57, R85, R151). -/

namespace Sys2Proof.Machine

/-- The end of an event, `before` being the state before it: the Sequencer takes strikes, freed sections, proving
and notices; the Lamp Controller the aspect and the sound; the proved indication is formed; the Proving Scanner
its rate; the Report Unit the content. A status that leaves at once changes the flags it carried, so the Report
Unit is asked a second time (R151 to R153, R166). -/
def finish (before s : State) : State :=
  reportTurn (reportTurn (scannerTurn before (crossingTurn before s)))

/-- An event taken after a time. A part without supply, or held by the reset line, takes none (R186). -/
def event (dt : Time) (work : State → State) (s : State) : State :=
  if s.alive then finish (s.advance dt) (work (s.advance dt)) else s

end Sys2Proof.Machine
end

