-- ==== Sys2Proof/Machine/ColdStart.lean ====
section
/-! DEFINITION. Start and supply: the beginning of a cold start, the cutting of a save run, the completion of
loading and of a save run (10.5, 10.6), and the commands POWER_UP, RESET_LINE_HELD, RESET_LINE_RELEASE,
SUPPLY_FAILURE, LOADING_COMPLETE and SAVE_RUN_COMPLETE. -/

namespace Sys2Proof.Machine

/-- The store as a cold start or a loss of supply leaves it: a save run under way is cut after the word writes it
has made; without one the store keeps its content (R185). -/
def cutStore (written : Nat) (s : State) : List Word :=
  if s.tm.saveRun = .running then
    partialSave (max 1 (min written Config.saveWrites)) s.tm.saveImage s.store
  else s.store

/-- A save run under way ends where it stands (R185). -/
def cutSave (written : Nat) (s : State) : State :=
  { s with
    store := cutStore written s
    tm := { s.tm with saveRun := if s.tm.saveRun = .running then .idle else s.tm.saveRun } }

/-- The beginning of a cold start: crossing time 0, every block at its cold-start value, loading under way. What
lies outside the part is kept: the store, the contacts, the lines, and the commands that wait (R187). -/
def coldStart (written : Nat) (s : State) : State :=
  { State.reset with
    store := cutStore written s
    contacts := s.contacts
    supply := s.supply
    resetHeld := s.resetHeld
    pending := s.pending }

/-! ## The lines (R186) -/

/-- POWER_UP. With the reset line held, the cold start is the release's (R186; log entry 27). With the supply there
already it begins a cold start all the same (DESIGN CHOICE, log entry 40). -/
def execPowerUp (written : Nat) (s : State) : Host.Outcome State Fault Refusal :=
  .next (coldStart written { s with supply := true })

/-- RESET_LINE_HELD: the part stops where it is, with every drive output off (Outputs.lean). -/
def execResetLineHeld (written : Nat) (s : State) : Host.Outcome State Fault Refusal :=
  .next (cutSave written { s with resetHeld := true })

/-- RESET_LINE_RELEASE: the release begins a cold start, if the supply is there (R186; log entry 27). With the line not
held it begins one all the same (DESIGN CHOICE, log entry 40). -/
def execResetLineRelease (written : Nat) (s : State) : Host.Outcome State Fault Refusal :=
  .next (if s.supply then coldStart written { s with resetHeld := false } else { s with resetHeld := false })

/-- SUPPLY_FAILURE: the part stops; the store keeps what a save run has written (R185). -/
def execSupplyFailure (written : Nat) (s : State) : Host.Outcome State Fault Refusal :=
  .next (cutSave written { s with supply := false })

/-! ## The completion of loading (R187, R188) -/

/-- What loading makes of an image: the tables, and the derived figures where it succeeds. A failed image check
blanks every table; a failed validation keeps the contents as read (R187). -/
def loadOutcome (image : List Word) : Tables × Option Derived :=
  if imagePasses image then
    match validate (loadImage image) with
    | .passed d => (loadImage image, some d)
    | .failed _ => (loadImage image, none)
  else (Tables.blank, none)

/-- The proving of every barrier is formed from its contacts as loading completes (R108). -/
def judgeAllBarriers (s : State) : State := forEach 4 judgeBarrier s

/-- Loading has succeeded: the flag is set, the blocks set up, every in-service approach strikes DISTURBED, and the
crossing enters CLOSING from step 1 (R37, R60, R188). -/
def loadSucceeded (d : Derived) (s : State) : State :=
  enterClosing (strikeAllDisturbed (judgeAllBarriers (validationPassed d s)))

/-- Loading has failed: TABLE_INVALID becomes active (R188). -/
def loadFailed (s : State) : State := judgeAllBarriers (conditionPresent .tableInvalid none s)

/-- Loading has ended with these tables. -/
def adoptTables (ts : Tables) (s : State) : State :=
  { s with loading := false, tm := { s.tm with tables := ts } }

/-- Loading completes: COLD_START is entered first, the outcome follows, and the strobe starts (R130, R146,
R188). -/
def completeLoading (answers : Bool) (s : State) : State :=
  if s.loading then
    let outcome := loadOutcome (readStore answers s.store)
    let s := eventEntered .coldStart none none (adoptTables outcome.1 s)
    match outcome.2 with
    | some d => startBlock (loadSucceeded d s)
    | none => startBlock (loadFailed s)
  else s

/-- LOADING_COMPLETE. -/
def execLoadingComplete (dt : Time) (answers : Bool) (s : State) : Host.Outcome State Fault Refusal :=
  .next (event dt (completeLoading answers) s)

/-! ## The completion of a save run (R185) -/

/-- The read-back of a save run is compared with what was written; the store holds what was read back. -/
def completeSave (readBack : List Word) (s : State) : State :=
  if s.tm.saveRun = .running then
    { s with
      store := readBack
      tm := { s.tm with
        saveRun := if readBack = s.tm.saveImage then .donePass else .doneFail, saveImage := [] } }
  else s

/-- SAVE_RUN_COMPLETE. -/
def execSaveRunComplete (dt : Time) (readBack : List Word) (s : State) : Host.Outcome State Fault Refusal :=
  .next (event dt (completeSave readBack) s)

end Sys2Proof.Machine
end

