-- ==== Sys2Proof/Machine/Telegrams.lean ====
section
/-! DEFINITION. The loop's events: TELEGRAM_RECEPTION, WHEEL_TELEGRAM, HEALTH_TELEGRAM and TRANSMISSION_COMPLETE
(01, 09). -/

namespace Sys2Proof.Machine

/-! ## What becomes of a good telegram (R162) -/

/-- The kind of a telegram the Head Monitor observes. -/
def observedKind (kind : Nat) : Option ObservedKind :=
  if kind = kindWheel then some .wheel else if kind = kindHealth then some .health else none

/-- A telegram to 255 is passed to the Head Monitor on the conditions of R1 (R162). -/
def observe (t : Telegram) (s : State) : State :=
  match observedKind t.kind with
  | some k =>
    let o : Observed := { kind := k, source := t.source, payload := t.payload, arrival := s.now }
    if (actedOn o s).isSome then { s with lnu := { s.lnu with passed := s.lnu.passed ++ [o] } } else s
  | none => s

/-- A consumed telegram: its source is made known to the Report Unit, and a command joins the queue (R162, R169). -/
def consume (port : Port) (t : Telegram) (s : State) : State :=
  let s := linkRefresh t.source s
  if t.kind = kindCommand then
    joinQueue { port := port, arrival := s.now, source := t.source, payload := t.payload } s
  else s

/-- The four cases of R162. -/
inductive Disposition where
  | removed
  | consumed
  | observed
  | repeated
  deriving DecidableEq, Repr

/-- The first case that applies to a telegram (R162). -/
def disposition (answers : Option Nat) (t : Telegram) : Disposition :=
  if answers = some t.source then .removed
  else if answers = some t.destination then .consumed
  else if t.destination = Config.allAddress then .observed
  else .repeated

/-- A good telegram is disposed of (R162). -/
def dispose (port : Port) (t : Telegram) (s : State) : State :=
  match disposition (answeringAddress s) t with
  | .removed => s
  | .consumed => consume port t s
  | .observed => forwardTo (otherPort port) t.frame (observe t s)
  | .repeated => forwardTo (otherPort port) t.frame s

/-- A frame's reception ends; one that is no good telegram is dropped without trace (R161). -/
def receive (port : Port) (frame : List Byte) (s : State) : State :=
  match readTelegram frame with
  | some t => dispose port t s
  | none => s

/-- TELEGRAM_RECEPTION. -/
def execTelegramReception (dt : Time) (port : Port) (frame : List Byte) (s : State) :
    Host.Outcome State Fault Refusal :=
  .next (event dt (receive port frame) s)

/-! ## The Head Monitor takes a telegram passed to it -/

/-- The oldest telegram passed to the Head Monitor is taken by its block, if it is of this kind and is still acted
on (R1, R3). -/
def takePassed (kind : ObservedKind) (act : Fin 16 → Observed → State → State) (s : State) : State :=
  match s.lnu.passed with
  | o :: rest =>
    if o.kind = kind then
      let s := { s with lnu := { s.lnu with passed := rest } }
      match actedOn o s with
      | some i => act i o s
      | none => s
    else s
  | [] => s

/-- WHEEL_TELEGRAM. -/
def execWheelTelegram (dt : Time) (s : State) : Host.Outcome State Fault Refusal :=
  .next (event dt (takePassed .wheel wheelTelegramFor) s)

/-- HEALTH_TELEGRAM. -/
def execHealthTelegram (dt : Time) (s : State) : Host.Outcome State Fault Refusal :=
  .next (event dt (takePassed .health healthTelegramFor) s)

/-! ## The output ports (R165, R186) -/

/-- A transmission on a port completes: the reply to a RESTART begins the cold start; after any other the arbiter
chooses again (R165, R186). -/
def transmissionEnds (port : Port) (written : Nat) (s : State) : State :=
  match (s.lnu.port port).sending with
  | none => s
  | some (.inserted (.reply _ true)) => coldStart written s
  | some _ =>
    startPort port { s with lnu := s.lnu.setPort port { s.lnu.port port with sending := none } }

/-- TRANSMISSION_COMPLETE. -/
def execTransmissionComplete (dt : Time) (port : Port) (written : Nat) (s : State) :
    Host.Outcome State Fault Refusal :=
  .next (event dt (transmissionEnds port written) s)

end Sys2Proof.Machine
end

