-- ==== Sys2Proof/Machine/Command.lean ====
section
/-! DEFINITION. The command processor: the command codes, the general checks, authority, replies and the
completion of a command (9.6, 9.7, 11.2, 11.3). -/

namespace Sys2Proof.Machine

/-! ## The commands of the loop (11.2) -/

/-- The twenty commands, in the order of their codes. -/
inductive Command where
  | poll
  | faultRead
  | faultAccept
  | closeRequest
  | restore
  | takeOutOfUse
  | returnToUse
  | resetSection
  | depart
  | passageRead
  | tableWrite
  | tableRead
  | saveTables
  | restart
  | calibrate
  | calibrateCancel
  | lampTest
  | measureRead
  | passageClose
  | passageRelease
  deriving DecidableEq, Repr

/-- The command a code names; 0 and 21-255 name none (11.2). -/
def Command.fromCode : Nat → Option Command
  | 1 => some .poll
  | 2 => some .faultRead
  | 3 => some .faultAccept
  | 4 => some .closeRequest
  | 5 => some .restore
  | 6 => some .takeOutOfUse
  | 7 => some .returnToUse
  | 8 => some .resetSection
  | 9 => some .depart
  | 10 => some .passageRead
  | 11 => some .tableWrite
  | 12 => some .tableRead
  | 13 => some .saveTables
  | 14 => some .restart
  | 15 => some .calibrate
  | 16 => some .calibrateCancel
  | 17 => some .lampTest
  | 18 => some .measureRead
  | 19 => some .passageClose
  | 20 => some .passageRelease
  | _ => none

/-- The payload length of a command; TABLE_WRITE needs at least 4 bytes (11.2, R189). -/
def Command.lengthFits (c : Command) (n : Nat) : Bool :=
  match c with
  | .poll | .faultAccept | .restore | .takeOutOfUse | .returnToUse | .saveTables | .restart
  | .calibrateCancel | .lampTest | .passageClose => n == 2
  | .closeRequest | .resetSection | .depart | .calibrate | .passageRelease => n == 3
  | .faultRead | .measureRead => n == 4
  | .passageRead | .tableRead => n == 5
  | .tableWrite => decide (4 ≤ n)

/-- The three classes by the role a command needs (9.7). -/
inductive CommandClass where
  | signaller
  | maintenance
  | either
  deriving DecidableEq, Repr

/-- The class of a command (9.7). -/
def Command.cls : Command → CommandClass
  | .closeRequest | .restore | .takeOutOfUse | .returnToUse | .resetSection | .depart | .faultAccept => .signaller
  | .tableWrite | .tableRead | .saveTables | .restart | .calibrate | .calibrateCancel | .lampTest
  | .measureRead | .passageClose | .passageRelease => .maintenance
  | .poll | .faultRead | .passageRead => .either

/-! ## Replies (11.3) -/

/-- The reply codes. -/
inductive ReplyCode where
  | done
  | accepted
  | clamped
  | refusedState
  | refusedAuthority
  | refusedArgument
  | refusedUnknown
  | noEffect
  deriving DecidableEq, Repr

/-- The byte of a reply code. -/
def ReplyCode.code : ReplyCode → Byte
  | .done => 0
  | .accepted => 1
  | .clamped => 2
  | .refusedState => 3
  | .refusedAuthority => 4
  | .refusedArgument => 5
  | .refusedUnknown => 6
  | .noEffect => 7

/-- A command carried out or refused by its own checks: the state it leaves, and the reply to place. -/
structure Answered where
  state : State
  code : ReplyCode
  data : List Byte
  deriving DecidableEq, Repr

/-- A refusal, which changes no state (9.6). -/
def refuse (code : ReplyCode) (s : State) : Answered := { state := s, code := code, data := [] }

/-- A reply without data. -/
def answer (code : ReplyCode) (s : State) : Answered := { state := s, code := code, data := [] }

/-- The payload of a reply: the command's code and tag, the reply code, the data (11.1). -/
def replyPayload (q : QueuedCommand) (code : ReplyCode) (data : List Byte) : List Byte :=
  q.payload.take 2 ++ code.code :: data

/-- The frame of a reply, with the answering address as it stands at the placement (R168, R189). -/
def replyFrame (q : QueuedCommand) (code : ReplyCode) (data : List Byte) (s : State) : List Byte :=
  frameOf q.source (sourceAddress s) kindReply (replyPayload q code data)

/-- A reply is placed in the insertion queue of the port its command came in on (R168). -/
def placeAnswer (q : QueuedCommand) (code : ReplyCode) (data : List Byte) (s : State) : State :=
  placeReply q.port (.reply (replyFrame q code data s) false) s

/-- The processor becomes idle, and takes the next command if one waits (R171). -/
def freeProcessor (s : State) : State := takeCommand { s with lnu := { s.lnu with processor := none } }

/-! ## The checks (R171, R172) -/

/-- A source that can be answered: not 0, 254 or 255 (R171). -/
def sourceAnswers (source : Nat) : Bool :=
  source != 0 && source != Config.serviceAddress && source != Config.allAddress

/-- The command can be answered and its payload holds a code and a tag (R171, R189). -/
def QueuedCommand.answerable (q : QueuedCommand) : Bool := sourceAnswers q.source && decide (2 ≤ q.payload.length)

/-- The command a payload names, if any. -/
def QueuedCommand.named (q : QueuedCommand) : Option Command := Command.fromCode (read8 q.payload 0)

/-- The n-th argument byte, from offset 2 (11.2). -/
def QueuedCommand.arg (q : QueuedCommand) (n : Nat) : Nat := read8 q.payload (2 + n)

/-- The source holds the authority the class needs (R172). -/
def authorised (ts : Tables) (valid : Bool) (cls : CommandClass) (source : Nat) : Bool :=
  match cls with
  | .signaller => holdsRole ts source .signaller
  | .maintenance => !valid || holdsRole ts source .maintenance
  | .either => !valid || holdsRole ts source .signaller || holdsRole ts source .maintenance

/-- The general checks after the command's name, in their order; the reply of the first that fails (R171). -/
def generalCheck (c : Command) (q : QueuedCommand) (s : State) : Option ReplyCode :=
  if !authorised s.tm.tables s.tm.valid c.cls q.source then some .refusedAuthority
  else if c.cls == .signaller && c != .returnToUse && !s.tm.valid then some .refusedState
  else if !c.lengthFits q.payload.length then some .refusedArgument
  else none

/-! ## Completion (R171) -/

/-- The command whose processing completes: the one in the processor, unless it is a RESTART that waits for its
reply to be sent (R171, R186). -/
def completing (s : State) : Option QueuedCommand := if s.lnu.restarting then none else s.lnu.processor

/-- A command of the part completes: the general checks, its own checks and effect, the reply, the processor idle
(R171). A completion of another command than the one being processed is no event. -/
def complete (c : Command) (own : QueuedCommand → State → Answered) (s : State) : State :=
  match completing s with
  | some q =>
    if q.answerable && q.named == some c then
      match generalCheck c q s with
      | some code => freeProcessor (placeAnswer q code [] s)
      | none =>
        let a := own q s
        freeProcessor (placeAnswer q a.code a.data a.state)
    else s
  | none => s

/-- A command whose code names none completes: REFUSED_UNKNOWN (R171). -/
def completeUnknown (s : State) : State :=
  match completing s with
  | some q =>
    if q.answerable && q.named == none then freeProcessor (placeAnswer q .refusedUnknown [] s) else s
  | none => s

/-- A command that cannot be answered completes: it is discarded with no effect and no reply (R171, R189). -/
def completeUnanswerable (s : State) : State :=
  match completing s with
  | some q => if q.answerable then s else freeProcessor s
  | none => s

/-- UNKNOWN_COMMAND. -/
def execUnknownCommand (dt : Time) (s : State) : Host.Outcome State Fault Refusal :=
  .next (event dt completeUnknown s)

/-- UNANSWERABLE_COMMAND. -/
def execUnanswerableCommand (dt : Time) (s : State) : Host.Outcome State Fault Refusal :=
  .next (event dt completeUnanswerable s)

/-- A calibration, a lamp test or a save is running (R83, R100, R123, R184). -/
def anyRunning (s : State) : Bool :=
  s.cal.run == .running || s.lamp.test.run == .running || s.tm.saveRun == .running

/-- The crossing is OUT_OF_USE. -/
def outOfUse (s : State) : Bool := s.crossing.state == .outOfUse

end Sys2Proof.Machine
end

