-- ==== Sys2Proof/Machine/ReadCommands.lean ====
section
/-! DEFINITION. The commands that read: POLL, FAULT_READ, PASSAGE_READ, MEASURE_READ and TABLE_READ
(R139, R150, R154, R159, R179, R190). -/

namespace Sys2Proof.Machine

/-- A count argument is 1-4. -/
def countFits (n : Nat) : Bool := decide (1 ≤ n) && decide (n ≤ 4)

/-! ## POLL (R154) -/

/-- A signaller with valid tables has a status produced; every other source takes the status content in the
reply. -/
def ownPoll (q : QueuedCommand) (s : State) : Answered :=
  if s.tm.valid && holdsRole s.tm.tables q.source .signaller then
    answer .done { s with handed := { s.handed with status := true } }
  else { state := s, code := .done, data := (statusContent s).bytes }

/-- POLL. -/
def execPoll (dt : Time) (s : State) : Host.Outcome State Fault Refusal :=
  .next (event dt (complete .poll ownPoll) s)

/-! ## FAULT_READ (R150) -/

/-- The data of a fault read: records held, records dropped, records returned, the records. -/
def faultReadData (f : FaultRecorder) (first count : Nat) : List Byte :=
  let rs := (f.records.drop first).take count
  [byte f.records.length, flagByte f.dropped, byte rs.length] ++ rs.flatMap FaultRecord.bytes

/-- The own checks and the reply of FAULT_READ. -/
def ownFaultRead (q : QueuedCommand) (s : State) : Answered :=
  if Config.faultCap ≤ q.arg 0 then refuse .refusedArgument s
  else if !countFits (q.arg 1) then refuse .refusedArgument s
  else { state := s, code := .done, data := faultReadData s.faults (q.arg 0) (q.arg 1) }

/-- FAULT_READ. -/
def execFaultRead (dt : Time) (s : State) : Host.Outcome State Fault Refusal :=
  .next (event dt (complete .faultRead ownFaultRead) s)

/-! ## PASSAGE_READ (R159, R190) -/

/-- Passage records one reply holds (R190). -/
def passagesPerReply : Nat := 3

/-- The bank a number names. -/
def bankNumber : Nat → Option Bool
  | 0 => some false
  | 1 => some true
  | _ => none

/-- The data of a passage read: bank, its state, records held, records returned, the records. -/
def passageReadData (one : Bool) (b : Bank) (first count : Nat) : List Byte :=
  let rs := (b.records.drop first).take (min count passagesPerReply)
  [flagByte one, b.state.code, byte b.records.length, byte rs.length] ++ rs.flatMap PassageRecord.bytes

/-- The own checks and the reply of PASSAGE_READ. -/
def ownPassageRead (q : QueuedCommand) (s : State) : Answered :=
  match bankNumber (q.arg 0) with
  | none => refuse .refusedArgument s
  | some one =>
    if Config.bankCap ≤ q.arg 1 then refuse .refusedArgument s
    else if !countFits (q.arg 2) then refuse .refusedArgument s
    else if (s.report.bank one).state = .empty then refuse .refusedState s
    else { state := s, code := .done, data := passageReadData one (s.report.bank one) (q.arg 1) (q.arg 2) }

/-- PASSAGE_READ. -/
def execPassageRead (dt : Time) (s : State) : Host.Outcome State Fault Refusal :=
  .next (event dt (complete .passageRead ownPassageRead) s)

/-! ## MEASURE_READ (R139) -/

/-- The data of a measurement read: entries returned, the result entries. -/
def measureReadData (results : Vector (Option ScanResult) 24) (first count : Nat) : List Byte :=
  let rs := ((List.finRange 24).drop first).take count
  byte rs.length :: rs.flatMap fun i => resultBytes i.val results[i]

/-- The own checks and the reply of MEASURE_READ. -/
def ownMeasureRead (q : QueuedCommand) (s : State) : Answered :=
  if 24 ≤ q.arg 0 then refuse .refusedArgument s
  else if !countFits (q.arg 1) then refuse .refusedArgument s
  else { state := s, code := .done, data := measureReadData s.scan.results (q.arg 0) (q.arg 1) }

/-- MEASURE_READ. -/
def execMeasureRead (dt : Time) (s : State) : Host.Outcome State Fault Refusal :=
  .next (event dt (complete .measureRead ownMeasureRead) s)

/-! ## TABLE_READ (R179, R190) -/

/-- The bytes of entries that fit in one TABLE_READ reply beside its six leading bytes (R190). -/
def tableReadRoom : Nat := Config.payloadMax - 6

/-- The data of a table read: table id, first index, entries returned, the entries. -/
def tableReadData (t : TableId) (ts : Tables) (first count : Nat) : List Byte :=
  let es := ((tableEntries t ts).drop first).take (min count (tableReadRoom / t.entryBytes))
  [byte t.number, byte first, byte es.length] ++ es.flatten

/-- The own checks and the reply of TABLE_READ. -/
def ownTableRead (q : QueuedCommand) (s : State) : Answered :=
  match TableId.fromId (q.arg 0) with
  | none => refuse .refusedArgument s
  | some t =>
    if t.entries ≤ q.arg 1 then refuse .refusedArgument s
    else if !countFits (q.arg 2) then refuse .refusedArgument s
    else { state := s, code := .done, data := tableReadData t s.tm.tables (q.arg 1) (q.arg 2) }

/-- TABLE_READ. -/
def execTableRead (dt : Time) (s : State) : Host.Outcome State Fault Refusal :=
  .next (event dt (complete .tableRead ownTableRead) s)

end Sys2Proof.Machine
end

