-- ==== Sys2Proof/Machine/SignallerCommands.lean ====
section
/-! DEFINITION. The signaller's commands: FAULT_ACCEPT, CLOSE_REQUEST, RESTORE, TAKE_OUT_OF_USE, RETURN_TO_USE,
RESET_SECTION and DEPART (R27, R28, R53, R80 to R84, R149). -/

namespace Sys2Proof.Machine

/-! ## FAULT_ACCEPT (R149) -/

/-- Every LATCHED record removed, every ACTIVE one ACCEPTED_ACTIVE, the records-dropped flag cleared. -/
def FaultRecorder.accept (f : FaultRecorder) : FaultRecorder :=
  { records := (f.records.filter fun r => r.state != .latched).map fun r => { r with state := .acceptedActive }
    dropped := false }

/-- The effect and the reply of FAULT_ACCEPT. -/
def ownFaultAccept (_q : QueuedCommand) (s : State) : Answered :=
  answer .done { s with faults := s.faults.accept }

/-- FAULT_ACCEPT. -/
def execFaultAccept (dt : Time) (s : State) : Host.Outcome State Fault Refusal :=
  .next (event dt (complete .faultAccept ownFaultAccept) s)

/-! ## CLOSE_REQUEST (R80) -/

/-- The argument of CLOSE_REQUEST: 0 off, 1 on (11.2). -/
def requestArgument : Nat → Option Bool
  | 0 => some false
  | 1 => some true
  | _ => none

/-- The own checks, the effect and the reply of CLOSE_REQUEST. The Sequencer judges the demand it changes at the
end of the event (R61). -/
def ownCloseRequest (q : QueuedCommand) (s : State) : Answered :=
  match requestArgument (q.arg 0) with
  | none => refuse .refusedArgument s
  | some on =>
    if outOfUse s then refuse .refusedState s
    else if on = s.crossing.closureRequest then answer .noEffect s
    else answer .done (s.setCrossing { s.crossing with closureRequest := on })

/-- CLOSE_REQUEST. -/
def execCloseRequest (dt : Time) (s : State) : Host.Outcome State Fault Refusal :=
  .next (event dt (complete .closeRequest ownCloseRequest) s)

/-! ## RESTORE (R81) -/

/-- RESTORE with every in-service barrier proved down: CLOSED, aspect RED, sound off, closed_since now, and the
permit judged (R81). -/
def restoreClosed (s : State) : State :=
  judgePermit (s.setCrossing { s.crossing.noProgram with
    state := .closed, aspect := .red, sound := false, closedSince := some s.now, longReported := false,
    openDelayEnd := none, permitLapse := none, exitDelayEnd := none })

/-- The effect of RESTORE in FAILED (R81). -/
def restored (s : State) : State := if allProved .down s then restoreClosed s else reenterClosing s

/-- The own checks, the effect and the reply of RESTORE. -/
def ownRestore (_q : QueuedCommand) (s : State) : Answered :=
  if s.crossing.state != .failed then answer .noEffect s
  else if alarmPresent s then refuse .refusedState s
  else answer .done (restored s)

/-- RESTORE. -/
def execRestore (dt : Time) (s : State) : Host.Outcome State Fault Refusal :=
  .next (event dt (complete .restore ownRestore) s)

/-! ## TAKE_OUT_OF_USE (R82) -/

/-- Every in-service approach is IDLE. -/
def allIdle (s : State) : Bool :=
  (List.finRange 4).all fun i => !(s.approachEntry i).inService || s.approaches[i].state == .idle

/-- TAKE_OUT_OF_USE is taken in OPEN with every in-service approach IDLE, and in FAILED (R82). -/
def mayGoOut (s : State) : Bool :=
  s.crossing.state == .failed || (s.crossing.state == .isOpen && allIdle s)

/-- The own check, the effect and the reply of TAKE_OUT_OF_USE. -/
def ownTakeOutOfUse (_q : QueuedCommand) (s : State) : Answered :=
  if mayGoOut s then answer .done (idleApproaches (sequencerOutOfUse s)) else refuse .refusedState s

/-- TAKE_OUT_OF_USE. -/
def execTakeOutOfUse (dt : Time) (s : State) : Host.Outcome State Fault Refusal :=
  .next (event dt (complete .takeOutOfUse ownTakeOutOfUse) s)

/-! ## RETURN_TO_USE (R83, R84) -/

/-- Stages 2 to 5 of the return to use (R84). -/
def chooseCrossing (s : State) : State :=
  if alarmPresent s then enterFailed s
  else if demand s then enterClosing s
  else if allProved .up s then enterOpen s
  else enterOpening s

/-- A failed validation's reply: the table id and the index reported (R180). -/
def failureData (f : Failure) : List Byte := [byte f.table, byte f.index]

/-- The own checks, the validation, the effect and the reply of RETURN_TO_USE. -/
def ownReturnToUse (_q : QueuedCommand) (s : State) : Answered :=
  if !outOfUse s then refuse .refusedState s
  else if anyRunning s then refuse .refusedState s
  else match validate s.tm.tables with
    | .failed f => { state := s, code := .refusedArgument, data := failureData f }
    | .passed d => answer .done (chooseCrossing (setUpApproaches (validationPassed d s)))

/-- RETURN_TO_USE. -/
def execReturnToUse (dt : Time) (s : State) : Host.Outcome State Fault Refusal :=
  .next (event dt (complete .returnToUse ownReturnToUse) s)

/-! ## RESET_SECTION (R27, R28) -/

/-- A boundary head of a section is LOST or FAULTY (R15, R27). -/
def boundaryGone (s : State) (e : SectionEntry) : Bool :=
  e.boundaries.any fun b =>
    match s.heads[b.head]? with
    | some r => r.state == .lost || r.state == .faulty
    | none => false

/-- The own checks, the effect and the reply of RESET_SECTION. -/
def ownResetSection (q : QueuedCommand) (s : State) : Answered :=
  if h : q.arg 0 < 8 then
    let i : Fin 8 := ⟨q.arg 0, h⟩
    if !(s.sectionEntry i).inService then refuse .refusedArgument s
    else if s.sections[i].state != .disturbed then refuse .refusedState s
    else if boundaryGone s (s.sectionEntry i) then refuse .refusedState s
    else answer .done (resetSectionRecord i s)
  else refuse .refusedArgument s

/-- RESET_SECTION. -/
def execResetSection (dt : Time) (s : State) : Host.Outcome State Fault Refusal :=
  .next (event dt (complete .resetSection ownResetSection) s)

/-! ## DEPART (R53) -/

/-- The own check, the effect and the reply of DEPART. -/
def ownDepart (q : QueuedCommand) (s : State) : Answered :=
  if h : q.arg 0 < 4 then
    let i : Fin 4 := ⟨q.arg 0, h⟩
    if !(s.approachEntry i).inService then refuse .refusedArgument s
    else if s.approaches[i].state = .deferred then answer .done (strike i .depart s)
    else answer .noEffect s
  else refuse .refusedArgument s

/-- DEPART. -/
def execDepart (dt : Time) (s : State) : Host.Outcome State Fault Refusal :=
  .next (event dt (complete .depart ownDepart) s)

end Sys2Proof.Machine
end

