-- ==== Sys2Proof/Machine/MaintenanceCommands.lean ====
section
/-! DEFINITION. The maintenance terminal's commands that change something: TABLE_WRITE, SAVE_TABLES, RESTART,
CALIBRATE, CALIBRATE_CANCEL, LAMP_TEST, PASSAGE_CLOSE and PASSAGE_RELEASE (R100, R123, R126, R157, R158, R176,
R177, R184, R186). -/

namespace Sys2Proof.Machine

/-! ## TABLE_WRITE (R176, R177) -/

/-- The entries from `first` on, `n` of them, hold an index. -/
def writtenAt (first n i : Nat) : Bool := decide (first ≤ i) && decide (i < first + n)

/-- What a write does beside changing its table: a written scan entry loses its result; a barrier written out of
service is stopped; positions are judged anew (R105, R107, R128). -/
def afterWrite (t : TableId) (first n : Nat) (before : Tables) (s : State) : State :=
  match t with
  | .scan =>
    forEach 4 rejudgePosition (forEach 24 (fun i s => if writtenAt first n i.val then scanWritten i s else s) s)
  | .barrier =>
    forEach 4 rejudgePosition (forEach 4 (fun i s =>
      if before.barrier[i].inService && !(s.barrierEntry i).inService then takeBarrierOut i s else s) s)
  | .node | .params | .dpt | .sectionTable | .approach | .closing | .opening | .lamp | .reportMask => s

/-- An accepted write: the entries stored, the blocks told, the table-valid flag cleared (R177, R178). -/
def writeTable (t : TableId) (first : Nat) (entries : List (List Byte)) (s : State) : State :=
  let r := storeEntries t first entries s.tm.tables
  clearValid (afterWrite t first entries.length s.tm.tables { s with tm := { s.tm with tables := r.value } })

/-- The own checks, the effect and the reply of TABLE_WRITE. -/
def ownTableWrite (q : QueuedCommand) (s : State) : Answered :=
  let data := q.payload.drop 4
  if !outOfUse s then refuse .refusedState s
  else if s.tm.saveRun == .running || s.cal.run == .running then refuse .refusedState s
  else match TableId.fromId (q.arg 0) with
    | none => refuse .refusedArgument s
    | some t =>
      if t.entries ≤ q.arg 1 then refuse .refusedArgument s
      else if data.isEmpty || data.length % t.entryBytes != 0 then refuse .refusedArgument s
      else
        let sent := data.length / t.entryBytes
        let entries := cutEntries t.entryBytes sent data
        { state := writeTable t (q.arg 1) entries s
          code := if (storeEntries t (q.arg 1) entries s.tm.tables).clamped then .clamped else .done
          data := [byte (min sent (t.entries - q.arg 1))] }

/-- TABLE_WRITE. -/
def execTableWrite (dt : Time) (s : State) : Host.Outcome State Fault Refusal :=
  .next (event dt (complete .tableWrite ownTableWrite) s)

/-! ## SAVE_TABLES (R184) -/

/-- The save run starts with the tables as they stand (R185). -/
def startSave (s : State) : State :=
  { s with tm := { s.tm with saveRun := .running, saveImage := imageOf s.tm.tables } }

/-- The own checks, the validation, the effect and the reply of SAVE_TABLES. The status that the flag's setting brings at
once shows the save running (10.7, R151, R153). -/
def ownSaveTables (_q : QueuedCommand) (s : State) : Answered :=
  if !outOfUse s then refuse .refusedState s
  else if anyRunning s then refuse .refusedState s
  else match validate s.tm.tables with
    | .failed f => { state := s, code := .refusedArgument, data := failureData f }
    | .passed d => answer .accepted (validationPassed d (startSave s))

/-- SAVE_TABLES. -/
def execSaveTables (dt : Time) (s : State) : Host.Outcome State Fault Refusal :=
  .next (event dt (complete .saveTables ownSaveTables) s)

/-! ## RESTART (R186) -/

/-- A RESTART is taken: the reply DONE is placed, and the processor stays busy until it has been sent; where the
queue cannot take the reply, the cold start begins at once (R186). -/
def beginRestart (q : QueuedCommand) (written : Nat) (s : State) : State :=
  if replyFits q.port s then
    placeReply q.port (.reply (replyFrame q .done [] s) true) { s with lnu := { s.lnu with restarting := true } }
  else coldStart written s

/-- The completion of a RESTART. -/
def completeRestart (written : Nat) (s : State) : State :=
  match completing s with
  | some q =>
    if q.answerable && q.named == some .restart then
      match generalCheck .restart q s with
      | some code => freeProcessor (placeAnswer q code [] s)
      | none =>
        if outOfUse s then beginRestart q written s else freeProcessor (placeAnswer q .refusedState [] s)
    else s
  | none => s

/-- RESTART. -/
def execRestart (dt : Time) (written : Nat) (s : State) : Host.Outcome State Fault Refusal :=
  .next (event dt (completeRestart written) s)

/-! ## CALIBRATE and CALIBRATE_CANCEL (R123, R126) -/

/-- The barriers a mask selects, in index order (11.2). -/
def selectedBarriers (mask : Nat) : List (Fin 4) := (List.finRange 4).filter fun i => mask.testBit i.val

/-- A barrier's angle and current entries can serve a calibration (R123). -/
def calibratable (ts : Tables) (i : Fin 4) : Bool :=
  let e := ts.barrier[i]
  e.angleEntry != e.currentEntry && scanServes ts e.angleEntry && scanServes ts e.currentEntry

/-- The own checks, the effect and the reply of CALIBRATE. -/
def ownCalibrate (q : QueuedCommand) (s : State) : Answered :=
  let selected := selectedBarriers (q.arg 0)
  if !outOfUse s then refuse .refusedState s
  else if anyRunning s then refuse .refusedState s
  else if selected.isEmpty || decide (16 ≤ q.arg 0) || !selected.all fun i => (s.barrierEntry i).inService then
    refuse .refusedArgument s
  else if !selected.all fun i => calibratable s.tm.tables i then refuse .refusedArgument s
  else answer .accepted (startCalibration selected s)

/-- CALIBRATE. -/
def execCalibrate (dt : Time) (s : State) : Host.Outcome State Fault Refusal :=
  .next (event dt (complete .calibrate ownCalibrate) s)

/-- The effect and the reply of CALIBRATE_CANCEL. -/
def ownCalibrateCancel (_q : QueuedCommand) (s : State) : Answered :=
  if s.cal.run = .running then answer .done (cancelCalibration s) else answer .noEffect s

/-- CALIBRATE_CANCEL. -/
def execCalibrateCancel (dt : Time) (s : State) : Host.Outcome State Fault Refusal :=
  .next (event dt (complete .calibrateCancel ownCalibrateCancel) s)

/-! ## LAMP_TEST (R100) -/

/-- The own checks, the effect and the reply of LAMP_TEST. -/
def ownLampTest (_q : QueuedCommand) (s : State) : Answered :=
  if !s.tm.valid then refuse .refusedState s
  else if !outOfUse s then refuse .refusedState s
  else if anyRunning s then refuse .refusedState s
  else answer .accepted (startLampTest s)

/-- LAMP_TEST. -/
def execLampTest (dt : Time) (s : State) : Host.Outcome State Fault Refusal :=
  .next (event dt (complete .lampTest ownLampTest) s)

/-! ## PASSAGE_CLOSE and PASSAGE_RELEASE (R157, R158) -/

/-- The effect and the reply of PASSAGE_CLOSE. -/
def ownPassageClose (_q : QueuedCommand) (s : State) : Answered :=
  match s.report.fillingBank with
  | some one =>
    if (s.report.bank one).records.isEmpty then answer .noEffect s
    else answer .done { s with report := s.report.makeReady one }
  | none => answer .noEffect s

/-- PASSAGE_CLOSE. -/
def execPassageClose (dt : Time) (s : State) : Host.Outcome State Fault Refusal :=
  .next (event dt (complete .passageClose ownPassageClose) s)

/-- A READY bank is emptied, and fills at once if the other is not FILLING (R158). -/
def ReportUnit.releaseBank (r : ReportUnit) (one : Bool) : ReportUnit :=
  r.setBank one { state := if (r.bank !one).state = .filling then .empty else .filling, records := [] }

/-- The own checks, the effect and the reply of PASSAGE_RELEASE. -/
def ownPassageRelease (q : QueuedCommand) (s : State) : Answered :=
  match bankNumber (q.arg 0) with
  | none => refuse .refusedArgument s
  | some one =>
    if (s.report.bank one).state = .ready then answer .done { s with report := s.report.releaseBank one }
    else refuse .refusedState s

/-- PASSAGE_RELEASE. -/
def execPassageRelease (dt : Time) (s : State) : Host.Outcome State Fault Refusal :=
  .next (event dt (complete .passageRelease ownPassageRelease) s)

end Sys2Proof.Machine
end

