-- ==== Sys2Proof/Machine/Expiries.lean ====
section
/-! DEFINITION. The timer expiries, one for each timer of the part. Each is the event that its timer has come to
its end; where the timer is not running, or its end is not reached, only time goes by. -/

namespace Sys2Proof.Machine

/-! ## The train side -/

/-- HEAD_SILENCE_EXPIRY (R11). -/
def execHeadSilenceExpiry (dt : Time) (head : Fin 16) (s : State) : Host.Outcome State Fault Refusal :=
  .next (event dt (headSilent head) s)

/-- DEADLINE_EXPIRY (R48). -/
def execDeadlineExpiry (dt : Time) (approach : Fin 4) (s : State) : Host.Outcome State Fault Refusal :=
  .next (event dt (deadlineEnds approach) s)

/-! ## The crossing -/

/-- WAIT_EXPIRY (R65). -/
def execWaitExpiry (dt : Time) (s : State) : Host.Outcome State Fault Refusal := .next (event dt waitEnds s)

/-- PERMIT_LAPSE (R73, R74). -/
def execPermitLapse (dt : Time) (s : State) : Host.Outcome State Fault Refusal := .next (event dt permitLapses s)

/-- OPEN_DELAY_EXPIRY (R74). -/
def execOpenDelayExpiry (dt : Time) (s : State) : Host.Outcome State Fault Refusal :=
  .next (event dt openDelayEnds s)

/-- EXIT_DELAY_EXPIRY (R77). -/
def execExitDelayExpiry (dt : Time) (s : State) : Host.Outcome State Fault Refusal :=
  .next (event dt exitDelayEnds s)

/-- LONG_CLOSURE_EXPIRY (R79). -/
def execLongClosureExpiry (dt : Time) (s : State) : Host.Outcome State Fault Refusal :=
  .next (event dt longClosureEnds s)

/-! ## The lamps -/

/-- HALF_PERIOD_EXPIRY (R90). -/
def execHalfPeriodExpiry (dt : Time) (s : State) : Host.Outcome State Fault Refusal :=
  .next (event dt halfPeriodEnds s)

/-- DARK_TIMER_EXPIRY (R99). -/
def execDarkTimerExpiry (dt : Time) (side : Side) (s : State) : Host.Outcome State Fault Refusal :=
  .next (event dt (darkTimerEnds side) s)

/-- LAMP_TEST_SLOT_END (R101). -/
def execLampTestSlotEnd (dt : Time) (s : State) : Host.Outcome State Fault Refusal := .next (event dt slotEnds s)

/-! ## The barriers -/

/-- START_PHASE_EXPIRY (R114). -/
def execStartPhaseExpiry (dt : Time) (barrier : Fin 4) (s : State) : Host.Outcome State Fault Refusal :=
  .next (event dt (startPhaseEnds barrier) s)

/-- REVERSE_PAUSE_EXPIRY (R118). -/
def execReversePauseExpiry (dt : Time) (barrier : Fin 4) (s : State) : Host.Outcome State Fault Refusal :=
  .next (event dt (pauseEnds .reverse true barrier) s)

/-- TRIPPED_PAUSE_EXPIRY (R119). -/
def execTrippedPauseExpiry (dt : Time) (barrier : Fin 4) (s : State) : Host.Outcome State Fault Refusal :=
  .next (event dt (pauseEnds .tripped false barrier) s)

/-- TRAVEL_EXPIRY (R121). -/
def execTravelExpiry (dt : Time) (barrier : Fin 4) (s : State) : Host.Outcome State Fault Refusal :=
  .next (event dt (travelEnds barrier) s)

/-- DISAGREEMENT_TIMER_EXPIRY (R110). -/
def execDisagreementTimerExpiry (dt : Time) (barrier : Fin 4) (s : State) : Host.Outcome State Fault Refusal :=
  .next (event dt (disagreementEnds barrier) s)

/-- CALIBRATION_LIMIT_EXPIRY (R124). -/
def execCalibrationLimitExpiry (dt : Time) (s : State) : Host.Outcome State Fault Refusal :=
  .next (event dt calibrationLimitEnds s)

/-! ## The scanner and the report -/

/-- QUIET_END_EXPIRY (R134). -/
def execQuietEndExpiry (dt : Time) (s : State) : Host.Outcome State Fault Refusal := .next (event dt quietEnds s)

/-- status_due is reached: a status is asked for (R153). -/
def statusDueEnds (s : State) : State :=
  if due s.now s.report.statusDue then { s with handed := { s.handed with status := true } } else s

/-- STATUS_DUE_EXPIRY (R153). -/
def execStatusDueExpiry (dt : Time) (s : State) : Host.Outcome State Fault Refusal :=
  .next (event dt statusDueEnds s)

/-- link_end is reached: SIGNALLER_LINK_LOST (R155). -/
def linkEnds (s : State) : State :=
  if due s.now s.report.linkEnd then
    conditionPresent .signallerLinkLost none { s with report := { s.report with linkEnd := none } }
  else s

/-- LINK_END_EXPIRY (R155). -/
def execLinkEndExpiry (dt : Time) (s : State) : Host.Outcome State Fault Refusal := .next (event dt linkEnds s)

end Sys2Proof.Machine
end

