-- ==== Sys2Proof/Machine/Inputs.lean ====
section
/-! DEFINITION. The inputs of the road side: CONTACT_CHANGE and STROBE (R108, R110, R117, R124, R130). -/

namespace Sys2Proof.Machine

/-! ## CONTACT_CHANGE -/

/-- A contact input at a level. -/
def Contacts.put (c : Contacts) (d : BarrierEnd) (closed : Bool) : Contacts :=
  match d with
  | .down => { c with down := closed }
  | .up => { c with up := closed }

/-- The input of a contact takes a level. -/
def setContact (i : Fin 4) (d : BarrierEnd) (closed : Bool) (s : State) : State :=
  { s with contacts := s.contacts.set i (s.contacts[i].put d closed) }

/-- A contact has closed or opened: the movement it ends or resumes, proving and disagreement, and the stage of a
calibration that its closing ends (R108, R110, R117, R124). While loading, and for an out-of-service barrier, only
the input changes. -/
def contactChanged (i : Fin 4) (d : BarrierEnd) (closed : Bool) (s : State) : State :=
  if s.contacts[i].at_ d = closed then s
  else
    let s := setContact i d closed s
    if s.loading || !(s.barrierEntry i).inService then s
    else
      let s := judgeBarrier i (contactMotion i d closed s)
      if closed then calibrationContact i d s else s

/-- CONTACT_CHANGE. The input lies outside the part: it moves while the part has no supply or is held in reset. -/
def execContactChange (dt : Time) (barrier : Fin 4) (contact : BarrierEnd) (closed : Bool) (s : State) :
    Host.Outcome State Fault Refusal :=
  .next (if s.alive then event dt (contactChanged barrier contact closed) s
    else setContact barrier contact closed s)

/-! ## STROBE -/

/-- STROBE: the scanner converts the inputs, as they stood at each conversion of the block in progress (R130,
R131). -/
def execStrobe (dt : Time) (inputs : Vector AnalogueLevels 8) (s : State) : Host.Outcome State Fault Refusal :=
  .next (event dt (strobeTaken inputs.toList) s)

end Sys2Proof.Machine
end

