-- ==== Sys2Proof/Machine/Outputs.lean ====
section
/-! DEFINITION. What the output pins show: the lamps, the audible warnings and the barrier motors. Each is read
from State; without supply, or with the reset line held, every output is off (R186). -/

namespace Sys2Proof.Machine

/-- A lamp output is on: STEADY, or FLASH in the half-period of its phase (5.2, R90). -/
def lampOn (s : State) (i : Fin 12) : Bool :=
  s.alive &&
  match (s.lampRecord i).mode with
  | .dark => false
  | .steady => true
  | .flash => s.lamp.phase == some (s.lampEntry i).phase

/-- The duty of a lamp output in percent: the lamp drive duty while it is on, 0 while it is off (R91). -/
def lampOutput (s : State) (i : Fin 12) : Nat := if lampOn s i then s.lamp.duty.getD 0 else 0

/-- The two audible outputs, driven together (R102). -/
def audibleOn (s : State) : Bool := s.alive && s.lamp.sound

/-- What a motor output is driven with (6.3). -/
def motorOutput (s : State) (i : Fin 4) : Drive := if s.alive then s.barriers[i].drive else .off

end Sys2Proof.Machine
end

