-- ==== Sys2Proof/Machine/Dispatch.lean ====
section
/-! DEFINITION. One arm for each command of the block, in the order of spec/opcode_table.json. -/

namespace Sys2Proof.Machine

/-- What a command does to everything but the queue. -/
def exec (i : Instr) (s : State) : Host.Outcome State Fault Refusal :=
  match i with
  | .powerUp written => Sys2Proof.Machine.execPowerUp written s
  | .resetLineHeld written => Sys2Proof.Machine.execResetLineHeld written s
  | .resetLineRelease written => Sys2Proof.Machine.execResetLineRelease written s
  | .loadingComplete dt answers => Sys2Proof.Machine.execLoadingComplete dt answers s
  | .telegramReception dt port frame => Sys2Proof.Machine.execTelegramReception dt port frame s
  | .wheelTelegram dt => Sys2Proof.Machine.execWheelTelegram dt s
  | .healthTelegram dt => Sys2Proof.Machine.execHealthTelegram dt s
  | .transmissionComplete dt port written => Sys2Proof.Machine.execTransmissionComplete dt port written s
  | .poll dt => Sys2Proof.Machine.execPoll dt s
  | .faultRead dt => Sys2Proof.Machine.execFaultRead dt s
  | .faultAccept dt => Sys2Proof.Machine.execFaultAccept dt s
  | .closeRequest dt => Sys2Proof.Machine.execCloseRequest dt s
  | .restore dt => Sys2Proof.Machine.execRestore dt s
  | .takeOutOfUse dt => Sys2Proof.Machine.execTakeOutOfUse dt s
  | .returnToUse dt => Sys2Proof.Machine.execReturnToUse dt s
  | .resetSection dt => Sys2Proof.Machine.execResetSection dt s
  | .depart dt => Sys2Proof.Machine.execDepart dt s
  | .passageRead dt => Sys2Proof.Machine.execPassageRead dt s
  | .tableWrite dt => Sys2Proof.Machine.execTableWrite dt s
  | .tableRead dt => Sys2Proof.Machine.execTableRead dt s
  | .saveTables dt => Sys2Proof.Machine.execSaveTables dt s
  | .restart dt written => Sys2Proof.Machine.execRestart dt written s
  | .calibrate dt => Sys2Proof.Machine.execCalibrate dt s
  | .calibrateCancel dt => Sys2Proof.Machine.execCalibrateCancel dt s
  | .lampTest dt => Sys2Proof.Machine.execLampTest dt s
  | .measureRead dt => Sys2Proof.Machine.execMeasureRead dt s
  | .passageClose dt => Sys2Proof.Machine.execPassageClose dt s
  | .passageRelease dt => Sys2Proof.Machine.execPassageRelease dt s
  | .unknownCommand dt => Sys2Proof.Machine.execUnknownCommand dt s
  | .unanswerableCommand dt => Sys2Proof.Machine.execUnanswerableCommand dt s
  | .headSilenceExpiry dt head => Sys2Proof.Machine.execHeadSilenceExpiry dt head s
  | .deadlineExpiry dt approach => Sys2Proof.Machine.execDeadlineExpiry dt approach s
  | .waitExpiry dt => Sys2Proof.Machine.execWaitExpiry dt s
  | .permitLapse dt => Sys2Proof.Machine.execPermitLapse dt s
  | .openDelayExpiry dt => Sys2Proof.Machine.execOpenDelayExpiry dt s
  | .exitDelayExpiry dt => Sys2Proof.Machine.execExitDelayExpiry dt s
  | .longClosureExpiry dt => Sys2Proof.Machine.execLongClosureExpiry dt s
  | .halfPeriodExpiry dt => Sys2Proof.Machine.execHalfPeriodExpiry dt s
  | .darkTimerExpiry dt side => Sys2Proof.Machine.execDarkTimerExpiry dt side s
  | .lampTestSlotEnd dt => Sys2Proof.Machine.execLampTestSlotEnd dt s
  | .startPhaseExpiry dt barrier => Sys2Proof.Machine.execStartPhaseExpiry dt barrier s
  | .reversePauseExpiry dt barrier => Sys2Proof.Machine.execReversePauseExpiry dt barrier s
  | .trippedPauseExpiry dt barrier => Sys2Proof.Machine.execTrippedPauseExpiry dt barrier s
  | .travelExpiry dt barrier => Sys2Proof.Machine.execTravelExpiry dt barrier s
  | .disagreementTimerExpiry dt barrier => Sys2Proof.Machine.execDisagreementTimerExpiry dt barrier s
  | .calibrationLimitExpiry dt => Sys2Proof.Machine.execCalibrationLimitExpiry dt s
  | .contactChange dt barrier contact closed => Sys2Proof.Machine.execContactChange dt barrier contact closed s
  | .strobe dt inputs => Sys2Proof.Machine.execStrobe dt inputs s
  | .quietEndExpiry dt => Sys2Proof.Machine.execQuietEndExpiry dt s
  | .statusDueExpiry dt => Sys2Proof.Machine.execStatusDueExpiry dt s
  | .linkEndExpiry dt => Sys2Proof.Machine.execLinkEndExpiry dt s
  | .saveRunComplete dt readBack => Sys2Proof.Machine.execSaveRunComplete dt readBack s
  | .supplyFailure written => Sys2Proof.Machine.execSupplyFailure written s

end Sys2Proof.Machine
end

