-- ==== Sys2Proof/Safety.lean ====
section
/-! DEFINITION. What the statements speak of: frames, a command as the manual lets it be carried out, and the
properties that hold after every step (the claims of Certificates/Slice0/Obligations.lean). -/

namespace Sys2Proof.Machine

/-! ## Frames -/

/-- The parts of State that frames speak of. Some are parts of others: `request` of `crossing`, `lampTest`,
`redProved` and `handedOn` of `lamp`. -/
inductive Part where
  | lines
  | loading
  | now
  | store
  | contacts
  | pending
  | tables
  | flag
  | save
  | ports
  | queue
  | overflow
  | passed
  | heads
  | sections
  | approaches
  | crossing
  | request
  | lamp
  | lampTest
  | redProved
  | handedOn
  | barriers
  | cal
  | rate
  | block
  | results
  | battery
  | faults
  | newFault
  | status
  | link
  | banks
  | handed
  deriving DecidableEq, Repr

/-- Two states agree in a part. -/
def Part.same (s t : State) : Part → Prop
  | .lines => t.supply = s.supply ∧ t.resetHeld = s.resetHeld
  | .loading => t.loading = s.loading
  | .now => t.now = s.now
  | .store => t.store = s.store
  | .contacts => t.contacts = s.contacts
  | .pending => t.pending = s.pending
  | .tables => t.tm.tables = s.tm.tables
  | .flag => t.tm.valid = s.tm.valid ∧ t.tm.ownValidated = s.tm.ownValidated ∧ t.tm.derived = s.tm.derived
  | .save => t.tm.saveRun = s.tm.saveRun ∧ t.tm.saveImage = s.tm.saveImage
  | .ports => t.lnu.portA = s.lnu.portA ∧ t.lnu.portB = s.lnu.portB
  | .queue => t.lnu.queue = s.lnu.queue ∧ t.lnu.processor = s.lnu.processor ∧
      t.lnu.restarting = s.lnu.restarting
  | .overflow => t.lnu.overflow = s.lnu.overflow ∧ t.lnu.lateDiscard = s.lnu.lateDiscard
  | .passed => t.lnu.passed = s.lnu.passed
  | .heads => t.heads = s.heads
  | .sections => t.sections = s.sections
  | .approaches => t.approaches = s.approaches
  | .crossing => t.crossing = s.crossing
  | .request => t.crossing.closureRequest = s.crossing.closureRequest
  | .lamp => t.lamp = s.lamp
  | .lampTest => t.lamp.test = s.lamp.test
  | .redProved => t.lamp.redProved = s.lamp.redProved
  | .handedOn => t.lamp.aspect = s.lamp.aspect ∧ t.lamp.sound = s.lamp.sound
  | .barriers => t.barriers = s.barriers
  | .cal => t.cal = s.cal
  | .rate => t.scan.nextStrobe = s.scan.nextStrobe ∧ t.scan.rate = s.scan.rate ∧
      t.scan.quietEnd = s.scan.quietEnd
  | .block => t.scan.position = s.scan.position ∧ t.scan.blockStart = s.scan.blockStart
  | .results => t.scan.results = s.scan.results
  | .battery => t.scan.vBat = s.scan.vBat ∧ t.scan.batteryLow = s.scan.batteryLow ∧
      t.scan.batteryCritical = s.scan.batteryCritical
  | .faults => t.faults = s.faults
  | .newFault => t.report.newFault = s.report.newFault ∧ t.report.fresh = s.report.fresh
  | .status => t.report.lastStatus = s.report.lastStatus ∧ t.report.statusDue = s.report.statusDue
  | .link => t.report.linkEnd = s.report.linkEnd
  | .banks => t.report.bank0 = s.report.bank0 ∧ t.report.bank1 = s.report.bank1
  | .handed => t.handed = s.handed

/-- Every part outside the list is as it was. -/
structure Frame (ps : List Part) (s t : State) : Prop where
  same : ∀ p, p ∉ ps → Part.same s t p

/-! ## What each command may move -/

/-- The parts that the passing of time and the end of any event may move (R57, R62, R85, R135, R153). -/
def eventEnd : List Part :=
  [.now, .ports, .newFault, .overflow, .status, .crossing, .lamp, .redProved, .handedOn, .barriers, .faults, .rate,
   .handed]

/-- The parts a command of its own may move, beside `eventEnd`. The four commands of the lines are not events of
crossing time: POWER_UP and RESET_LINE_RELEASE begin a cold start. RESTART and TRANSMISSION_COMPLETE are listed as
they stand where no cold start comes of them (`beginsCold`). -/
def touches : Instr → List Part
  | .powerUp _ | .resetLineRelease _ =>
    [.lines, .loading, .store, .tables, .flag, .save, .queue, .passed, .heads, .sections, .approaches, .request,
     .lampTest, .cal, .block, .results, .battery, .link, .banks]
  | .resetLineHeld _ | .supplyFailure _ => [.lines, .store, .save]
  | .loadingComplete _ _ =>
    [.loading, .tables, .flag, .block, .heads, .sections, .approaches, .banks, .link]
  | .telegramReception _ _ _ => [.passed, .queue, .link]
  | .wheelTelegram _ | .healthTelegram _ => [.passed, .heads, .sections, .approaches, .banks]
  | .transmissionComplete _ _ _ => []
  | .poll _ | .faultRead _ | .faultAccept _ | .restore _ | .passageRead _ | .tableRead _ | .restart _ _
  | .measureRead _ | .unknownCommand _ | .unanswerableCommand _ => [.queue]
  | .closeRequest _ => [.queue, .request]
  | .takeOutOfUse _ => [.queue, .request, .approaches]
  | .returnToUse _ => [.queue, .flag, .heads, .sections, .approaches, .link]
  | .resetSection _ => [.queue, .sections, .approaches, .banks]
  | .depart _ => [.queue, .approaches]
  | .tableWrite _ => [.queue, .tables, .flag, .block, .results, .heads, .lampTest, .battery, .link]
  | .saveTables _ => [.queue, .flag, .save, .heads, .sections, .link]
  | .calibrate _ | .calibrateCancel _ => [.queue, .cal]
  | .lampTest _ => [.queue, .lampTest]
  | .passageClose _ | .passageRelease _ => [.queue, .banks]
  | .headSilenceExpiry _ _ => [.heads, .sections, .approaches, .banks]
  | .deadlineExpiry _ _ => [.approaches]
  | .waitExpiry _ | .permitLapse _ | .openDelayExpiry _ | .exitDelayExpiry _ | .longClosureExpiry _ => []
  | .halfPeriodExpiry _ | .darkTimerExpiry _ _ => []
  | .lampTestSlotEnd _ => [.lampTest]
  | .startPhaseExpiry _ _ | .reversePauseExpiry _ _ | .trippedPauseExpiry _ _ | .travelExpiry _ _
  | .disagreementTimerExpiry _ _ => []
  | .calibrationLimitExpiry _ => [.cal]
  | .contactChange _ _ _ _ => [.contacts, .tables, .cal, .flag, .heads, .lampTest, .battery, .link]
  | .strobe _ _ => [.block, .results, .cal, .battery]
  | .quietEndExpiry _ | .statusDueExpiry _ => []
  | .linkEndExpiry _ => [.link]
  | .saveRunComplete _ _ => [.store, .save]

/-- A cold start comes of the command: the transmission that completes was the reply to a RESTART, or a RESTART
finds no room for its reply (R186). -/
def beginsCold (c : Instr) (s : State) : Bool :=
  match c with
  | .transmissionComplete _ p _ =>
    match (s.lnu.port p).sending with
    | some (.inserted (.reply _ restart)) => restart
    | _ => false
  | .restart _ _ => (s.lnu.processor.map fun q => !replyFits q.port s).getD false
  | _ => false

/-! ## A part that takes events (R186) -/

/-- The supply is there and the reset line is not held. -/
def Running (s : State) : Prop := s.supply = true ∧ s.resetHeld = false

/-! ## A command that is carried out (9.6, 9.7) -/

/-- An in-service NODE entry carries the source with this role (R172). -/
def HasRole (s : State) (source : Nat) (role : Role) : Prop :=
  ∃ i : Fin 4, s.tm.tables.node[i].inService = true ∧ s.tm.tables.node[i].address = source ∧
    s.tm.tables.node[i].role = role

/-- The authority each class of command needs (9.7, R172). -/
def MayGive (s : State) (source : Nat) : CommandClass → Prop
  | .signaller => HasRole s source .signaller
  | .maintenance => s.tm.valid = false ∨ HasRole s source .maintenance
  | .either => s.tm.valid = false ∨ HasRole s source .signaller ∨ HasRole s source .maintenance

/-- The part is running, and its processor holds a command that can be answered, with this code and these
arguments (R171, 11.2). -/
def Processes (s : State) (q : QueuedCommand) (code : Byte) (args : List Byte) : Prop :=
  Running s ∧ s.lnu.processor = some q ∧ s.lnu.restarting = false ∧
  q.source ≠ 0 ∧ q.source ≠ 254 ∧ q.source ≠ 255 ∧ ∃ tag, q.payload = code :: tag :: args

/-- A signaller command whose general checks pass: the source is a signaller, the tables are valid (9.6, 9.7). -/
def BySignaller (s : State) (q : QueuedCommand) (code : Byte) (args : List Byte) : Prop :=
  Processes s q code args ∧ HasRole s q.source .signaller ∧ s.tm.valid = true

/-- A maintenance command whose general checks pass. -/
def ByMaintenance (s : State) (q : QueuedCommand) (code : Byte) (args : List Byte) : Prop :=
  Processes s q code args ∧ MayGive s q.source .maintenance

/-- A command of the third class whose general checks pass. -/
def ByEither (s : State) (q : QueuedCommand) (code : Byte) (args : List Byte) : Prop :=
  Processes s q code args ∧ MayGive s q.source .either

/-- The completion step of each command of the loop; `written` is read by RESTART alone. -/
def Command.completion (dt : Time) (written : Nat) : Command → Instr
  | .poll => .poll dt
  | .faultRead => .faultRead dt
  | .faultAccept => .faultAccept dt
  | .closeRequest => .closeRequest dt
  | .restore => .restore dt
  | .takeOutOfUse => .takeOutOfUse dt
  | .returnToUse => .returnToUse dt
  | .resetSection => .resetSection dt
  | .depart => .depart dt
  | .passageRead => .passageRead dt
  | .tableWrite => .tableWrite dt
  | .tableRead => .tableRead dt
  | .saveTables => .saveTables dt
  | .restart => .restart dt written
  | .calibrate => .calibrate dt
  | .calibrateCancel => .calibrateCancel dt
  | .lampTest => .lampTest dt
  | .measureRead => .measureRead dt
  | .passageClose => .passageClose dt
  | .passageRelease => .passageRelease dt

/-- The end of a command: its reply is placed on the port it came in on, and the processor takes the next command
(R168, R171). -/
def answered (q : QueuedCommand) (code : ReplyCode) (data : List Byte) (s : State) : State :=
  freeProcessor (placeAnswer q code data s)

/-- No calibration, lamp test or save is running (R83, R100, R123, R184). -/
def NothingRuns (s : State) : Prop :=
  s.cal.run ≠ .running ∧ s.lamp.test.run ≠ .running ∧ s.tm.saveRun ≠ .running

/-- An ALARM record is ACTIVE or ACCEPTED_ACTIVE (R81, R84). -/
def AlarmHeld (s : State) : Prop :=
  ∃ r ∈ s.faults.records, r.code.cls = .alarm ∧ r.state ≠ .latched

/-- Every in-service barrier is proved at an end (R67). -/
def AllProved (d : BarrierEnd) (s : State) : Prop :=
  ∀ i : Fin 4, s.tm.tables.barrier[i].inService = true → s.barriers[i].provedAt d = true

/-! ## Closure demand and the crossing state (R61, R65) -/

/-- A section is free (R18). -/
def SectionFree (r : SectionRecord) : Prop := r.state = .clear ∨ (r.state = .restoring ∧ r.count = some 0)

/-- Closure demand holds (R61). -/
def ClosureDemand (s : State) : Prop :=
  (∃ i : Fin 4, s.tm.tables.approach[i].inService = true ∧ s.approaches[i].state = .struck) ∨
  (∃ i : Fin 8, s.tm.tables.sectionTable[i].inService = true ∧ s.tm.tables.sectionTable[i].kind = .island ∧
    ¬ SectionFree s.sections[i]) ∨
  s.crossing.closureRequest = true

/-- The program that runs in a crossing state (R65, R71, R74): the closing program in CLOSING, the opening program
in OPENING, none in any other. -/
def programOf : CrossingState → Program
  | .closing => .closing
  | .opening => .opening
  | .outOfUse | .isOpen | .closed | .failed => .none

/-- While closure demand holds the crossing is shut, shutting, failed or out of use (R61). -/
def ClosureSafe (s : State) : Prop :=
  ClosureDemand s →
    s.crossing.state = .closing ∨ s.crossing.state = .closed ∨ s.crossing.state = .failed ∨
    s.crossing.state = .outOfUse

/-! ## What holds of a crossing in use (R65, R83, R100, R123, R178, R184, R187) -/

/-- A crossing in use has valid tables and derived figures, and no calibration, lamp test or save runs outside
OUT_OF_USE, nor more than one of them at a time; loading finds the crossing OUT_OF_USE with the flag clear, nothing
running and no command taken. -/
structure InUse (s : State) : Prop where
  program : s.crossing.program = programOf s.crossing.state
  valid : s.crossing.state ≠ .outOfUse → s.tm.valid = true
  figures : s.tm.valid = true → s.tm.derived ≠ none
  loading : s.loading = true →
    s.crossing.state = .outOfUse ∧ s.tm.valid = false ∧ NothingRuns s ∧ s.lnu.processor = none
  calibration : s.cal.run = .running → s.crossing.state = .outOfUse
  calibrating : s.cal.current ≠ none → s.cal.run = .running
  lampTest : s.lamp.test.run = .running → s.crossing.state = .outOfUse ∧ s.tm.valid = true
  lampTested : s.lamp.test.lamp ≠ none → s.lamp.test.run = .running
  save : s.tm.saveRun = .running → s.crossing.state = .outOfUse
  alone : ¬ (s.cal.run = .running ∧ s.lamp.test.run = .running) ∧
    ¬ (s.cal.run = .running ∧ s.tm.saveRun = .running) ∧
    ¬ (s.lamp.test.run = .running ∧ s.tm.saveRun = .running)

/-! ## The red-proved gate (R113) -/

/-- One barrier under the gate: what drives the motor is the phase and the target, a barrier held is held toward
DOWN, a barrier of a crossing out of use that is not under calibration has its stop order, no in-service barrier is
driven toward DOWN on a road side without red proved, except under calibration, and a barrier out of service is IDLE,
without target and not driven. -/
structure GatedBarrier (s : State) (i : Fin 4) : Prop where
  drive : ∀ d duty, s.barriers[i].drive = .on d duty →
    s.barriers[i].phase.driven = true ∧ s.barriers[i].target = some d
  held : s.barriers[i].phase = .held → s.barriers[i].target = some .down
  stopped : s.crossing.state = .outOfUse → underCalibration s i = false →
    s.barriers[i].phase = .idle ∧ s.barriers[i].target = none ∧ s.barriers[i].drive = .off
  red : s.tm.tables.barrier[i].inService = true → underCalibration s i = false →
    s.barriers[i].phase.driven = true → s.barriers[i].target = some .down →
    s.lamp.redProved.get s.tm.tables.barrier[i].roadSide = true
  out : s.tm.tables.barrier[i].inService = false → underCalibration s i = false →
    s.barriers[i].phase = .idle ∧ s.barriers[i].target = none ∧ s.barriers[i].drive = .off

/-- Every barrier is under the gate. -/
def Gated (s : State) : Prop := ∀ i : Fin 4, GatedBarrier s i

/-! ## Disturbed sections and struck approaches (R37, R49, R51, R54) -/

/-- The section an index names is DISTURBED. -/
def SectionDisturbedAt (s : State) (ref : Nat) : Prop :=
  ∃ h : ref < 8, s.sections[ref].state = .disturbed

/-- One approach: in use, a DISTURBED section of it has struck it; out of use it is IDLE; and one that is STRUCK
with its island section not free has island_seen yes. -/
structure StruckApproach (s : State) (i : Fin 4) : Prop where
  disturbed : s.crossing.state ≠ .outOfUse → s.tm.tables.approach[i].inService = true →
    SectionDisturbedAt s s.tm.tables.approach[i].approachSection ∨
      SectionDisturbedAt s s.tm.tables.approach[i].islandSection →
    s.approaches[i].state = .struck
  idle : s.crossing.state = .outOfUse → s.approaches[i].state = .idle
  island : s.approaches[i].state = .struck → s.tm.tables.approach[i].inService = true →
    sectionFree s s.tm.tables.approach[i].islandSection = false → s.approaches[i].islandSeen = true

/-- Every approach. -/
def Struck (s : State) : Prop := ∀ i : Fin 4, StruckApproach s i

/-! ## The bounds of the lists (R140, R143, R156, R164, R165, R167, R169, R171) -/

/-- One output port: at most 4 telegrams wait to be forwarded, at most 7 replies and one status telegram to be
inserted, the run count is at most 4, and an idle port has nothing waiting. -/
structure PortBounds (o : OutPort) : Prop where
  forward : o.forward.length ≤ 4
  replies : (o.insertion.filter fun t => !t.isStatus).length ≤ 7
  statuses : (o.insertion.filter fun t => t.isStatus).length ≤ 1
  run : o.run ≤ 4
  busy : o.sending = none → o.forward = [] ∧ o.insertion = []

/-- The command queue and the processor. -/
structure QueueBounds (l : LoopNode) : Prop where
  queue : l.queue.length ≤ 8
  taken : l.processor = none → l.queue = []
  restarting : l.restarting = true → l.processor ≠ none

/-- The 16 pairs of code and subject that an ALARM record can have (R144). -/
def AlarmPair (code : FaultCode) (subject : Option Nat) : Prop :=
  match code with
  | .roadSideDark => ∃ k, subject = some k ∧ k < 2
  | .barrierStall | .barrierTimeout | .barrierDisagree => ∃ k, subject = some k ∧ k < 4
  | _ => subject = none

/-- The fault table: at most 32 records, no two with the same code and subject, every event's record LATCHED, and
every ALARM record one of the 16 pairs. -/
structure FaultBounds (f : FaultRecorder) : Prop where
  length : f.records.length ≤ 32
  keys : (f.records.map fun r => (r.code, r.subject)).Nodup
  events : ∀ r ∈ f.records, r.code.kind = .event → r.state = .latched
  alarms : ∀ r ∈ f.records, r.code.cls = .alarm → AlarmPair r.code r.subject

/-- One passage bank: at most 16 records, none while EMPTY, at most 15 while FILLING, at least one while READY. -/
structure BankBounds (b : Bank) : Prop where
  length : b.records.length ≤ 16
  empty : b.state = .empty → b.records = []
  filling : b.state = .filling → b.records.length ≤ 15
  ready : b.state = .ready → b.records ≠ []

/-- All of them; at most one bank is FILLING. -/
structure Bounded (s : State) : Prop where
  portA : PortBounds s.lnu.portA
  portB : PortBounds s.lnu.portB
  queue : QueueBounds s.lnu
  faults : FaultBounds s.faults
  bank0 : BankBounds s.report.bank0
  bank1 : BankBounds s.report.bank1
  filling : ¬ (s.report.bank0.state = .filling ∧ s.report.bank1.state = .filling)

/-! ## The record of every ALARM condition (R140) -/

/-- The fault table holds the record of a condition that is present. -/
def Recorded (s : State) (code : FaultCode) (subject : Option Nat) : Prop :=
  ∃ r ∈ s.faults.records, r.code = code ∧ r.subject = subject ∧ r.state ≠ .latched

/-- A movement whose travel supervision runs or has come to its limit (R121). -/
def BarrierPhase.supervised : BarrierPhase → Bool
  | .start | .run | .brake | .settle | .tripped | .stalled => true
  | .idle | .held | .reverse | .atEnd => false

/-- Every ALARM condition that is present has its record: a critical battery (R137), a barrier STALLED (R120), a
movement whose travel limit has been reached (R121), a disagreement that has outlasted its timer (R110), a road side
whose dark timer has ended under RED (R99), and tables that no validation has passed since loading failed (R188). -/
structure AlarmsRecorded (s : State) : Prop where
  critical : s.scan.batteryCritical = true → Recorded s .batteryCritical none
  stalled : ∀ i : Fin 4, s.barriers[i].phase = .stalled → Recorded s .barrierStall (some i.val)
  timeout : ∀ i : Fin 4, s.barriers[i].phase.supervised = true → underCalibration s i = false →
    s.barriers[i].travelEnd = none → Recorded s .barrierTimeout (some i.val)
  disagree : ∀ i : Fin 4, s.barriers[i].disagreeing = true → s.barriers[i].disagreeEnd = none →
    Recorded s .barrierDisagree (some i.val)
  dark : ∀ side : Side, s.lamp.aspect = .red → s.lamp.redProved.get side = false →
    s.lamp.darkEnd.get side = none → Recorded s .roadSideDark (some (sideNumber side))
  invalid : s.loading = false → s.tm.derived = none → Recorded s .tableInvalid none

/-! ## What a valid table is (R2, R17, R34, R35, R88, R106, R129, R173) -/

/-- One entry of NODE (R173). -/
def NodeFits (ts : Tables) (i : Fin 4) : Prop :=
  let e := ts.node[i]
  e.inService = true → e.address ≠ ts.params.ownAddress ∧
    ∀ j : Fin 4, j < i → ts.node[j].inService = true → ts.node[j].address = e.address → ts.node[j].role ≠ e.role

/-- One entry of DPT (R2). -/
def DptFits (ts : Tables) (i : Fin 16) : Prop :=
  let e := ts.dpt[i]
  e.inService = true → e.address ≠ ts.params.ownAddress ∧
    ∀ j : Fin 16, i < j → ts.dpt[j].inService = true → ts.dpt[j].address ≠ e.address

/-- One entry of SECTION (R17). -/
def SectionFits (ts : Tables) (i : Fin 8) : Prop :=
  let e := ts.sectionTable[i]
  e.inService = true →
    (∀ b ∈ e.boundaries, ∃ h : b.head < 16, ts.dpt[b.head].inService = true ∧ ts.dpt[b.head].role = .counting ∧
      ts.dpt[b.head].track = e.track) ∧
    (e.boundaries.map (·.head)).Nodup

/-- A section an approach names: in service, of the kind, on the track (R34). -/
def NamesSection (ts : Tables) (ref : Nat) (kind : SectionKind) (track : Nat) : Prop :=
  ∃ h : ref < 8, ts.sectionTable[ref].inService = true ∧ ts.sectionTable[ref].kind = kind ∧
    ts.sectionTable[ref].track = track

/-- One entry of APPROACH, without the final-head check (R34). -/
def ApproachFits (ts : Tables) (i : Fin 4) : Prop :=
  let e := ts.approach[i]
  e.inService = true →
    NamesSection ts e.approachSection .approach e.track ∧ NamesSection ts e.islandSection .island e.track ∧
    (∀ j : Fin 4, j < i → ts.approach[j].inService = true → ts.approach[j].approachSection ≠ e.approachSection) ∧
    (∀ t ∈ e.timingHeads, ∃ h : t.head < 16, ts.dpt[t.head].inService = true ∧ ts.dpt[t.head].track = e.track) ∧
    (e.timingHeads.map (·.head)).Nodup ∧
    (∀ (k : Nat) (a b : TimingHead), e.timingHeads[k]? = some a → e.timingHeads[k + 1]? = some b →
      b.distance < a.distance) ∧
    (∀ t, e.timingHeads.getLast? = some t → t.haltSide = false) ∧
    ∃ t, e.timingHeads.head? = some t ∧ ∃ h : e.approachSection < 8,
      ∃ b ∈ ts.sectionTable[e.approachSection].boundaries, b.head = t.head ∧ b.entering = .toward

/-- A scan reference names an in-service entry of the scan list. -/
def NamesScan (ts : Tables) (ref : Nat) : Prop := ∃ h : ref < 24, ts.scan[ref].inService = true

/-- An in-service barrier below an index uses a scan entry. -/
def UsedByBarrier (ts : Tables) (below : Nat) (ref : Nat) : Prop :=
  ∃ j : Fin 4, j.val < below ∧ ts.barrier[j].inService = true ∧
    (ts.barrier[j].angleEntry = ref ∨ ts.barrier[j].currentEntry = ref)

/-- An in-service lamp below an index uses a scan entry. -/
def UsedByLamp (ts : Tables) (below : Nat) (ref : Nat) : Prop :=
  ∃ j : Fin 12, j.val < below ∧ ts.lamp[j].inService = true ∧ ts.lamp[j].scanEntry = ref

/-- One entry of BARRIER (R106). -/
def BarrierFits (ts : Tables) (i : Fin 4) : Prop :=
  let e := ts.barrier[i]
  e.inService = true →
    NamesScan ts e.angleEntry ∧ NamesScan ts e.currentEntry ∧ e.angleEntry ≠ e.currentEntry ∧
    ¬ UsedByBarrier ts i.val e.angleEntry ∧ ¬ UsedByBarrier ts i.val e.currentEntry ∧
    e.angleEntry ≠ ts.params.batteryEntry ∧ e.currentEntry ≠ ts.params.batteryEntry ∧
    e.downCode + 400 ≤ e.upCode ∧ e.ratedDuty ≤ e.clampDuty ∧
    ∃ h : e.currentEntry < 24, e.peakCurrent < ts.scan[e.currentEntry].highThreshold

/-- One entry of LAMP (R88). -/
def LampFits (ts : Tables) (i : Fin 12) : Prop :=
  let e := ts.lamp[i]
  e.inService = true →
    NamesScan ts e.scanEntry ∧ ¬ UsedByLamp ts i.val e.scanEntry ∧ ¬ UsedByBarrier ts 4 e.scanEntry ∧
    e.scanEntry ≠ ts.params.batteryEntry

/-- A road side has an in-service red lamp (R88). -/
def SideHasRed (ts : Tables) (side : Side) : Prop :=
  ∃ i : Fin 12, ts.lamp[i].inService = true ∧ ts.lamp[i].roadSide = side ∧ ts.lamp[i].colour = .red

/-- The audible entries (R88). -/
def AudibleFits (ts : Tables) : Prop :=
  let free (ref : Nat) : Prop := NamesScan ts ref ∧ ref ≠ ts.params.batteryEntry ∧ ¬ UsedByLamp ts 12 ref ∧
    ¬ UsedByBarrier ts 4 ref
  free ts.params.audibleEntry0 ∧ free ts.params.audibleEntry1 ∧
    ts.params.audibleEntry0 ≠ ts.params.audibleEntry1

/-- The thresholds of one entry of SCAN (R129). -/
def ScanFits (ts : Tables) (i : Fin 24) : Prop :=
  ts.scan[i].inService = true → ts.scan[i].lowThreshold ≤ ts.scan[i].highThreshold

/-- The in-service entries of SCAN below an index. -/
def scanServedBelow (ts : Tables) (n : Nat) : Nat :=
  ((List.finRange 24).filter fun i => decide (i.val < n) && ts.scan[i].inService).length

/-- The battery entry and the battery levels (R129). -/
def BatteryFits (ts : Tables) : Prop :=
  NamesScan ts ts.params.batteryEntry ∧ ts.params.batteryCritical < ts.params.batteryLow ∧
    ts.params.batteryLow + 200 < ts.params.batterySpan

end Sys2Proof.Machine
end

