-- ==== Sys2Proof/Certificates/Slice0/Obligations.lean ====
section
/-! DEFINITION. The statements for the provers. Where a statement gives the state an event leaves, it writes the
work of the event out and ends it with `finish`, the end every event has; what that end does is stated on its
own. -/

open Sys2Proof Sys2Proof.Machine

/-! ## The queue of commands and the lines (00_scope, R185, R186, R187) -/

/-- The model's own interface: a step takes the command at the front of the queue and leaves the rest. With no command
waiting the block idles, which is the model's choice (log entry 3). -/
def Obligations.StepTakesTheFront : Prop :=
  (∀ (c : Instr) (rest : List Instr) (s : State),
    step { s with pending := c :: rest } = exec c { s with pending := rest }) ∧
  ∀ s : State, step { s with pending := [] } = .next { s with pending := [] }

/-- What a cold start leaves in each block while loading is under way (R3, R19, R37, R60, R103, R111, R133, R146,
R153, R156, R165, R174); `underway` of a barrier is the model's own field (log entries 24, 33). -/
def Obligations.ColdStartValues : Prop :=
  let s := State.reset
  s.now = 0 ∧ s.loading = true ∧
  (∀ i : Fin 16, s.heads[i] = { state := .unseen, lastCount := none, lastSeen := 0, wasFaulty := false }) ∧
  (∀ i : Fin 8, s.sections[i] = { state := .disturbed, count := none, raised := false }) ∧
  (∀ i : Fin 4, s.approaches[i].state = .idle ∧ s.approaches[i].deadline = none ∧
    s.approaches[i].deadlineHead = none ∧ s.approaches[i].strikeCause = none ∧
    s.approaches[i].strikeTime = none ∧ s.approaches[i].islandSeen = false ∧
    s.approaches[i].group.groupHead = none ∧ s.approaches[i].group.wheelsUsed = 0 ∧
    s.approaches[i].group.vE = none ∧ s.approaches[i].group.overspeedEntered = false) ∧
  (s.crossing.state = .outOfUse ∧ s.crossing.program = .none ∧ s.crossing.step = none ∧
    s.crossing.stepWait = .none ∧ s.crossing.waitEnd = none ∧ s.crossing.closureRequest = false ∧
    s.crossing.openDelayEnd = none ∧ s.crossing.permitLapse = none ∧ s.crossing.exitDelayEnd = none ∧
    s.crossing.closedSince = none ∧ s.crossing.aspect = .dark ∧ s.crossing.sound = false ∧
    s.crossing.proved = false) ∧
  (∀ i : Fin 12, s.lamp.lamps[i].mode = .dark ∧ s.lamp.lamps[i].modeSince = 0 ∧
    s.lamp.lamps[i].proved = false ∧ s.lamp.lamps[i].unproved = 0 ∧ s.lamp.lamps[i].intervalStart = none) ∧
  (s.lamp.phase = none ∧ s.lamp.duty = none ∧ s.lamp.redProved = ⟨false, false⟩ ∧
    s.lamp.darkEnd = ⟨none, none⟩ ∧ s.lamp.test.run = .idle ∧ s.lamp.sound = false ∧
    ∀ i : Fin 2, s.lamp.audible[i] = { soundSince := 0, unproved := 0 }) ∧
  (∀ i : Fin 4, s.barriers[i].target = none ∧ s.barriers[i].phase = .idle ∧ s.barriers[i].drive = .off ∧
    s.barriers[i].phaseEnd = none ∧ s.barriers[i].moveStart = none ∧ s.barriers[i].runOrigin = none ∧
    s.barriers[i].runStart = none ∧ s.barriers[i].openLoopOnly = false ∧ s.barriers[i].retries = 0 ∧
    s.barriers[i].travelEnd = none ∧ s.barriers[i].position = none ∧ s.barriers[i].settleFrom = none ∧
    s.barriers[i].disagreeEnd = none ∧ s.barriers[i].underway = false) ∧
  s.cal.run = .idle ∧
  (s.scan.nextStrobe = none ∧ s.scan.position = none ∧ s.scan.blockStart = none ∧ s.scan.rate = .normal ∧
    s.scan.quietEnd = none ∧ s.scan.vBat = none ∧ ∀ i : Fin 24, s.scan.results[i] = none) ∧
  (s.faults.records = [] ∧ s.faults.dropped = false) ∧
  (s.report.newFault = false ∧ s.report.fresh = false ∧ s.report.lastStatus = none ∧
    s.report.statusDue = none ∧ s.report.linkEnd = none ∧
    s.report.bank0 = { state := .filling, records := [] } ∧ s.report.bank1 = { state := .empty, records := [] }) ∧
  (∀ p : Port, s.lnu.port p = { forward := [], insertion := [], run := 0, sending := none }) ∧
  (s.lnu.queue = [] ∧ s.lnu.processor = none ∧ s.lnu.overflow = false ∧ s.lnu.lateDiscard = false) ∧
  (s.tm.valid = false ∧ s.tm.derived = none ∧ s.tm.saveRun = .idle ∧
    (∀ i : Fin 4, s.tm.tables.node[i] = { inService := false, address := 1, role := .signaller }) ∧
    s.tm.tables.params.ownAddress = 1 ∧ s.tm.tables.params.signallerPort = .a ∧
    s.tm.tables.params.headTimeout = 1000 ∧ s.tm.tables.params.scanStrobe = 1 ∧
    (∀ i : Fin 12, s.tm.tables.closing[i].kind = .finish ∧ s.tm.tables.opening[i].kind = .finish) ∧
    ∀ i : Fin 26, s.tm.tables.reportMask[i] = false) ∧
  answeringAddress s = none

/-- A cold start begins at POWER_UP, at the release of the reset line with the supply there, as the reply to a
RESTART has left, and at once where that reply finds no room. It leaves the same state each time: every block at
its cold-start value, loading under way, and what lies outside the part as it was, but for a save run cut off (R185,
R186, R187). The model's choice (log entry 27): RESET_LINE_HELD and SUPPLY_FAILURE stop the part where it is, a save run
under way ending with them, a release without the supply begins no cold start, and a POWER_UP under a held line leaves
the part at the cold-start values with the line held; (log entry 40) a release of a line not held and a POWER_UP with
the supply there begin one. While the supply is away or the reset line held, the part takes no event: no time goes by in
it and nothing changes, except that a contact of the site moves (R186 has it receive and repeat nothing; that no event
is taken and no time goes by is the model's choice, log entries 5 and 27, and the contact's too, log entry 22). -/
def Obligations.ColdStartsAndStops : Prop :=
  (∀ (s : State) (dt : Time) (written : Nat),
    exec (.powerUp written) s = .next { State.reset with
      store := cutStore written s, contacts := s.contacts, resetHeld := s.resetHeld, pending := s.pending } ∧
    (s.supply = true →
      exec (.resetLineRelease written) s = .next { State.reset with
        store := cutStore written s, contacts := s.contacts, pending := s.pending }) ∧
    (∀ (p : Port) (frame : List Byte), Running s →
      (s.lnu.port p).sending = some (.inserted (.reply frame true)) →
      exec (.transmissionComplete dt p written) s = .next { State.reset with
        store := cutStore written s, contacts := s.contacts, pending := s.pending }) ∧
    (∀ q : QueuedCommand, ByMaintenance s q 14 [] → s.crossing.state = .outOfUse →
      7 ≤ ((s.lnu.port q.port).insertion.filter fun t => !t.isStatus).length →
      exec (.restart dt written) s = .next { State.reset with
        store := cutStore written s, contacts := s.contacts, pending := s.pending })) ∧
  (∀ (s : State) (written : Nat),
    let stopped (run : RunState) : RunState := if run = .running then .idle else run
    exec (.resetLineHeld written) s = .next { s with
      resetHeld := true, store := cutStore written s
      tm := { s.tm with saveRun := stopped s.tm.saveRun } } ∧
    exec (.supplyFailure written) s = .next { s with
      supply := false, store := cutStore written s
      tm := { s.tm with saveRun := stopped s.tm.saveRun } } ∧
    (s.supply = false → exec (.resetLineRelease written) s = .next { s with resetHeld := false })) ∧
  ∀ (c : Instr) (dt : Time) (s : State), ¬ Running s → c.elapsed = some dt →
    ((∀ b d closed, c ≠ .contactChange dt b d closed) → exec c s = .next s) ∧
    ∀ b d closed, c = .contactChange dt b d closed →
      exec c s = .next { s with contacts := s.contacts.set b (match d with
        | .down => { s.contacts[b] with down := closed }
        | .up => { s.contacts[b] with up := closed }) }

/-- The outputs: a lamp is lit while STEADY, and while FLASH in the generator's phase; a lit lamp is driven at the
lamp drive duty; both audible warnings follow the sound handed on; a motor has the drive of its record; and every
one of them is off while the reset line is held (R89, R91, R102, R186) and, by the model's choice (log entry 30), while
the supply is away. -/
def Obligations.OutputsShowTheRecords : Prop :=
  ∀ s : State,
    (∀ i : Fin 12, lampOn s i = true ↔ Running s ∧
      (s.lamp.lamps[i].mode = .steady ∨
        s.lamp.lamps[i].mode = .flash ∧ s.lamp.phase = some s.tm.tables.lamp[i].phase)) ∧
    (∀ (i : Fin 12) (duty : Nat), s.lamp.duty = some duty → lampOn s i = true → lampOutput s i = duty) ∧
    (∀ i : Fin 12, lampOn s i = false → lampOutput s i = 0) ∧
    (audibleOn s = true ↔ Running s ∧ s.lamp.sound = true) ∧
    (∀ i : Fin 4, Running s → motorOutput s i = s.barriers[i].drive) ∧
    ∀ i : Fin 4, ¬ Running s → motorOutput s i = .off

/-- Loading completes. The image is the 426 words of the store (words of 65,535 where it does not answer: that a
LOADING_COMPLETE says which is the model's choice, log entry 17). Its three checks: the length word is 426, the format word
1, and the sum of all words 0 modulo 65,536. Where they and the validation pass, COLD_START is entered first, the flag
is set, the blocks set up, every barrier judged, every in-service approach not STRUCK strikes DISTURBED, its record
filled as a strike fills it, and the crossing enters CLOSING; where they do not, COLD_START and then TABLE_INVALID are entered. The tables are those read where the image checks passed and
blank where they did not. The strobe starts in each case (R37, R49, R108, R130, R146, R183, R187, R188). -/
def Obligations.LoadingCompletes : Prop :=
  ∀ (s : State) (dt : Time) (answers : Bool), Running s → s.loading = true →
    let image := readStore answers s.store
    let loaded (ts : Tables) : State :=
      eventEntered .coldStart none none { s.advance dt with loading := false, tm := { s.tm with tables := ts } }
    (∀ d : Derived, imagePasses image = true → validate (loadImage image) = .passed d →
      exec (.loadingComplete dt answers) s = .next (finish (s.advance dt) (startBlock (enterClosing
        (strikeAllDisturbed (forEach 4 judgeBarrier (validationPassed d (loaded (loadImage image)))))))) ) ∧
    (∀ f : Failure, imagePasses image = true → validate (loadImage image) = .failed f →
      exec (.loadingComplete dt answers) s = .next (finish (s.advance dt) (startBlock (forEach 4 judgeBarrier
        (conditionPresent .tableInvalid none (loaded (loadImage image))))))) ∧
    (imagePasses image = false →
      exec (.loadingComplete dt answers) s = .next (finish (s.advance dt) (startBlock (forEach 4 judgeBarrier
        (conditionPresent .tableInvalid none (loaded Tables.blank)))))) ∧
    (answers = false → imagePasses image = false) ∧
    (imagePasses image = true ↔ image.getD 0 0 = 426 ∧ image.getD 1 0 = 1 ∧
      (image.map (·.toNat)).sum % 65536 = 0) ∧
    image.length = 426 ∧ (answers = true → s.store.length = 426 → image = s.store) ∧
    ∀ u : State,
      let struck := strikeAllDisturbed u
      struck = { u with approaches := struck.approaches } ∧
      ∀ i : Fin 4,
        let r := u.approaches[i]
        let e := u.tm.tables.approach[i]
        (e.inService = true → r.state ≠ .struck → struck.approaches[i] = { r with
          state := .struck, deadline := none, deadlineHead := none, strikeCause := some .disturbed,
          strikeTime := some u.now, vEAtStrike := r.group.vE, islandSeen := !sectionFree u e.islandSection,
          islandEntryTime := none }) ∧
        (e.inService = false ∨ r.state = .struck → struck.approaches[i] = r)


/-! ## The loop (9.1 to 9.6, 11.1) -/

/-- A telegram is read exactly where it is framed as 11.1 lays out: a frame is read as a telegram if and only if it
is the four header bytes, a payload of at most 60 bytes and the check over them, and it is then read with those very
fields (R161, R189). A change of one byte other than the length is caught: no good telegram stays one when one of its
bytes is replaced by another (R161; the length byte, index 3, says how many bytes there are, and is left out). -/
def Obligations.TelegramsAreFramedAndChecked : Prop :=
  (∀ (d s k : Nat) (payload : List Byte), d < 256 → s < 256 → k < 256 → payload.length ≤ 60 →
    readTelegram (frameOf d s k payload) = some
      { destination := d, source := s, kind := k, payload := payload, frame := frameOf d s k payload }) ∧
  (∀ (frame : List Byte) (t : Telegram), readTelegram frame = some t →
    t.destination < 256 ∧ t.source < 256 ∧ t.kind < 256 ∧ t.payload.length ≤ 60 ∧ t.frame = frame ∧
    frame = frameOf t.destination t.source t.kind t.payload) ∧
  ∀ (frame : List Byte) (i : Nat) (b : Byte), (readTelegram frame).isSome = true → i < frame.length →
    i ≠ 3 → frame[i]? ≠ some b → readTelegram (frame.set i b) = none

/-- TELEGRAM_RECEPTION: what becomes of a frame. One that is no good telegram leaves no trace; the part's own is
removed; one to the part is made known to the link supervision and is no more, unless it is a command; one to 255 is
repeated out of the other port, a wheel or health telegram that is acted on being passed to the Head Monitor first
(R1; by a list that it takes in a step of its own, the model's reading, log entry 7); any other is repeated (R161, R162, R163). -/
def Obligations.TelegramsAreDisposedOf : Prop :=
  ∀ (s : State) (dt : Time) (port : Port) (frame : List Byte), Running s →
    (readTelegram frame = none →
      exec (.telegramReception dt port frame) s = .next (finish (s.advance dt) (s.advance dt))) ∧
    ∀ t : Telegram, readTelegram frame = some t →
      (answeringAddress s = some t.source →
        exec (.telegramReception dt port frame) s = .next (finish (s.advance dt) (s.advance dt))) ∧
      (answeringAddress s ≠ some t.source → answeringAddress s = some t.destination → t.kind ≠ 3 →
        exec (.telegramReception dt port frame) s =
          .next (finish (s.advance dt) (linkRefresh t.source (s.advance dt)))) ∧
      (answeringAddress s ≠ some t.source → answeringAddress s ≠ some t.destination → t.destination ≠ 255 →
        exec (.telegramReception dt port frame) s =
          .next (finish (s.advance dt) (forwardTo (otherPort port) frame (s.advance dt)))) ∧
      (answeringAddress s ≠ some t.source → answeringAddress s ≠ some t.destination → t.destination = 255 →
        let seen (kind : ObservedKind) : Observed :=
          { kind := kind, source := t.source, payload := t.payload, arrival := s.now + dt }
        let passed (o : Observed) : State :=
          { s.advance dt with lnu := { s.lnu with passed := s.lnu.passed ++ [o] } }
        let acted (length : Nat) : Prop := s.tm.valid = true ∧ t.payload.length = length ∧
          ∃ i : Fin 16, s.tm.tables.dpt[i].inService = true ∧ s.tm.tables.dpt[i].address = t.source
        (t.kind = 1 → acted 4 → exec (.telegramReception dt port frame) s =
          .next (finish (s.advance dt) (forwardTo (otherPort port) frame (passed (seen .wheel))))) ∧
        (t.kind = 2 → acted 2 → exec (.telegramReception dt port frame) s =
          .next (finish (s.advance dt) (forwardTo (otherPort port) frame (passed (seen .health))))) ∧
        (¬ (t.kind = 1 ∧ acted 4) → ¬ (t.kind = 2 ∧ acted 2) →
          exec (.telegramReception dt port frame) s =
            .next (finish (s.advance dt) (forwardTo (otherPort port) frame (s.advance dt)))))

/-- A command addressed to the part joins the end of the command queue with its port and arrival time, or goes
straight to an idle processor with nothing waiting; with 8 waiting it is discarded, the command-overflow flag and
late_discard set. At the completion of a command the processor becomes idle and takes the next one, if one waits (R162,
R169, R170, R171). -/
def Obligations.CommandsQueueForTheProcessor : Prop :=
  (∀ (s : State) (dt : Time) (port : Port) (frame : List Byte) (t : Telegram), Running s →
    readTelegram frame = some t → t.kind = 3 → answeringAddress s ≠ some t.source →
    answeringAddress s = some t.destination →
    let u := linkRefresh t.source (s.advance dt)
    let c : QueuedCommand :=
      { port := port, arrival := s.now + dt, source := t.source, payload := t.payload }
    (s.lnu.queue.length < 8 → s.lnu.processor ≠ none →
      exec (.telegramReception dt port frame) s =
        .next (finish (s.advance dt) { u with lnu := { u.lnu with queue := s.lnu.queue ++ [c] } })) ∧
    (s.lnu.queue = [] → s.lnu.processor = none →
      exec (.telegramReception dt port frame) s =
        .next (finish (s.advance dt) { u with lnu := { u.lnu with processor := some c } })) ∧
    (8 ≤ s.lnu.queue.length →
      exec (.telegramReception dt port frame) s =
        .next (finish (s.advance dt) { u with lnu := { u.lnu with overflow := true, lateDiscard := true } }))) ∧
  ∀ s : State,
    (s.lnu.queue = [] → freeProcessor s = { s with lnu := { s.lnu with processor := none } }) ∧
    ∀ c rest, s.lnu.queue = c :: rest →
      freeProcessor s = { s with lnu := { s.lnu with processor := some c, queue := rest } }

/-- TRANSMISSION_COMPLETE: the arbiter's choice, row by row; with nothing waiting the port falls idle. A status
telegram that starts on signaller_port has left: it clears the new-fault flag if it carried new fault yes and nothing
came after its content was formed, and the command-overflow flag likewise (R152, R165, R166, R170). -/
def Obligations.ArbiterChooses : Prop :=
  (∀ (s : State) (dt : Time) (p : Port) (written : Nat) (x : Sending), Running s →
    (s.lnu.port p).sending = some x → (∀ frame, x ≠ .inserted (.reply frame true)) →
    let o := s.lnu.port p
    let sets (o' : OutPort) : State := { s.advance dt with lnu := s.lnu.setPort p o' }
    (o.forward = [] → o.insertion = [] → exec (.transmissionComplete dt p written) s =
      .next (finish (s.advance dt) (sets { o with sending := none }))) ∧
    (∀ f fs, o.forward = f :: fs → o.insertion = [] → exec (.transmissionComplete dt p written) s =
      .next (finish (s.advance dt) (sets { o with forward := fs, sending := some (.forwarded f) }))) ∧
    (∀ f fs, o.forward = f :: fs → o.insertion ≠ [] → o.run < 4 →
      exec (.transmissionComplete dt p written) s = .next (finish (s.advance dt)
        (sets { o with forward := fs, run := o.run + 1, sending := some (.forwarded f) }))) ∧
    (∀ q qs, o.insertion = q :: qs → o.forward = [] ∨ 4 ≤ o.run →
      q.isStatus = false ∨ p ≠ s.tm.tables.params.signallerPort →
      exec (.transmissionComplete dt p written) s = .next (finish (s.advance dt)
        (sets { o with insertion := qs, run := 0, sending := some (.inserted q) })))) ∧
  ∀ (s : State) (dt : Time) (p : Port) (written : Nat) (x : Sending) (frame : List Byte)
    (newFault overflow : Bool) (qs : List Inserted), Running s →
    (s.lnu.port p).sending = some x → (∀ f, x ≠ .inserted (.reply f true)) →
    p = s.tm.tables.params.signallerPort →
    (s.lnu.port p).insertion = .status frame newFault overflow :: qs →
    (s.lnu.port p).forward = [] ∨ 4 ≤ (s.lnu.port p).run →
    let o : OutPort := { s.lnu.port p with
      insertion := qs, run := 0, sending := some (.inserted (.status frame newFault overflow)) }
    let sent (nf ov : Bool) : State := { s.advance dt with
      report := { s.report with newFault := nf }, lnu := { s.lnu.setPort p o with overflow := ov } }
    exec (.transmissionComplete dt p written) s = .next (finish (s.advance dt) (sent
      (if newFault = true ∧ s.report.fresh = false then false else s.report.newFault)
      (if overflow = true ∧ s.lnu.lateDiscard = false then false else s.lnu.overflow)))

/-- A telegram to be repeated joins the forward buffer of its port byte for byte, or is not repeated where the buffer
holds 4; on an idle port with nothing waiting its transmission starts at once. A reply goes to the port its command
came in on, addressed to the command's source with the answering address as its source, carrying the command's code
and tag, the reply code and the data. It is appended behind what waits, starts at once on an idle port with nothing
waiting, and is discarded where 7 replies wait. A status telegram takes the place of one that waits, whole (the
model's choice for its header, log entry 39), is appended where none waits, and starts at once on an idle port with
nothing waiting; if that is signaller_port it has left, and clears the flags it carried (R152, R164, R165, R166, R167,
R168, R170, R189). -/
def Obligations.TelegramsArePlaced : Prop :=
  (∀ (s : State) (p : Port) (frame : List Byte),
    let o := s.lnu.port p
    (4 ≤ o.forward.length → forwardTo p frame s = s) ∧
    (∀ x, o.forward.length < 4 → o.sending = some x →
      forwardTo p frame s = { s with lnu := s.lnu.setPort p { o with forward := o.forward ++ [frame] } }) ∧
    (o.forward = [] → o.insertion = [] → o.sending = none →
      forwardTo p frame s =
        { s with lnu := s.lnu.setPort p { o with sending := some (.forwarded frame) } })) ∧
  (∀ (s : State) (q : QueuedCommand) (code tag : Byte) (args : List Byte) (reply : ReplyCode)
    (data : List Byte) (a : Nat), q.payload = code :: tag :: args → answeringAddress s = some a →
    let o := s.lnu.port q.port
    let r : Inserted := .reply (frameOf q.source a 4 (code :: tag :: reply.code :: data)) false
    let waiting := (o.insertion.filter fun t => !t.isStatus).length
    (7 ≤ waiting → placeAnswer q reply data s = s) ∧
    (∀ x, waiting < 7 → o.sending = some x → placeAnswer q reply data s =
      { s with lnu := s.lnu.setPort q.port { o with insertion := o.insertion ++ [r] } }) ∧
    (o.insertion = [] → o.forward = [] → o.sending = none → placeAnswer q reply data s =
      { s with lnu := s.lnu.setPort q.port { o with run := 0, sending := some (.inserted r) } })) ∧
  (∀ (s : State) (p : Port) (t : Inserted) (x : Sending), t.isStatus = true →
    (s.lnu.port p).sending = some x →
    let o := s.lnu.port p
    placeStatus p t s = { s with lnu := s.lnu.setPort p { o with insertion :=
      if ∃ w ∈ o.insertion, w.isStatus = true then o.insertion.map fun w => if w.isStatus then t else w
      else o.insertion ++ [t] } }) ∧
  ∀ (s : State) (p : Port) (frame : List Byte) (newFault overflow : Bool),
    let o := s.lnu.port p
    let t : Inserted := .status frame newFault overflow
    o.insertion = [] → o.forward = [] → o.sending = none →
    let sent : LoopNode := s.lnu.setPort p { o with run := 0, sending := some (.inserted t) }
    (p ≠ s.tm.tables.params.signallerPort → placeStatus p t s = { s with lnu := sent }) ∧
    (p = s.tm.tables.params.signallerPort → placeStatus p t s = { s with
      report := { s.report with newFault :=
        if newFault = true ∧ s.report.fresh = false then false else s.report.newFault }
      lnu := { sent with overflow :=
        if overflow = true ∧ s.lnu.lateDiscard = false then false else s.lnu.overflow } })

/-! ## The commands of the loop (9.6, 9.7) -/

/-- The general checks, in their order: authority, valid tables for a signaller command other than RETURN_TO_USE,
payload length. The first that fails gives the reply, and the command changes nothing else. Each of the twenty codes names its command, with the class of 9.7,
which says who has the authority, and the payload length of 11.2, TABLE_WRITE taking any from 4 up. A code 0 or above 20 names
no command and is answered REFUSED_UNKNOWN. A command from source 0, 254 or 255, or with a payload shorter than 2
bytes, is discarded with no effect and no reply (R171, R172, R189, 11.2). -/
def Obligations.GeneralChecksRefuse : Prop :=
  (∀ (c : Command) (s : State) (q : QueuedCommand) (code : Byte) (args : List Byte) (dt : Time) (written : Nat),
    Processes s q code args → Command.fromCode code.toNat = some c →
    let refused (reply : ReplyCode) : Host.Outcome State Fault Refusal :=
      .next (finish (s.advance dt) (answered q reply [] (s.advance dt)))
    (¬ MayGive s q.source c.cls → exec (c.completion dt written) s = refused .refusedAuthority) ∧
    (MayGive s q.source c.cls → c.cls = .signaller → c ≠ .returnToUse → s.tm.valid = false →
      exec (c.completion dt written) s = refused .refusedState) ∧
    (MayGive s q.source c.cls → (c.cls = .signaller → c ≠ .returnToUse → s.tm.valid = true) →
      c.lengthFits (args.length + 2) = false →
      exec (c.completion dt written) s = refused .refusedArgument)) ∧
  (let table : List (Command × CommandClass × Nat) := [
      (.poll, .either, 2), (.faultRead, .either, 4), (.faultAccept, .signaller, 2), (.closeRequest, .signaller, 3),
      (.restore, .signaller, 2), (.takeOutOfUse, .signaller, 2), (.returnToUse, .signaller, 2),
      (.resetSection, .signaller, 3), (.depart, .signaller, 3), (.passageRead, .either, 5),
      (.tableWrite, .maintenance, 4), (.tableRead, .maintenance, 5), (.saveTables, .maintenance, 2),
      (.restart, .maintenance, 2), (.calibrate, .maintenance, 3), (.calibrateCancel, .maintenance, 2),
      (.lampTest, .maintenance, 2), (.measureRead, .maintenance, 4), (.passageClose, .maintenance, 2),
      (.passageRelease, .maintenance, 3)]
   (∀ code : Nat, code = 0 ∨ 20 < code → Command.fromCode code = none) ∧
   ∀ (k : Nat) (c : Command) (cls : CommandClass) (n : Nat), table[k]? = some (c, cls, n) →
    Command.fromCode (k + 1) = some c ∧ c.cls = cls ∧
    ∀ length : Nat, c.lengthFits length = true ↔ length = n ∨ (c = .tableWrite ∧ n < length)) ∧
  (∀ (s : State) (source : Nat),
    let holds (role : Role) : Prop := ∃ i : Fin 4, s.tm.tables.node[i].inService = true ∧
      s.tm.tables.node[i].address = source ∧ s.tm.tables.node[i].role = role
    (MayGive s source .signaller ↔ holds .signaller) ∧
    (MayGive s source .maintenance ↔ s.tm.valid = false ∨ holds .maintenance) ∧
    (MayGive s source .either ↔ s.tm.valid = false ∨ holds .signaller ∨ holds .maintenance)) ∧
  ∀ (s : State) (q : QueuedCommand) (dt : Time),
    (∀ (code : Byte) (args : List Byte), Processes s q code args → code.toNat = 0 ∨ 20 < code.toNat →
      exec (.unknownCommand dt) s =
        .next (finish (s.advance dt) (answered q .refusedUnknown [] (s.advance dt)))) ∧
    (Running s → s.lnu.processor = some q → s.lnu.restarting = false →
      q.source = 0 ∨ q.source = 254 ∨ q.source = 255 ∨ q.payload.length < 2 →
      exec (.unanswerableCommand dt) s = .next (finish (s.advance dt) (freeProcessor (s.advance dt))))

/-- FAULT_READ, PASSAGE_READ, MEASURE_READ and TABLE_READ answer DONE with what stands as they are taken, from the
first index on, up to the count and to what one payload holds, and change nothing. They refuse REFUSED_ARGUMENT an
index, bank, table id or count out of range, and a PASSAGE_READ of an EMPTY bank is REFUSED_STATE. POLL: a signaller
with valid tables is answered DONE and a status is produced; every other source that may POLL takes the status content in the reply. That a reply is placed before the status of its
event is the model's reading (log entry 12) (R139, R150, R154, R159, R179, R190, 11.3, 11.4). -/
def Obligations.ReadsReturnWhatStands : Prop :=
  (∀ (s : State) (q : QueuedCommand) (dt : Time), ByEither s q 1 [] →
    (s.tm.valid = true → HasRole s q.source .signaller →
      exec (.poll dt) s = .next (finish (s.advance dt)
        (answered q .done [] { s.advance dt with handed := { s.handed with status := true } }))) ∧
    (¬ (s.tm.valid = true ∧ HasRole s q.source .signaller) →
      exec (.poll dt) s = .next (finish (s.advance dt)
        (answered q .done (statusContent s).bytes (s.advance dt))))) ∧
  (∀ (s : State) (q : QueuedCommand) (dt : Time) (first count : Byte), 1 ≤ count.toNat → count.toNat ≤ 4 →
    let reply (data : List Byte) : Host.Outcome State Fault Refusal :=
      .next (finish (s.advance dt) (answered q .done data (s.advance dt)))
    (ByEither s q 2 [first, count] → first.toNat < 32 →
      let found := (s.faults.records.drop first.toNat).take count.toNat
      exec (.faultRead dt) s = reply ([byte s.faults.records.length, flagByte s.faults.dropped, byte found.length]
        ++ found.flatMap FaultRecord.bytes)) ∧
    (∀ one : Bool, ByEither s q 10 [flagByte one, first, count] → first.toNat < 16 →
      let bank := if one then s.report.bank1 else s.report.bank0
      let found := (bank.records.drop first.toNat).take (min count.toNat 3)
      bank.state ≠ .empty →
      exec (.passageRead dt) s = reply ([flagByte one, bank.state.code, byte bank.records.length,
        byte found.length] ++ found.flatMap PassageRecord.bytes)) ∧
    (ByMaintenance s q 18 [first, count] → first.toNat < 24 →
      let found := ((List.finRange 24).drop first.toNat).take count.toNat
      exec (.measureRead dt) s = reply
        (byte found.length :: found.flatMap fun i => resultBytes i.val s.scan.results[i])) ∧
    (∀ (id : Byte) (t : TableId), ByMaintenance s q 12 [id, first, count] → TableId.fromId id.toNat = some t →
      first.toNat < t.entries →
      let found := ((tableEntries t s.tm.tables).drop first.toNat).take (min count.toNat (54 / t.entryBytes))
      exec (.tableRead dt) s = reply ([id, first, byte found.length] ++ found.flatten))) ∧
  ∀ (s : State) (q : QueuedCommand) (dt : Time) (a b c : Byte),
    let refused (reply : ReplyCode) : Host.Outcome State Fault Refusal :=
      .next (finish (s.advance dt) (answered q reply [] (s.advance dt)))
    let badCount (n : Byte) : Prop := n.toNat = 0 ∨ 4 < n.toNat
    (ByEither s q 2 [a, b] → 32 ≤ a.toNat ∨ badCount b →
      exec (.faultRead dt) s = refused .refusedArgument) ∧
    (ByEither s q 10 [a, b, c] → 2 ≤ a.toNat ∨ 16 ≤ b.toNat ∨ badCount c →
      exec (.passageRead dt) s = refused .refusedArgument) ∧
    (ByEither s q 10 [a, b, c] → a.toNat < 2 → b.toNat < 16 → ¬ badCount c →
      (if a.toNat = 1 then s.report.bank1 else s.report.bank0).state = .empty →
      exec (.passageRead dt) s = refused .refusedState) ∧
    (ByMaintenance s q 18 [a, b] → 24 ≤ a.toNat ∨ badCount b →
      exec (.measureRead dt) s = refused .refusedArgument) ∧
    (ByMaintenance s q 12 [a, b, c] →
      11 ≤ a.toNat ∨ (∃ t, TableId.fromId a.toNat = some t ∧ t.entries ≤ b.toNat) ∨ badCount c →
      exec (.tableRead dt) s = refused .refusedArgument)

/-- FAULT_ACCEPT: its two checks in order; then it removes every LATCHED record, turns every ACTIVE one into
ACCEPTED_ACTIVE, keeps the order, clears the records-dropped flag and is answered DONE (R149). -/
def Obligations.FaultsAreAccepted : Prop :=
  ∀ (s : State) (q : QueuedCommand) (dt : Time), Processes s q 3 [] →
    let replied (reply : ReplyCode) (u : State) : Host.Outcome State Fault Refusal :=
      .next (finish (s.advance dt) (answered q reply [] u))
    (¬ HasRole s q.source .signaller → exec (.faultAccept dt) s = replied .refusedAuthority (s.advance dt)) ∧
    (HasRole s q.source .signaller → s.tm.valid = false →
      exec (.faultAccept dt) s = replied .refusedState (s.advance dt)) ∧
    (HasRole s q.source .signaller → s.tm.valid = true →
      exec (.faultAccept dt) s = replied .done { s.advance dt with
        faults :=
          { records := s.faults.records.filterMap fun r =>
              match r.state with
              | .latched => none
              | .active | .acceptedActive => some { r with state := .acceptedActive }
            dropped := false } })

/-- CLOSE_REQUEST: its checks in order, NO_EFFECT where the request is as asked, else the request takes the argument
and the reply is DONE. RESTORE: NO_EFFECT in any state but FAILED; refused while an ALARM record is ACTIVE or
ACCEPTED_ACTIVE; CLOSED with the permit judged where every in-service barrier is proved down, else CLOSING by re-entry
(R80, R81, 11.2). -/
def Obligations.CloseRequestAndRestore : Prop :=
  (∀ (s : State) (q : QueuedCommand) (dt : Time) (arg : Byte), BySignaller s q 4 [arg] →
    let replied (reply : ReplyCode) (u : State) : Host.Outcome State Fault Refusal :=
      .next (finish (s.advance dt) (answered q reply [] u))
    (1 < arg.toNat → exec (.closeRequest dt) s = replied .refusedArgument (s.advance dt)) ∧
    (arg.toNat ≤ 1 → s.crossing.state = .outOfUse →
      exec (.closeRequest dt) s = replied .refusedState (s.advance dt)) ∧
    (∀ on, arg = flagByte on → s.crossing.state ≠ .outOfUse → s.crossing.closureRequest = on →
      exec (.closeRequest dt) s = replied .noEffect (s.advance dt)) ∧
    ∀ on, arg = flagByte on → s.crossing.state ≠ .outOfUse → s.crossing.closureRequest ≠ on →
      exec (.closeRequest dt) s = replied .done
        { s.advance dt with crossing := { s.crossing with closureRequest := on } }) ∧
  ∀ (s : State) (q : QueuedCommand) (dt : Time), BySignaller s q 5 [] →
    let replied (reply : ReplyCode) (u : State) : Host.Outcome State Fault Refusal :=
      .next (finish (s.advance dt) (answered q reply [] u))
    (s.crossing.state ≠ .failed → exec (.restore dt) s = replied .noEffect (s.advance dt)) ∧
    (s.crossing.state = .failed → AlarmHeld s →
      exec (.restore dt) s = replied .refusedState (s.advance dt)) ∧
    (s.crossing.state = .failed → ¬ AlarmHeld s → AllProved .down s →
      exec (.restore dt) s = replied .done (judgePermit { s.advance dt with crossing := { s.crossing with
        state := .closed, program := .none, step := none, stepWait := .none, waitEnd := none, aspect := .red,
        sound := false, closedSince := some (s.now + dt), longReported := false, openDelayEnd := none,
        permitLapse := none, exitDelayEnd := none } })) ∧
    (s.crossing.state = .failed → ¬ AlarmHeld s → ¬ AllProved .down s →
      exec (.restore dt) s = replied .done (reenterClosing (s.advance dt)))

/-- TAKE_OUT_OF_USE: taken in FAILED and in OPEN with every in-service approach IDLE, refused otherwise. The crossing
becomes OUT_OF_USE with the aspect DARK and the sound off, its program and times discarded and the request off;
every barrier takes a stop order, every approach is IDLE and LONG_CLOSURE ends (R37, R82, R111). RETURN_TO_USE: refused
outside OUT_OF_USE and while a run lasts; a failed validation is answered with the table id and the index and changes nothing; a passed one takes effect, the approaches are set up, and the crossing state is chosen in the stages of
R84. The setting up: an in-service approach with a DISTURBED section strikes DISTURBED, one whose approach section is not
free strikes UNTIMEABLE, any other is left unchanged (R38, R83, R84, R180, R182; by rising index, which is the model's choice for the records of one event, log entry 14; a reply before the status of its
event, log entry 12). -/
def Obligations.CrossingLeavesAndReturnsToUse : Prop :=
  (∀ (s : State) (q : QueuedCommand) (dt : Time), BySignaller s q 6 [] →
    let idle := ∀ i : Fin 4, s.tm.tables.approach[i].inService = true → s.approaches[i].state = .idle
    let replied (reply : ReplyCode) (u : State) : Host.Outcome State Fault Refusal :=
      .next (finish (s.advance dt) (answered q reply [] u))
    (s.crossing.state = .failed ∨ (s.crossing.state = .isOpen ∧ idle) →
      exec (.takeOutOfUse dt) s = replied .done { conditionEnd .longClosure none (s.advance dt) with
        crossing := { s.crossing with
          state := .outOfUse, program := .none, step := none, stepWait := .none, waitEnd := none,
          aspect := .dark, sound := false, openDelayEnd := none, permitLapse := none, exitDelayEnd := none,
          closedSince := none, longReported := false, closureRequest := false }
        barriers := s.barriers.map fun r => { r with
          target := none, phase := .idle, drive := .off, phaseEnd := none, moveStart := none,
          runOrigin := none, runStart := none, openLoopOnly := false, retries := 0, travelEnd := none,
          settleFrom := none, underway := false }
        approaches := Vector.replicate 4 .cold }) ∧
    (¬ (s.crossing.state = .failed ∨ (s.crossing.state = .isOpen ∧ idle)) →
      exec (.takeOutOfUse dt) s = replied .refusedState (s.advance dt))) ∧
  (∀ (s : State) (q : QueuedCommand) (dt : Time), Processes s q 7 [] → HasRole s q.source .signaller →
    let replied (reply : ReplyCode) (data : List Byte) (u : State) : Host.Outcome State Fault Refusal :=
      .next (finish (s.advance dt) (answered q reply data u))
    (s.crossing.state ≠ .outOfUse ∨ ¬ NothingRuns s →
      exec (.returnToUse dt) s = replied .refusedState [] (s.advance dt)) ∧
    (∀ f : Failure, s.crossing.state = .outOfUse → NothingRuns s → validate s.tm.tables = .failed f →
      exec (.returnToUse dt) s =
        replied .refusedArgument [byte f.table, byte f.index] (s.advance dt)) ∧
    ∀ d : Derived, s.crossing.state = .outOfUse → NothingRuns s → validate s.tm.tables = .passed d →
      let u := setUpApproaches (validationPassed d (s.advance dt))
      (AlarmHeld u → exec (.returnToUse dt) s = replied .done [] (enterFailed u)) ∧
      (¬ AlarmHeld u → ClosureDemand u → exec (.returnToUse dt) s = replied .done [] (enterClosing u)) ∧
      (¬ AlarmHeld u → ¬ ClosureDemand u → AllProved .up u →
        exec (.returnToUse dt) s = replied .done [] { u with crossing := { u.crossing with
          state := .isOpen, program := .none, step := none, stepWait := .none, waitEnd := none,
          aspect := .dark, sound := false } }) ∧
      (¬ AlarmHeld u → ¬ ClosureDemand u → ¬ AllProved .up u →
        exec (.returnToUse dt) s = replied .done [] (enterOpening u))) ∧
  ∀ (s : State) (outcome : Fin 4 → Option StrikeCause),
    (∀ i : Fin 4, s.tm.tables.approach[i].inService = false → outcome i = none) →
    (∀ i : Fin 4, s.tm.tables.approach[i].inService = true → ∃ a b : Fin 8,
      s.tm.tables.approach[i].approachSection = a.val ∧ s.tm.tables.approach[i].islandSection = b.val ∧
      let disturbed := s.sections[a].state = .disturbed ∨ s.sections[b].state = .disturbed
      (disturbed → outcome i = some .disturbed) ∧
      (¬ disturbed → ¬ SectionFree s.sections[a] → outcome i = some .untimeable) ∧
      (¬ disturbed → SectionFree s.sections[a] → outcome i = none)) →
    setUpApproaches s = forEach 4 (fun i u => match outcome i with
      | some cause => strike i cause u
      | none => u) s

/-- RESET_SECTION: its own checks in order, then the section becomes RESTORING at count 0, SECTION_DISTURBED ends,
SECTION_RESET is entered and the report with cause RESET goes to the Approach Timer, the crossing taking what comes of
it (R25, R27, R28). DEPART: an index that names no in-service approach is refused; a DEFERRED approach strikes with
cause DEPART, its record filled as R49 gives; an approach in any other state is left unchanged and the reply is
NO_EFFECT (R49, R53). -/
def Obligations.SectionsAreResetAndApproachesDepart : Prop :=
  (∀ (s : State) (q : QueuedCommand) (dt : Time) (arg : Byte), BySignaller s q 8 [arg] →
    let replied (reply : ReplyCode) (u : State) : Host.Outcome State Fault Refusal :=
      .next (finish (s.advance dt) (answered q reply [] u))
    (8 ≤ arg.toNat → exec (.resetSection dt) s = replied .refusedArgument (s.advance dt)) ∧
    ∀ i : Fin 8, i.val = arg.toNat →
      let e := s.tm.tables.sectionTable[i]
      let gone : Prop := ∃ b ∈ e.boundaries, ∃ h : b.head < 16,
        s.heads[b.head].state = .lost ∨ s.heads[b.head].state = .faulty
      (e.inService = false → exec (.resetSection dt) s = replied .refusedArgument (s.advance dt)) ∧
      (e.inService = true → s.sections[i].state ≠ .disturbed ∨ gone →
        exec (.resetSection dt) s = replied .refusedState (s.advance dt)) ∧
      (e.inService = true → s.sections[i].state = .disturbed → ¬ gone →
        let u := eventEntered .sectionReset (some i.val) none (conditionEnd .sectionDisturbed (some i.val)
          { s.advance dt with
            sections := s.sections.set i { state := .restoring, count := some 0, raised := false } })
        exec (.resetSection dt) s = replied .done (crossingTurn (s.advance dt) (approachReports
          { cause := .reset
            entries := [
              { index := i.val, stateBefore := .disturbed, stateAfter := .restoring, countAfter := some 0,
                freeBefore := false, freeAfter := true }] } u)))) ∧
  ∀ (s : State) (q : QueuedCommand) (dt : Time) (arg : Byte), BySignaller s q 9 [arg] →
    let replied (reply : ReplyCode) (u : State) : Host.Outcome State Fault Refusal :=
      .next (finish (s.advance dt) (answered q reply [] u))
    (4 ≤ arg.toNat → exec (.depart dt) s = replied .refusedArgument (s.advance dt)) ∧
    ∀ i : Fin 4, i.val = arg.toNat →
      let e := s.tm.tables.approach[i]
      let r := s.approaches[i]
      (e.inService = false → exec (.depart dt) s = replied .refusedArgument (s.advance dt)) ∧
      (e.inService = true → r.state ≠ .deferred →
        exec (.depart dt) s = replied .noEffect (s.advance dt)) ∧
      (e.inService = true → r.state = .deferred →
        exec (.depart dt) s = replied .done { s.advance dt with
          approaches := s.approaches.set i { r with
            state := .struck, deadline := none, deadlineHead := none, strikeCause := some .depart,
            strikeTime := some (s.now + dt), vEAtStrike := r.group.vE,
            islandSeen := !sectionFree s e.islandSection, islandEntryTime := none } })

/-- TABLE_WRITE: its own checks in order, then the entries are stored at consecutive indices with their values
clamped (what is stored is EntriesAreStoredClamped's) and the blocks told, the flag is cleared, and the reply, CLAMPED if
a value was, gives the number written. The blocks: a written scan entry loses its result, and a block in progress for it
is abandoned, position kept; a barrier written out of service is IDLE with its drive off and its disagreement timer
discarded, and its four conditions end; after either write a position whose result, entry or span no longer serves is invalid at once, one that still serves is
kept, and proving and disagreement of every barrier are judged then: the model's choice (log entry 19), since R108 and R110
name contact changes, new positions and changes of validity alone (R105, R107, R128, R176, R177, R178). -/
def Obligations.TableIsWritten : Prop :=
  (∀ (s : State) (q : QueuedCommand) (dt : Time) (id first : Byte) (bytes : List Byte),
    ByMaintenance s q 11 (id :: first :: bytes) →
    let replied (reply : ReplyCode) (data : List Byte) (u : State) : Host.Outcome State Fault Refusal :=
      .next (finish (s.advance dt) (answered q reply data u))
    (s.crossing.state ≠ .outOfUse ∨ s.tm.saveRun = .running ∨ s.cal.run = .running →
      exec (.tableWrite dt) s = replied .refusedState [] (s.advance dt)) ∧
    (s.crossing.state = .outOfUse → s.tm.saveRun ≠ .running → s.cal.run ≠ .running →
      (11 ≤ id.toNat → exec (.tableWrite dt) s = replied .refusedArgument [] (s.advance dt)) ∧
      ∀ t : TableId, TableId.fromId id.toNat = some t →
        (t.entries ≤ first.toNat ∨ bytes = [] ∨ bytes.length % t.entryBytes ≠ 0 →
          exec (.tableWrite dt) s = replied .refusedArgument [] (s.advance dt)) ∧
        ∀ entries : List (List Byte), entries ≠ [] → (∀ e ∈ entries, e.length = t.entryBytes) →
          bytes = entries.flatten → first.toNat < t.entries →
          let stored := storeEntries t first.toNat entries s.tm.tables
          exec (.tableWrite dt) s = replied (if stored.clamped then .clamped else .done)
            [byte (min entries.length (t.entries - first.toNat))]
            (clearValid (afterWrite t first.toNat entries.length s.tm.tables
              { s.advance dt with tm := { s.tm with tables := stored.value } })))) ∧
  ∀ (t : TableId) (first n : Nat) (before : Tables) (s : State),
    let told := afterWrite t first n before s
    let written (i : Nat) : Bool := decide (first ≤ i ∧ i < first + n)
    let positions (u : State) : State := forEach 4 (fun i u =>
      let e := u.tm.tables.barrier[i]
      let result := if h : e.angleEntry < 24 then u.scan.results[e.angleEntry] else none
      judgeBarrier i (if (positionOf e result).isSome then u
        else { u with barriers := u.barriers.set i { u.barriers[i] with position := none } })) u
    let takenOut (i : Fin 4) (u : State) : State :=
      conditionEnd .feedbackLost (some i.val) (conditionEnd .barrierDisagree (some i.val)
        (conditionEnd .barrierTimeout (some i.val) (conditionEnd .barrierStall (some i.val) { u with
          barriers := u.barriers.set i { u.barriers[i] with
            target := none, phase := .idle, drive := .off, phaseEnd := none, moveStart := none,
            runOrigin := none, runStart := none, openLoopOnly := false, retries := 0, travelEnd := none,
            settleFrom := none, underway := false, disagreeEnd := none, disagreeing := false,
            feedbackLost := false } })))
    (t = .scan → told = positions { s with scan := { s.scan with
      results := Vector.ofFn fun i => if written i.val then none else s.scan.results[i]
      blockStart := if s.scan.position.any (fun p => written p.val) then none else s.scan.blockStart } }) ∧
    (t = .barrier → told = positions (forEach 4 (fun i u =>
      if before.barrier[i].inService && !s.tm.tables.barrier[i].inService then takenOut i u else u) s)) ∧
    (t ≠ .scan → t ≠ .barrier → told = s)

/-- SAVE_TABLES: refused outside OUT_OF_USE and while a run lasts; a failed validation is answered with the table id
and the index; at a passed one the save run starts with the image of the tables and the validation takes effect, the
status of a flag that becomes set showing the save running, and the reply is ACCEPTED (R151, R153, R182, R184, R185). A save run cut off before its last write leaves format word 0, so that the next load fails
at its format check; cut off after it, it leaves the image whole; and where no save runs the store is untouched. That
the first write counts as made when the run starts, so that `written` 0 leaves format word 0 too, is the model's choice (log entry 4), as is the place of the status of the flag before the reply (log entry 12). A save run that completes compares the words read back with the image written (R185); that the store then
holds the words read back is the model's choice (log entry 16). -/
def Obligations.SaveRunsStartAndEnd : Prop :=
  (∀ (s : State) (written : Nat),
    (s.tm.saveRun = .running → written < 427 →
      (cutStore written s)[1]? = some 0 ∧ imagePasses (readStore true (cutStore written s)) = false) ∧
    (s.tm.saveRun = .running → 427 ≤ written → s.tm.saveImage.length = 426 → s.tm.saveImage[1]? = some 1 →
      cutStore written s = s.tm.saveImage) ∧
    (s.tm.saveRun ≠ .running → cutStore written s = s.store)) ∧
  (∀ (s : State) (dt : Time) (readBack : List Word), Running s → s.tm.saveRun = .running →
    exec (.saveRunComplete dt readBack) s = .next (finish (s.advance dt) { s.advance dt with
      store := readBack
      tm := { s.tm with
        saveRun := if readBack = s.tm.saveImage then .donePass else .doneFail, saveImage := [] } })) ∧
  ∀ (s : State) (q : QueuedCommand) (dt : Time), ByMaintenance s q 13 [] →
    let replied (reply : ReplyCode) (data : List Byte) (u : State) : Host.Outcome State Fault Refusal :=
      .next (finish (s.advance dt) (answered q reply data u))
    (s.crossing.state ≠ .outOfUse ∨ ¬ NothingRuns s →
      exec (.saveTables dt) s = replied .refusedState [] (s.advance dt)) ∧
    (∀ f : Failure, s.crossing.state = .outOfUse → NothingRuns s → validate s.tm.tables = .failed f →
      exec (.saveTables dt) s =
        replied .refusedArgument [byte f.table, byte f.index] (s.advance dt)) ∧
    ∀ d : Derived, s.crossing.state = .outOfUse → NothingRuns s → validate s.tm.tables = .passed d →
      exec (.saveTables dt) s = replied .accepted [] (validationPassed d { s.advance dt with
        tm := { s.tm with saveRun := .running, saveImage := imageOf s.tm.tables } })

/-- RESTART: refused outside OUT_OF_USE; taken, its reply DONE is placed as the one whose sending begins the cold
start, and the processor stays busy with it and takes no further command; on an idle port with nothing waiting the
sending of the reply starts at once (R165, R168, R186; a reply that finds no room is ColdStartsAndStops'). -/
def Obligations.RestartWaitsForItsReply : Prop :=
  ∀ (s : State) (q : QueuedCommand) (dt : Time) (written : Nat), ByMaintenance s q 14 [] →
    (s.crossing.state ≠ .outOfUse → exec (.restart dt written) s =
      .next (finish (s.advance dt) (answered q .refusedState [] (s.advance dt)))) ∧
    ∀ a : Nat, s.crossing.state = .outOfUse → answeringAddress s = some a →
      let o := s.lnu.port q.port
      let r : Inserted := .reply (frameOf q.source a 4 (q.payload.take 2 ++ [0])) true
      let waits (o' : OutPort) : Prop := exec (.restart dt written) s = .next (finish (s.advance dt) { s.advance dt with
        lnu := { (s.lnu.setPort q.port o') with restarting := true } })
      (∀ x, o.sending = some x → (o.insertion.filter fun t => !t.isStatus).length < 7 →
        waits { o with insertion := o.insertion ++ [r] }) ∧
      (o.sending = none → o.forward = [] → o.insertion = [] →
        waits { o with run := 0, sending := some (.inserted r) })

/-- CALIBRATE: its own checks in order, then the calibration runs over the selected barriers in index order and the
reply is ACCEPTED. CALIBRATE_CANCEL: NO_EFFECT where none runs; else every drive is off, every barrier IDLE with
target NONE, the run done-fail and the reply DONE (R123, R124, R126, 11.2). -/
def Obligations.CalibrationStartsAndIsCancelled : Prop :=
  ∀ (s : State) (q : QueuedCommand) (dt : Time),
    let replied (reply : ReplyCode) (u : State) : Host.Outcome State Fault Refusal :=
      .next (finish (s.advance dt) (answered q reply [] u))
    (∀ mask : Byte, ByMaintenance s q 15 [mask] →
      let selected := (List.finRange 4).filter fun i => mask.toNat.testBit i.val
      let serves (i : Fin 4) : Prop :=
        let e := s.tm.tables.barrier[i]
        e.angleEntry ≠ e.currentEntry ∧
        (∃ h : e.angleEntry < 24, s.tm.tables.scan[e.angleEntry].inService = true) ∧
        ∃ h : e.currentEntry < 24, s.tm.tables.scan[e.currentEntry].inService = true
      let named := mask.toNat ≠ 0 ∧ mask.toNat < 16 ∧ ∀ i ∈ selected, s.tm.tables.barrier[i].inService = true
      (s.crossing.state ≠ .outOfUse ∨ ¬ NothingRuns s →
        exec (.calibrate dt) s = replied .refusedState (s.advance dt)) ∧
      (s.crossing.state = .outOfUse → NothingRuns s → ¬ (named ∧ ∀ i ∈ selected, serves i) →
        exec (.calibrate dt) s = replied .refusedArgument (s.advance dt)) ∧
      (s.crossing.state = .outOfUse → NothingRuns s → named → (∀ i ∈ selected, serves i) →
        exec (.calibrate dt) s = replied .accepted (nextBarrier { s.advance dt with
          cal := { run := .running, current := none, remaining := selected, allPassed := true } }))) ∧
    (ByMaintenance s q 16 [] →
      (s.cal.run ≠ .running → exec (.calibrateCancel dt) s = replied .noEffect (s.advance dt)) ∧
      (s.cal.run = .running → exec (.calibrateCancel dt) s = replied .done { s.advance dt with
        cal := { run := .doneFail, current := none, remaining := [], allPassed := true }
        barriers := s.barriers.map fun r => { r with
          target := none, phase := .idle, drive := .off, phaseEnd := none, moveStart := none,
          runOrigin := none, runStart := none, openLoopOnly := false, retries := 0, travelEnd := none,
          settleFrom := none, underway := false } }))

/-- PASSAGE_CLOSE makes a FILLING bank that holds a record READY and the other FILLING if it is EMPTY, and has no
effect otherwise; PASSAGE_RELEASE empties a READY bank, which fills again at once if the other is not FILLING, and
refuses a bank in another state or of another number; both refuse a source without the authority (R157, R158). -/
def Obligations.BanksAreClosedAndReleased : Prop :=
  ∀ (s : State) (q : QueuedCommand) (dt : Time),
    let replied (reply : ReplyCode) (report : ReportUnit) : Host.Outcome State Fault Refusal :=
      .next (finish (s.advance dt) (answered q reply [] { s.advance dt with report := report }))
    let b0 := s.report.bank0
    let b1 := s.report.bank1
    let filled (b : Bank) : Bank := if b.state = .empty then { b with state := .filling } else b
    let emptied (other : Bank) : Bank :=
      { state := if other.state = .filling then .empty else .filling, records := [] }
    (ByMaintenance s q 19 [] →
      (b0.state = .filling → b0.records ≠ [] → exec (.passageClose dt) s =
        replied .done { s.report with bank0 := { b0 with state := .ready }, bank1 := filled b1 }) ∧
      (b0.state ≠ .filling → b1.state = .filling → b1.records ≠ [] → exec (.passageClose dt) s =
        replied .done { s.report with bank0 := filled b0, bank1 := { b1 with state := .ready } }) ∧
      ((b0.state = .filling → b0.records = []) → (b1.state = .filling → b1.records = []) →
        exec (.passageClose dt) s = replied .noEffect s.report)) ∧
    (¬ MayGive s q.source .maintenance →
      (Processes s q 19 [] → exec (.passageClose dt) s = replied .refusedAuthority s.report) ∧
      ∀ arg, Processes s q 20 [arg] → exec (.passageRelease dt) s = replied .refusedAuthority s.report) ∧
    ∀ arg : Byte, ByMaintenance s q 20 [arg] →
      (1 < arg.toNat → exec (.passageRelease dt) s = replied .refusedArgument s.report) ∧
      (arg.toNat = 0 → b0.state ≠ .ready → exec (.passageRelease dt) s = replied .refusedState s.report) ∧
      (arg.toNat = 1 → b1.state ≠ .ready → exec (.passageRelease dt) s = replied .refusedState s.report) ∧
      (arg.toNat = 0 → b0.state = .ready →
        exec (.passageRelease dt) s = replied .done { s.report with bank0 := emptied b1 }) ∧
      (arg.toNat = 1 → b1.state = .ready →
        exec (.passageRelease dt) s = replied .done { s.report with bank1 := emptied b0 })

/-! ## The timer expiries and the inputs of the road side -/

/-- A head silent for head_timeout becomes LOST, its bounded sections are disturbed and HEAD_LOST becomes active; the
deadline of an ARMED approach, once reached, strikes it TIMED (R11, R12, R48, R49). The timers of the crossing: a WAIT
step's end moves the program on to its next step; permit_lapse ends the permit; the open delay's end opens the crossing;
the exit delay's end orders the exit barriers down; and a closure of long_closure makes LONG_CLOSURE active, once (the model's reading, log entry 11; that HEAD_LOST is entered after the disturbance, log
entry 14) (R65,
R73, R74, R77, R79). -/
def Obligations.TrainAndCrossingTimersExpire : Prop :=
  (∀ (s : State) (dt : Time), Running s →
    (∀ i : Fin 16, s.tm.valid = true → s.tm.tables.dpt[i].inService = true → s.heads[i].state ≠ .lost →
      reached (s.now + dt) (after s.heads[i].lastSeen s.tm.tables.params.headTimeout) = true →
      exec (.headSilenceExpiry dt i) s = .next (finish (s.advance dt)
        (conditionPresent .headLost (some i.val) (disturbSections i { s.advance dt with
          heads := s.heads.set i { s.heads[i] with
            state := .lost, wasFaulty := s.heads[i].state == .faulty } })))) ∧
    ∀ (i : Fin 4) (d : Time), s.approaches[i].state = .armed → s.approaches[i].deadline = some d →
      reached (s.now + dt) d = true →
      let r := s.approaches[i]
      exec (.deadlineExpiry dt i) s = .next (finish (s.advance dt) { s.advance dt with
        approaches := s.approaches.set i { r with
          state := .struck, deadline := none, deadlineHead := none, strikeCause := some .timed,
          strikeTime := some (s.now + dt), vEAtStrike := r.group.vE,
          islandSeen := !sectionFree s s.tm.tables.approach[i].islandSection, islandEntryTime := none } })) ∧
  ∀ (s : State) (dt e : Time), Running s → reached (s.now + dt) e = true →
    let t := s.advance dt
    let ends (u : State) : Host.Outcome State Fault Refusal := .next (finish t u)
    (∀ n, s.crossing.stepWait = .time → s.crossing.waitEnd = some e → s.crossing.step = some n →
      let u := { t with crossing := { s.crossing with stepWait := .none, waitEnd := none } }
      (s.crossing.program = .closing → exec (.waitExpiry dt) s = ends (runClosing (n + 1) u)) ∧
      (s.crossing.program = .opening → exec (.waitExpiry dt) s = ends (runOpening (n + 1) u))) ∧
    (s.crossing.state = .closed → s.crossing.permitLapse = some e →
      exec (.permitLapse dt) s =
        ends { t with crossing := { s.crossing with openDelayEnd := none, permitLapse := none } }) ∧
    (s.crossing.state = .closed → s.crossing.openDelayEnd = some e →
      exec (.openDelayExpiry dt) s =
        ends (runOpening 1 { conditionEnd .longClosure none t with crossing := { s.crossing with
          state := .opening, program := .opening, step := none, stepWait := .none, waitEnd := none,
          openDelayEnd := none, permitLapse := none, closedSince := none, longReported := false } })) ∧
    (s.crossing.state = .failed → s.crossing.exitDelayEnd = some e →
      exec (.exitDelayExpiry dt) s =
        ends (orderRole .exit .down { t with crossing := { s.crossing with exitDelayEnd := none } })) ∧
    (∀ since, s.crossing.closedSince = some since → s.crossing.longReported = false →
      e = after since s.tm.tables.params.longClosure →
      exec (.longClosureExpiry dt) s = ends (conditionPresent .longClosure none
        { t with crossing := { s.crossing with longReported := true } }))

/-- LAMP_TEST: its own checks in order, then every lamp is darkened, the first in-service lamp's slot opens and the
reply is ACCEPTED; with no lamp in service the test ends at once (R100, R101). The timers of the lamps: a half-period's end
starts the other phase, opening the lit interval of its flashing lamps, an interval still open being judged first (that the
red-proved flags are formed once after them all is the model's choice, log entry 43); a dark timer's end makes
ROAD_SIDE_DARK active; a lamp test slot's end passes the lamp if it is proved, darkens it, and opens the slot of the next
in-service lamp, two flash periods long, or ends the test, done-pass when every lamp has passed, else done-fail (R90, R94,
R96, R99, R101). -/
def Obligations.LampTestAndLampTimers : Prop :=
  (∀ (s : State) (q : QueuedCommand) (dt : Time), ByMaintenance s q 17 [] →
    let replied (reply : ReplyCode) (u : State) : Host.Outcome State Fault Refusal :=
      .next (finish (s.advance dt) (answered q reply [] u))
    (s.tm.valid = false ∨ s.crossing.state ≠ .outOfUse ∨ ¬ NothingRuns s →
      exec (.lampTest dt) s = replied .refusedState (s.advance dt)) ∧
    (s.tm.valid = true → s.crossing.state = .outOfUse → NothingRuns s →
      let dark := forEach 12 (fun i u => setMode i .dark u) { s.advance dt with
        lamp := { s.lamp with test := { run := .running, lamp := none, slotEnd := none, allPassed := true } } }
      (∀ i : Fin 12, s.tm.tables.lamp[i].inService = true →
        (∀ j : Fin 12, j < i → s.tm.tables.lamp[j].inService = false) →
        exec (.lampTest dt) s = replied .accepted (setMode i .steady { dark with
          lamp := { dark.lamp with test :=
            { run := .running, lamp := some i, allPassed := true
              slotEnd := some (s.now + dt + BitVec.ofNat 32 (4 * (s.tm.tables.params.flashPeriod / 2))) } } })) ∧
      ((∀ i : Fin 12, s.tm.tables.lamp[i].inService = false) →
        exec (.lampTest dt) s = replied .accepted { dark with
          lamp := { dark.lamp with test := { run := .donePass, lamp := none, slotEnd := none, allPassed := true } } }))) ∧
  (∀ (s : State) (dt e : Time), Running s → reached (s.now + dt) e = true →
    let t := s.advance dt
    let ends (u : State) : Host.Outcome State Fault Refusal := .next (finish t u)
    (∀ p, s.lamp.phase = some p → s.lamp.phaseEnd = some e →
      let other : Phase := if p = .a then .b else .a
      exec (.halfPeriodExpiry dt) s = ends (formBothRed (forEach 12 (openLit other) { t with
        lamp := { s.lamp with
          phase := some other
          phaseEnd := some (after t.now (s.tm.tables.params.flashPeriod / 2)) } }))) ∧
    (∀ side, s.lamp.darkEnd.get side = some e →
      exec (.darkTimerExpiry dt side) s = ends (conditionPresent .roadSideDark
        (some (match side with | .north => 0 | .south => 1))
        { t with lamp := { s.lamp with darkEnd := s.lamp.darkEnd.set side none } })) ∧
    (∀ i, s.lamp.test.lamp = some i → s.lamp.test.slotEnd = some e →
      let passed := s.lamp.test.allPassed && s.lamp.lamps[i].proved
      exec (.lampTestSlotEnd dt) s = ends (openSlot (i.val + 1) (formBothRed (setMode i .dark { t with
        lamp := { s.lamp with test := { s.lamp.test with allPassed := passed } } }))))) ∧
  (∀ (s : State) (n : Nat),
    let test := s.lamp.test
    let next (i : Fin 12) : Prop := n ≤ i.val ∧ s.tm.tables.lamp[i].inService = true
    (∀ i, next i → (∀ j, next j → i ≤ j) → openSlot n s = setMode i .steady { s with
      lamp := { s.lamp with test := { test with
        lamp := some i, slotEnd := some (after s.now (4 * (s.tm.tables.params.flashPeriod / 2))) } } }) ∧
    ((∀ i, ¬ next i) → openSlot n s = { s with lamp := { s.lamp with test := { test with
      run := if test.allPassed then .donePass else .doneFail, lamp := none, slotEnd := none } } })) ∧
  ∀ (s : State) (p : Phase) (i : Fin 12),
    let r := s.lamp.lamps[i]
    let sets (r' : LampRecord) : State := { s with lamp := { s.lamp with lamps := s.lamp.lamps.set i r' } }
    let shut : LampRecord := { r with intervalStart := none, intervalEnd := none, intervalOk := false }
    let opens (u : State) : Prop := openLit p i s = { u with lamp := { u.lamp with
      lamps := u.lamp.lamps.set i { u.lamp.lamps[i] with
        intervalStart := some s.now
        intervalEnd := some (after s.now (s.tm.tables.params.flashPeriod / 2)), intervalOk := false } } }
    (r.mode ≠ .flash ∨ s.tm.tables.lamp[i].phase ≠ p → openLit p i s = s) ∧
    (r.mode = .flash → s.tm.tables.lamp[i].phase = p →
      (r.intervalStart = none → opens s) ∧
      (r.intervalStart ≠ none → r.intervalOk = true → opens
        (conditionEnd .lampFail (some i.val) (sets { shut with proved := true, unproved := 0 }))) ∧
      (r.intervalStart ≠ none → r.intervalOk = false →
        (r.unproved = 0 → opens (sets { shut with proved := false, unproved := 1 })) ∧
        (r.unproved = 1 → opens
          (conditionPresent .lampFail (some i.val) (sets { shut with proved := false, unproved := 2 }))) ∧
        (r.unproved = 2 → opens (sets { shut with proved := false, unproved := 2 }))))

/-- The timers of one barrier: START enters RUN; a REVERSE or TRIPPED pause ends in AT_END where the barrier is
proved at its target, else in its movement under the gate, a retry restart keeping move_start and travel_end; the
travel limit of an unproved barrier makes BARRIER_TIMEOUT active, once; a disagreement of 1,000 ms makes
BARRIER_DISAGREE active; and a calibration movement at its limit fails its barrier with TRAVEL (R110, R112, R114,
R118, R119, R121, R124). That open_loop_only becomes no at AT_END, and that the limit of a barrier proved at its target but
not AT_END stays, are the model's choices (log entries 20, 42). -/
def Obligations.BarrierTimersExpire : Prop :=
  ∀ (s : State) (dt e : Time) (i : Fin 4), Running s → reached (s.now + dt) e = true →
    let t := s.advance dt
    let r := s.barriers[i]
    let table := s.tm.tables.barrier[i]
    let red := s.lamp.redProved.get table.roadSide
    let sets (r' : BarrierRecord) : State := { t with barriers := s.barriers.set i r' }
    let ends (u : State) : Host.Outcome State Fault Refusal := .next (finish t u)
    let atEnd : State := conditionEnd .barrierTimeout (some i.val) (sets { r with
      phase := .atEnd, drive := .off, phaseEnd := none, travelEnd := none, settleFrom := none,
      openLoopOnly := false, underway := false })
    (∀ d, r.target = some d → r.phase = .start → r.phaseEnd = some e →
      exec (.startPhaseExpiry dt i) s = ends (sets (r.toRun table t.now d))) ∧
    (∀ d, r.target = some d → r.phase = .reverse → r.phaseEnd = some e →
      (r.provedAt d = true → exec (.reversePauseExpiry dt i) s = ends atEnd) ∧
      (r.provedAt d = false → exec (.reversePauseExpiry dt i) s = ends (sets (r.move table t.now red d true)))) ∧
    (∀ d, r.target = some d → r.phase = .tripped → r.phaseEnd = some e →
      (r.provedAt d = true → exec (.trippedPauseExpiry dt i) s = ends atEnd) ∧
      (r.provedAt d = false → exec (.trippedPauseExpiry dt i) s = ends (sets (r.move table t.now red d false)))) ∧
    (r.travelEnd = some e → (∀ d, r.target = some d → r.provedAt d = false) →
      exec (.travelExpiry dt i) s =
        ends (conditionPresent .barrierTimeout (some i.val) (sets { r with travelEnd := none }))) ∧
    (∀ d, r.travelEnd = some e → r.target = some d → r.provedAt d = true →
      exec (.travelExpiry dt i) s = ends t) ∧
    (r.disagreeEnd = some e →
      exec (.disagreementTimerExpiry dt i) s =
        ends (conditionPresent .barrierDisagree (some i.val) (sets { r with disagreeEnd := none }))) ∧
    ∀ c, s.cal.current = some c → c.limit = some e →
      exec (.calibrationLimitExpiry dt) s = ends (failBarrier c .travel t)

/-- The timers of the scanner and the report: quiet_end makes the rate QUIET; status_due asks for a status; link_end
makes SIGNALLER_LINK_LOST active. A consumed telegram from a SIGNALLER source ends that condition and sets link_end
afresh while the tables are valid; any other leaves the link as it was (R134, R153, R155, R162). At the end of an event
a wheel event, a change of the crossing state or of an approach state restores the NORMAL rate, the next strobe being
the sooner of the pending one and one period from now; quiet_end is set afresh as calm begins, by a wheel event taken
while calm and by such a restore with calm holding on, and discarded as calm ends (R134, R135). -/
def Obligations.ReportTimersTheLinkAndTheQuietRate : Prop :=
  (∀ (s : State) (dt e : Time), Running s → reached (s.now + dt) e = true →
    let t := s.advance dt
    let ends (u : State) : Host.Outcome State Fault Refusal := .next (finish t u)
    (s.scan.quietEnd = some e → exec (.quietEndExpiry dt) s =
      ends { t with scan := { s.scan with rate := .quiet, quietEnd := none } }) ∧
    (s.report.statusDue = some e → exec (.statusDueExpiry dt) s =
      ends { t with handed := { s.handed with status := true } }) ∧
    (s.report.linkEnd = some e → exec (.linkEndExpiry dt) s =
      ends (conditionPresent .signallerLinkLost none { t with report := { s.report with linkEnd := none } }))) ∧
  (∀ (s : State) (source : Nat),
    (s.tm.valid = true → HasRole s source .signaller → linkRefresh source s =
      { conditionEnd .signallerLinkLost none s with report := { s.report with
        linkEnd := some (s.now + BitVec.ofNat 32 s.tm.tables.params.signallerTimeout) } }) ∧
    (¬ (s.tm.valid = true ∧ HasRole s source .signaller) → linkRefresh source s = s)) ∧
  ∀ before s : State,
    let calmIn (u : State) : Prop := u.crossing.state = .isOpen ∧
      ∀ i : Fin 4, u.tm.tables.approach[i].inService = true → u.approaches[i].state = .idle
    let stirs := s.handed.wheel = true ∨ s.crossing.state ≠ before.crossing.state ∨
      ∃ i : Fin 4, s.approaches[i].state ≠ before.approaches[i].state
    let soon := after s.now s.tm.tables.params.scanStrobe
    let quiet := some (after s.now s.tm.tables.params.quietAfter)
    let ends (rate : Rate) (strobe quietEnd : Option Time) : Prop := scannerTurn before s = { s with
      handed := { s.handed with wheel := false }
      scan := { s.scan with rate := rate, nextStrobe := strobe, quietEnd := quietEnd } }
    let sooner : Option Time := s.scan.nextStrobe.map fun t => if reached soon t then t else soon
    (stirs → s.scan.rate = .quiet →
      (calmIn s → ends .normal sooner quiet) ∧ (¬ calmIn s → ends .normal sooner none)) ∧
    (¬ stirs ∨ s.scan.rate = .normal →
      (¬ calmIn s → ends s.scan.rate s.scan.nextStrobe none) ∧
      (calmIn s → ¬ calmIn before ∨ s.handed.wheel = true → ends s.scan.rate s.scan.nextStrobe quiet) ∧
      (calmIn s → calmIn before → s.handed.wheel = false → ends s.scan.rate s.scan.nextStrobe s.scan.quietEnd))

/-- The model's choice (log entry 5): an expiry whose timer is not running or whose end is not reached, the completion
of another command than the one being processed, of any while none is processed or a RESTART waits for its reply to be
sent, and the like are no events: only time goes by. -/
def Obligations.WhatIsNoEventDoesNothing : Prop :=
  ∀ (s : State) (dt : Time), Running s →
    let t := s.advance dt
    let idle (timer : Option Time) : Prop := ∀ e, timer = some e → reached (s.now + dt) e = false
    let nothing (c : Instr) : Prop := exec c s = .next (finish t t)
    (idle s.crossing.waitEnd → nothing (.waitExpiry dt)) ∧
    (idle s.crossing.permitLapse → nothing (.permitLapse dt)) ∧
    (idle s.crossing.openDelayEnd → nothing (.openDelayExpiry dt)) ∧
    (idle s.crossing.exitDelayEnd → nothing (.exitDelayExpiry dt)) ∧
    (idle (s.crossing.closedSince.map fun c => after c s.tm.tables.params.longClosure) →
      nothing (.longClosureExpiry dt)) ∧
    (idle s.lamp.phaseEnd → nothing (.halfPeriodExpiry dt)) ∧
    (idle s.lamp.test.slotEnd → nothing (.lampTestSlotEnd dt)) ∧
    (idle s.scan.quietEnd → nothing (.quietEndExpiry dt)) ∧
    (idle s.report.statusDue → nothing (.statusDueExpiry dt)) ∧
    (idle s.report.linkEnd → nothing (.linkEndExpiry dt)) ∧
    (idle (s.cal.current.bind (·.limit)) → nothing (.calibrationLimitExpiry dt)) ∧
    (∀ side, idle (s.lamp.darkEnd.get side) → nothing (.darkTimerExpiry dt side)) ∧
    (∀ i : Fin 4, idle s.approaches[i].deadline → nothing (.deadlineExpiry dt i)) ∧
    (∀ i : Fin 16, idle (some (after s.heads[i].lastSeen s.tm.tables.params.headTimeout)) →
      nothing (.headSilenceExpiry dt i)) ∧
    (∀ i : Fin 4, idle s.barriers[i].phaseEnd → nothing (.startPhaseExpiry dt i) ∧
      nothing (.reversePauseExpiry dt i) ∧ nothing (.trippedPauseExpiry dt i)) ∧
    (∀ i : Fin 4, idle s.barriers[i].travelEnd → nothing (.travelExpiry dt i)) ∧
    (∀ i : Fin 4, idle s.barriers[i].disagreeEnd → nothing (.disagreementTimerExpiry dt i)) ∧
    (s.tm.saveRun ≠ .running → ∀ r, nothing (.saveRunComplete dt r)) ∧
    (s.loading = false → ∀ a, nothing (.loadingComplete dt a)) ∧
    (∀ p w, (s.lnu.port p).sending = none → nothing (.transmissionComplete dt p w)) ∧
    (idle s.scan.nextStrobe → ∀ inputs, nothing (.strobe dt inputs)) ∧
    (s.lnu.passed = [] → nothing (.wheelTelegram dt) ∧ nothing (.healthTelegram dt)) ∧
    ∀ (c : Command) (written : Nat), s.lnu.processor = none ∨ s.lnu.restarting = true ∨
      (∃ q, s.lnu.processor = some q ∧ Command.fromCode (read8 q.payload 0) ≠ some c) →
      nothing (c.completion dt written)

/-- CONTACT_CHANGE. Of a barrier in service that is not under calibration: the target contact closing in START, RUN or
BRAKE gives SETTLE with the drive off; opening in SETTLE it resumes BRAKE or RUN, or HELD for a lower movement without
red proved; any other change moves no movement; proving and disagreement are judged on it in each case. Of a barrier under
calibration: proving is judged, and a closing contact is taken by the stage of the calibration (CalibrationStages). While
loading, and for a barrier out of service, only the input changes (R105, R108, R110, R111, R117, R124). That a level which stands
already is no change is the model's choice (log entry 21), and so is that HELD has no move_start (log entry 48). -/
def Obligations.ContactsMoveTheBarrier : Prop :=
  ∀ (s : State) (dt : Time) (i : Fin 4) (d : BarrierEnd) (closed : Bool), Running s →
    let r := s.barriers[i]
    let table := s.tm.tables.barrier[i]
    let red := s.lamp.redProved.get table.roadSide
    let t := { s.advance dt with
      contacts := s.contacts.set i (match d with
        | .down => { s.contacts[i] with down := closed }
        | .up => { s.contacts[i] with up := closed }) }
    let ends (u : State) : Prop := exec (.contactChange dt i d closed) s = .next (finish (s.advance dt) u)
    let moves (r' : BarrierRecord) : Prop := ends (judgeBarrier i { t with barriers := s.barriers.set i r' })
    let driven := r.phase = .start ∨ r.phase = .run ∨ r.phase = .brake
    (s.contacts[i].at_ d = closed → ends (s.advance dt)) ∧
    (s.contacts[i].at_ d ≠ closed → s.loading = true ∨ table.inService = false → ends t) ∧
    (s.contacts[i].at_ d ≠ closed → s.loading = false → table.inService = true →
      (∀ c, s.cal.current = some c → c.barrier ≠ i) →
      (r.target = some d → closed = true → driven → moves { r with
        phase := .settle, drive := .off, phaseEnd := none, runOrigin := none, runStart := none
        settleFrom := if r.phase = .start then some .start
          else if r.phase = .run then some .run else some .brake }) ∧
      (r.target = some d → closed = false → r.phase = .settle →
        (d = .down → red = false → moves { r with
          phase := .held, drive := .off, phaseEnd := none, moveStart := none, travelEnd := none,
          settleFrom := none }) ∧
        (d = .up ∨ red = true → r.settleFrom = some .brake → r.openLoopOnly = false →
          moves { r with phase := .brake, drive := .on d table.brakeDuty, settleFrom := none }) ∧
        (d = .up ∨ red = true → r.settleFrom ≠ some .brake ∨ r.openLoopOnly = true →
          moves (r.toRun table (s.now + dt) d))) ∧
      (r.target ≠ some d ∨ (closed = true ∧ ¬ driven) ∨ (closed = false ∧ r.phase ≠ .settle) →
        ends (judgeBarrier i t))) ∧
    (s.contacts[i].at_ d ≠ closed → s.loading = false → table.inService = true →
      ∀ c, s.cal.current = some c → c.barrier = i →
        (closed = true → ends (calibrationContact i d (judgeBarrier i t))) ∧
        (closed = false → ends (judgeBarrier i t)))

/-- STROBE: the block in progress is completed: block_count conversions of the entry's channel, each the level amplified
by the entry's gain and 4095 at or beyond full scale (the unit of a level, a sixteenth of a code, and the floor are the
model's choice, log entry 15); its result, the floor of their mean with its class and overrange flag, is stored and
handed to its users, and the next block starts. Each start takes the in-service entry above the position held, or the
lowest of all; the next strobe comes one period later, scan_strobe at the normal rate and scan_strobe times
quiet_divisor at the quiet one; with no entry in service no block starts and the timer runs on (R130, R131, R132). A
stored result is handed to each in-service lamp of the entry, to the audible warnings, to each barrier whose angle or
current entry it is, in service or not, a barrier under calibration judging its current by the calibration alone, and to the battery; their order, each taking the result as the user before has left the part, is the model's choice (log entries 14, 19, 47), and so is LOW for a code both below low_threshold and above high_threshold (log entry 45)
(R102, R107, R119, R124, R132, R136). -/
def Obligations.StrobesCycleTheScanList : Prop :=
  (∀ (s : State) (dt e : Time) (inputs : Vector AnalogueLevels 8), Running s →
    s.scan.nextStrobe = some e → reached (s.now + dt) e = true →
    let t := s.advance dt
    (s.scan.blockStart = none → exec (.strobe dt inputs) s = .next (finish t (startBlock t))) ∧
    ∀ (n : Fin 24) (start : Time), s.scan.position = some n → s.scan.blockStart = some start →
      let entry := s.tm.tables.scan[n]
      ∀ hc : entry.channel < 24,
      let converted (levels : AnalogueLevels) : Nat := min 4095 (levels[entry.channel].toNat * entry.gain / 16)
      let block := (inputs.toList.take entry.blockCount).map converted
      let code := block.sum / entry.blockCount
      let result : ScanResult :=
        { code := code
          cls := if code < entry.lowThreshold then .low
            else if entry.highThreshold < code then .high else .inRange
          overrange := decide (4095 ∈ block), startTime := start, endTime := s.now + dt }
      exec (.strobe dt inputs) s = .next (finish t (startBlock (handResult n result { t with
        scan := { s.scan with results := s.scan.results.set n (some result), blockStart := none } })))) ∧
  (∀ s : State,
    let served (i : Fin 24) : Prop := s.tm.tables.scan[i].inService = true
    let above (i : Fin 24) : Prop := ∀ p, s.scan.position = some p → p < i
    let period := match s.scan.rate with
      | .normal => s.tm.tables.params.scanStrobe
      | .quiet => s.tm.tables.params.scanStrobe * s.tm.tables.params.quietDivisor
    let starts (i : Fin 24) : Prop := startBlock s = { s with scan := { s.scan with
      position := some i, blockStart := some s.now, nextStrobe := some (after s.now period) } }
    (∀ i, served i → above i → (∀ j, served j → above j → i ≤ j) → starts i) ∧
    (∀ i, served i → (∀ j, served j → ¬ above j) → (∀ j, served j → i ≤ j) → starts i) ∧
    ((∀ j, ¬ served j) → startBlock s = { s with scan := { s.scan with
      position := none, blockStart := none, nextStrobe := some (after s.now period) } })) ∧
  ∀ (s : State) (n : Fin 24) (x : ScanResult),
    let ts := s.tm.tables
    let each (k : Nat) (uses : Fin k → Bool) (takes : Fin k → State → State) (u : State) : State :=
      forEach k (fun i u => if uses i then takes i u else u) u
    let judged (i : Fin 4) (u : State) : State :=
      if u.cal.current.any (fun c => c.barrier == i) then calibrationCurrent i x u else currentResult i x u
    let lit := each 12 (fun i => ts.lamp[i].inService && ts.lamp[i].scanEntry == n.val) (lampResult · x) s
    let heard0 := if ts.params.audibleEntry0 = n.val then audibleResult 0 x lit else lit
    let heard := if ts.params.audibleEntry1 = n.val then audibleResult 1 x heard0 else heard0
    let turned := each 4 (fun i => ts.barrier[i].angleEntry == n.val)
      (fun i u => calibrationAngle i x (angleResult i x u)) heard
    let driven := each 4 (fun i => ts.barrier[i].currentEntry == n.val) judged turned
    handResult n x s = if ts.params.batteryEntry = n.val then batteryResult x driven else driven

/-- WHEEL_TELEGRAM and HEALTH_TELEGRAM: the rows of 1.4 for a telegram acted on, by the state of its head (R4 to R7, R9,
R10). Of a health telegram the count is adopted; a skip, SENSOR_DISTURBED and SENSOR_FAULT give one disturb request between
them; SENSOR_FAULT makes the head FAULTY; NORMAL returns a FAULTY head to LIVE (R5, R6, R8 to R10). The list of telegrams
passed on is the model's (log entry 7): the front one, no longer acted on as its step comes, is taken from it with no other
effect, and one of the other kind stays. So is the order of the fault entries of one telegram (log entry 14). -/
def Obligations.HeadsFollowTelegrams : Prop :=
  (∀ (s : State) (dt : Time) (o : Observed) (rest : List Observed) (i : Fin 16) (count order hi lo : Byte),
    Running s → s.lnu.passed = o :: rest → o.kind = .wheel → o.payload = [count, order, hi, lo] →
    actedOn o s = some i →
    let t := { s.advance dt with lnu := { s.lnu with passed := rest } }
    let r := s.heads[i]
    let interval := hi.toNat * 256 + lo.toNat
    let bad : Prop := interval = 0 ∨ (order ≠ 1 ∧ order ≠ 2)
    let sets (r' : HeadRecord) : State := { t with heads := s.heads.set i r' }
    let live : State := sets { state := .live, lastCount := some count, lastSeen := o.arrival, wasFaulty := false }
    let w : WheelEvent :=
      { head := i, interval := interval, arrival := o.arrival
        direction := if (order = 1) ↔ s.tm.tables.dpt[i].towardSense = .s1First then .toward else .away }
    let skip (u : State) : State := eventEntered .countSkip (some i.val) none (disturbSections i u)
    let ends (u : State) : Prop := exec (.wheelTelegram dt) s = .next (finish (s.advance dt) u)
    (r.state = .unseen → ¬ bad → ends (ordinaryWheel w live)) ∧
    (∀ last, r.state = .live → r.lastCount = some last → ¬ bad →
      (count = last + 1 → ends (ordinaryWheel w live)) ∧
      (count = last → ends t) ∧
      (count ≠ last + 1 → count ≠ last → ends (wheelToApproach w (skip live)))) ∧
    (r.state = .faulty → ends (sets { r with lastSeen := o.arrival })) ∧
    (r.state = .lost → r.wasFaulty = false → ¬ bad →
      ends (wheelToApproach w (conditionEnd .headLost (some i.val) live))) ∧
    (r.state = .lost → r.wasFaulty = true → ends (conditionEnd .headLost (some i.val) (sets
      { state := .faulty, lastCount := some count, lastSeen := o.arrival, wasFaulty := false }))) ∧
    (r.state = .unseen ∨ r.state = .live → bad → ends (skip live)) ∧
    (r.state = .lost → r.wasFaulty = false → bad → ends (skip (conditionEnd .headLost (some i.val) live)))) ∧
  (∀ (s : State) (dt : Time) (o : Observed) (rest : List Observed), Running s → s.lnu.passed = o :: rest →
    let t := { s.advance dt with lnu := { s.lnu with passed := rest } }
    let acted (length : Nat) : Prop := s.tm.valid = true ∧ o.payload.length = length ∧
      ∃ i : Fin 16, s.tm.tables.dpt[i].inService = true ∧ s.tm.tables.dpt[i].address = o.source
    (o.kind = .wheel → ¬ acted 4 → exec (.wheelTelegram dt) s = .next (finish (s.advance dt) t)) ∧
    (o.kind = .health → ¬ acted 2 → exec (.healthTelegram dt) s = .next (finish (s.advance dt) t)) ∧
    (o.kind = .health → exec (.wheelTelegram dt) s = .next (finish (s.advance dt) (s.advance dt))) ∧
    (o.kind = .wheel → exec (.healthTelegram dt) s = .next (finish (s.advance dt) (s.advance dt)))) ∧
  ∀ (s : State) (dt : Time) (o : Observed) (rest : List Observed) (i : Fin 16) (count condition : Byte),
    Running s → s.lnu.passed = o :: rest → o.kind = .health → o.payload = [count, condition] →
    actedOn o s = some i →
    let t := { s.advance dt with lnu := { s.lnu with passed := rest } }
    let r := s.heads[i]
    let becomes (state : HeadState) : State := { t with
      heads := s.heads.set i
        { state := state, lastCount := some count, lastSeen := o.arrival, wasFaulty := false } }
    let found (u : State) : State := conditionEnd .headLost (some i.val) u
    let mended (u : State) : State := conditionEnd .headFault (some i.val) u
    let skipped (u : State) : State := eventEntered .countSkip (some i.val) none u
    let failed (u : State) : State :=
      conditionPresent .headFault (some i.val) { u with
        heads := u.heads.set i { state := .faulty, lastCount := some count, lastSeen := o.arrival, wasFaulty := false } }
    let ends (u : State) : Prop := exec (.healthTelegram dt) s = .next (finish (s.advance dt) u)
    let inOrder : Prop := r.state = .unseen ∨ (r.state = .live ∧ r.lastCount = some count)
    let skip : Prop := r.state = .live ∧ r.lastCount ≠ some count
    (inOrder → condition = 0 → ends (becomes .live)) ∧
    (inOrder → condition = 2 → ends (failed (disturbSections i (becomes .live)))) ∧
    (inOrder → condition ≠ 0 → condition ≠ 2 → ends (disturbSections i (becomes .live))) ∧
    (skip → condition ≠ 2 → ends (disturbSections i (skipped (becomes .live)))) ∧
    (skip → condition = 2 → ends (failed (disturbSections i (skipped (becomes .live))))) ∧
    (r.state = .faulty → condition = 0 → ends (mended (becomes .live))) ∧
    (r.state = .faulty → condition ≠ 0 → ends (becomes .faulty)) ∧
    (r.state = .lost → r.wasFaulty = false → condition = 0 → ends (found (becomes .live))) ∧
    (r.state = .lost → r.wasFaulty = false → condition = 2 →
      ends (failed (disturbSections i (found (becomes .live))))) ∧
    (r.state = .lost → r.wasFaulty = false → condition ≠ 0 → condition ≠ 2 →
      ends (disturbSections i (found (becomes .live)))) ∧
    (r.state = .lost → r.wasFaulty = true → condition = 0 → ends (mended (found (becomes .live)))) ∧
    (r.state = .lost → r.wasFaulty = true → condition ≠ 0 → ends (found (becomes .faulty)))

/-! ## What the blocks make of an event -/

/-- A wheel event moves every in-service section it bounds in one step, by the rows of R22, and no other section:
the count goes up as the wheel enters and down as it leaves, 0 and 254 being overrun into DISTURBED (R22, R23,
R24). -/
def Obligations.SectionsCountWheels : Prop :=
  ∀ (w : WheelEvent) (s : State) (i : Fin 8),
    let e := s.tm.tables.sectionTable[i]
    let after := (sectionWheel w s).sections[i]
    let disturbed : SectionRecord := { state := .disturbed, count := none, raised := false }
    (e.inService = false ∨ (∀ b ∈ e.boundaries, b.head ≠ w.head.val) → after = s.sections[i]) ∧
    ∀ b : Boundary, e.inService = true → e.boundaries.find? (·.head == w.head.val) = some b →
      (b.entering = w.direction →
        (s.sections[i].state = .clear → after = { state := .occupied, count := some 1, raised := false }) ∧
        (∀ n raised, s.sections[i] = { state := .occupied, count := some n, raised := raised } →
          (n < 254 → after = { state := .occupied, count := some (n + 1), raised := raised }) ∧
          (254 ≤ n → after = disturbed)) ∧
        (∀ n raised, s.sections[i] = { state := .restoring, count := some n, raised := raised } →
          (n < 254 → after = { state := .restoring, count := some (n + 1), raised := true }) ∧
          (254 ≤ n → after = disturbed)) ∧
        (s.sections[i].state = .disturbed → after = s.sections[i])) ∧
      (b.entering ≠ w.direction →
        (s.sections[i].state = .clear → after = disturbed) ∧
        (∀ n raised, s.sections[i] = { state := .occupied, count := some n, raised := raised } →
          (1 < n → after = { state := .occupied, count := some (n - 1), raised := raised }) ∧
          (n = 1 → after = { state := .clear, count := some 0, raised := false })) ∧
        (∀ n raised, s.sections[i] = { state := .restoring, count := some n, raised := raised } →
          (1 < n → after = { state := .restoring, count := some (n - 1), raised := raised }) ∧
          (n = 1 → after = { state := .clear, count := some 0, raised := false }) ∧
          (n = 0 → after = disturbed)) ∧
        (s.sections[i].state = .disturbed → after = s.sections[i]))

/-- A disturb request makes every in-service section that the head bounds DISTURBED, one that is so already being left
unchanged, and SECTION_DISTURBED becomes active for each that becomes so; where it makes none, nothing changes. The setting
up of the records makes every section DISTURBED, SECTION_DISTURBED becoming active for those in service and ending for
the others. A wheel moves the sections as SectionsCountWheels gives, SECTION_DISTURBED becoming active for each that an
overflow or underflow has made DISTURBED. After each, the section change report lists the in-service sections whose state
or freedom the step has changed, with what each was and is, and of a wheel which of them it entered; it goes to the approaches, and the crossing takes what comes of
it; with none to list there is no report (R12, R20, R21, R22, R23, R25, R26). That the fault entries of one event, and the
sections of one report, stand by rising index is the model's choice (log entry 14): no rule orders them. -/
def Obligations.SectionsAreDisturbedAndReported : Prop :=
  let unknown : SectionRecord := { state := .disturbed, count := none, raised := false }
  (∀ (head : Fin 16) (s : State),
    let bounded (i : Fin 8) : Prop := s.tm.tables.sectionTable[i].inService = true ∧
      ∃ b ∈ s.tm.tables.sectionTable[i].boundaries, b.head = head.val
    let named (i : Fin 8) : Prop := bounded i ∧ s.sections[i].state ≠ .disturbed
    (∀ i, (named i → (disturbSections head s).sections[i] = unknown) ∧
      (¬ named i → (disturbSections head s).sections[i] = s.sections[i])) ∧
    ((∀ i, ¬ named i) → disturbSections head s = s) ∧
    ∀ chosen : Fin 8 → Bool, (∀ i, chosen i = true ↔ named i) →
      disturbSections head s = handReport .disturb s (forEach 8 (fun i u =>
        if chosen i then conditionPresent .sectionDisturbed (some i.val)
          { u with sections := u.sections.set i unknown } else u) s)) ∧
  (∀ s : State,
    (∀ i : Fin 8, (setUpSections s).sections[i] = unknown) ∧
    setUpSections s = handReport .setup s (forEach 8 (fun i u =>
      if s.tm.tables.sectionTable[i].inService then conditionPresent .sectionDisturbed (some i.val) u
      else conditionEnd .sectionDisturbed (some i.val) u) { s with sections := Vector.replicate 8 unknown })) ∧
  (∀ (w : WheelEvent) (s : State) (entered : List Nat) (next : Fin 8 → SectionRecord),
    let free (r : SectionRecord) : Bool := decide (r.state = .clear ∨ r.state = .restoring ∧ r.count = some 0)
    let listed (i : Fin 8) : Bool := s.tm.tables.sectionTable[i].inService &&
      decide (s.sections[i].state ≠ (next i).state ∨ free s.sections[i] ≠ free (next i))
    let entering (i : Fin 8) : Bool := (s.tm.tables.sectionTable[i].boundaries.find? (·.head == w.head.val)).any
      (·.entering == w.direction)
    entered = ((List.finRange 8).filter fun i => listed i && entering i).map (·.val) →
    (∀ i : Fin 8, next i = (sectionWheel w s).sections[i]) →
    sectionWheel w s = handReport (.wheel w.head w.direction w.arrival entered) s (forEach 8 (fun i u =>
      let counted := { u with sections := u.sections.set i (next i) }
      if (next i).state = .disturbed ∧ s.sections[i].state ≠ .disturbed then
        conditionPresent .sectionDisturbed (some i.val) counted
      else counted) s)) ∧
  ∀ (cause : ReportCause) (before s : State),
    let free (r : SectionRecord) : Bool := decide (r.state = .clear ∨ r.state = .restoring ∧ r.count = some 0)
    let listed (i : Fin 8) : Bool := s.tm.tables.sectionTable[i].inService &&
      decide (before.sections[i].state ≠ s.sections[i].state ∨ free before.sections[i] ≠ free s.sections[i])
    let report : SectionReport :=
      { cause := cause
        entries := ((List.finRange 8).filter listed).map fun i =>
          { index := i.val, stateBefore := before.sections[i].state, stateAfter := s.sections[i].state,
            countAfter := s.sections[i].count, freeBefore := free before.sections[i],
            freeAfter := free s.sections[i] } }
    ((∀ i, listed i = false) → handReport cause before s = s) ∧
    ((∃ i, listed i = true) → handReport cause before s = crossingTurn before (approachReports report s))

/-- The speed and the group of a timing wheel at a position of approach `i`. It joins the group of the same head within
group_gap, or starts a new one; while fewer than 4 wheels are used it is measured, v_e taking its speed spacing ×
100,000 / interval if that is at most 8,000 cm/s and higher than v_e or the first; a v_e raised above v_line enters
OVERSPEED once in the group; a STRUCK approach is not judged further, and in any other state the wheel is judged as
MeasuredWheelIsJudged gives. A wheel that finds 4 used moves last_wheel_time alone. A wheel event is taken by each
in-service approach whose timing heads hold its head, if it runs TOWARD and the crossing is in use; every other approach
is unchanged; the approaches take it one after another, by rising index, which is the model's choice (log entries 14, 49)
(R37, R39, R40, R41, R42). -/
def Obligations.WheelsAreMeasuredInGroups : Prop :=
  (∀ (s : State) (i : Fin 4) (p : Nat) (w : WheelEvent),
    let e := s.tm.tables.approach[i]
    let r := s.approaches[i]
    let joins := r.group.groupHead = some p ∧
      (w.arrival - r.group.lastWheelTime).toNat ≤ s.tm.tables.params.groupGap
    let sets (g : GroupContext) : State := { s with approaches := s.approaches.set i { r with group := g } }
    let v := s.tm.tables.dpt[w.head].spacing * 100000 / w.interval
    let fresh : GroupContext :=
      { groupHead := some p, tFirst := w.arrival, wheelsUsed := 0, vE := none, lastWheelTime := w.arrival,
        overspeedEntered := false }
    ∀ (g : GroupContext) (first : Bool),
      (joins → g = { r.group with lastWheelTime := w.arrival } ∧ first = false) →
      (¬ joins → g = fresh ∧ first = true) →
      (4 ≤ g.wheelsUsed → timingWheel i p w s = sets g) ∧
      (g.wheelsUsed < 4 →
        let raises := v ≤ 8000 ∧ ∀ u, g.vE = some u → u < v
        let taken (u : State) (g' : GroupContext) : Prop :=
          (r.state = .struck → timingWheel i p w s = u) ∧
          (r.state ≠ .struck → timingWheel i p w s = applyOutcome i p (wheelOutcome u i p first v g') u)
        let used : GroupContext := { g with wheelsUsed := g.wheelsUsed + 1 }
        let raised : GroupContext := { used with vE := some v }
        (¬ raises → taken (sets used) used) ∧
        (raises → v ≤ e.vLine ∨ g.overspeedEntered = true → taken (sets raised) raised) ∧
        (raises → e.vLine < v → g.overspeedEntered = false →
          let fast : GroupContext := { raised with overspeedEntered := true }
          taken (eventEntered .overspeed (some i.val) none (sets fast)) fast))) ∧
  (∀ (s : State) (w : WheelEvent),
    let heads (i : Fin 4) := s.tm.tables.approach[i].timingHeads
    approachWheel w s = forEach 4 (fun i u =>
      if s.tm.tables.approach[i].inService = true ∧ s.crossing.state ≠ .outOfUse ∧ w.direction = .toward then
        match (heads i).findIdx? (·.head == w.head.val) with
        | some p => timingWheel i p w u
        | none => u
      else u) s) ∧
  ∀ (s : State) (w : WheelEvent) (i : Fin 4),
    let e := s.tm.tables.approach[i]
    let takes := e.inService = true ∧ s.crossing.state ≠ .outOfUse ∧ w.direction = .toward
    (∀ p : Nat, takes → e.timingHeads.findIdx? (·.head == w.head.val) = some p →
      (approachWheel w s).approaches[i] = (timingWheel i p w s).approaches[i]) ∧
    (¬ takes ∨ (∀ h ∈ e.timingHeads, h.head ≠ w.head.val) →
      (approachWheel w s).approaches[i] = s.approaches[i])

/-- The tests of a measured wheel in their order, at position `p` of approach `i` with distance `d`, for a group of
speed `vE`: an invalid speed, a final head LOST or FAULTY, a RESTORING approach section, creeping, the halt, and the
timing of R46; and what each outcome makes of the approach: nothing, a strike with its cause (as StrikesAndReleases gives),
the deadline discarded where the head is nearer than the one that set it, or D_new taken where there is no deadline, the
head is nearer or D_new earlier; one that is reached already strikes TIMED in that event (log entry 25) (R43 to R49). -/
def Obligations.MeasuredWheelIsJudged : Prop :=
  (∀ (s : State) (i : Fin 4) (p v vE : Nat) (first : Bool) (g : GroupContext) (h last : TimingHead)
    (hp : last.head < 16),
    let e := s.tm.tables.approach[i]
    let judged := wheelOutcome s i p first v g
    let lost := s.heads[last.head].state = .lost ∨ s.heads[last.head].state = .faulty
    let restoring := sectionState s e.approachSection = some .restoring
    let final := p + 1 = e.timingHeads.length
    let timed (tReq : Nat) : WheelOutcome :=
      let tArr := h.distance * 100000 / vE
      if tArr ≤ tReq then .strike .immediate else .deadline (after g.tFirst (min (tArr - tReq) e.holdMax))
    e.timingHeads.getLast? = some last → e.timingHeads[p]? = some h →
    (8000 < v → judged = if first then .strike .untimeable else .nothing) ∧
    (v ≤ 8000 → lost → judged = .strike .fallback) ∧
    (v ≤ 8000 → ¬ lost → restoring → judged = .strike .untimeable) ∧
    (v ≤ 8000 → ¬ lost → ¬ restoring → g.vE = some vE →
      (vE < e.vCreep → judged = if final then .strike .fallback else .discard .tracking) ∧
      (e.vCreep ≤ vE → h.haltSide = true → vE ≤ e.vHalt → judged = .discard .deferred) ∧
      (e.vCreep ≤ vE → h.haltSide = false ∨ e.vHalt < vE →
        ∀ d, s.tm.derived = some d → judged = timed d.tReq[i]))) ∧
  ∀ (s : State) (i : Fin 4) (p : Nat) (st : ApproachState) (d : Time),
    let r := s.approaches[i]
    let nearer := r.deadline = none ∨ r.deadlineHead = none ∨ ∃ n, r.deadlineHead = some n ∧ n < p
    let sooner := ∃ d0, r.deadline = some d0 ∧ reached d d0 = false
    let sets (r' : ApproachRecord) : State := { s with approaches := s.approaches.set i r' }
    let armed := sets { r with state := .armed, deadline := some d, deadlineHead := some p }
    applyOutcome i p .nothing s = s ∧
    (∀ cause : StrikeCause, applyOutcome i p (.strike cause) s = strike i cause s) ∧
    (nearer → applyOutcome i p (.discard st) s =
      sets { r with state := st, deadline := none, deadlineHead := none }) ∧
    (¬ nearer → applyOutcome i p (.discard st) s = s) ∧
    (nearer ∨ sooner → reached s.now d = false → applyOutcome i p (.deadline d) s = armed) ∧
    (nearer ∨ sooner → reached s.now d = true → applyOutcome i p (.deadline d) s = strike i .timed armed) ∧
    (¬ nearer → ¬ sooner → applyOutcome i p (.deadline d) s = s)

/-- What a section change report makes of approach `i`, whose two sections are in service. Not STRUCK: a section becoming
DISTURBED strikes DISTURBED; the approach section taken by a TOWARD wheel at a head that is none of its timing heads
strikes UNTIMEABLE, and taken otherwise changes nothing; the approach section freed returns it to IDLE. STRUCK: the
island taken sets island_seen, with the arrival time of a wheel, if it is still no; and at a report that lists one of its
sections, with the approach section free, and the island too if island_seen is yes, it is released. A report is
taken by each in-service approach while the crossing is in use (R37, R50, R51, R52, R54, R55). Where one report meets
two of these, the order is the model's choice (log entries 35, 36), and so is that the approaches take it one after another,
by rising index (log entries 14, 49). -/
def Obligations.ApproachesTakeSectionReports : Prop :=
  (∀ (before s : State) (cause : ReportCause) (i : Fin 4) (a b : Fin 8),
    let e := s.tm.tables.approach[i]
    let r := s.approaches[i]
    e.approachSection = a.val → e.islandSection = b.val →
    s.tm.tables.sectionTable[a].inService = true → s.tm.tables.sectionTable[b].inService = true →
    let disturbed (k : Fin 8) : Prop := s.sections[k].state = .disturbed ∧ before.sections[k].state ≠ .disturbed
    let taken (k : Fin 8) : Prop := SectionFree before.sections[k] ∧ ¬ SectionFree s.sections[k]
    let freed (k : Fin 8) : Prop := ¬ SectionFree before.sections[k] ∧ SectionFree s.sections[k]
    let listed (k : Fin 8) : Prop := before.sections[k].state ≠ s.sections[k].state ∨ taken k ∨ freed k
    let untimed : Prop := ∃ head at_ entered, cause = .wheel head .toward at_ entered ∧
      ∀ h ∈ e.timingHeads, h.head ≠ head.val
    let takes (u : State) : Prop := approachReport i (sectionReport cause before s) s = u
    (r.state ≠ .struck →
      (disturbed a ∨ disturbed b → takes (strike i .disturbed s)) ∧
      (¬ disturbed a → ¬ disturbed b →
        (taken a → untimed → takes (strike i .untimeable s)) ∧
        (taken a → ¬ untimed → takes s) ∧
        (freed a → r.state ≠ .idle → takes { s with approaches := s.approaches.set i .cold }) ∧
        (freed a → r.state = .idle → takes s) ∧
        (¬ taken a → ¬ freed a → takes s))) ∧
    (r.state = .struck → ∀ seen : ApproachRecord,
      (taken b → r.islandSeen = false → seen = { r with
        islandSeen := true
        islandEntryTime := match cause with
          | .wheel _ _ arrival _ => some arrival
          | .disturb | .reset | .setup => none }) →
      (¬ taken b ∨ r.islandSeen = true → seen = r) →
      let u : State := { s with approaches := s.approaches.set i seen }
      let released := (listed a ∨ listed b) ∧ SectionFree s.sections[a] ∧
        (seen.islandSeen = true → SectionFree s.sections[b])
      (released → takes (release i u)) ∧ (¬ released → takes u))) ∧
  (∀ (s : State) (rep : SectionReport), approachReports rep s = forEach 4 (fun i u =>
    if s.tm.tables.approach[i].inService = true ∧ s.crossing.state ≠ .outOfUse then approachReport i rep u else u) s) ∧
  ∀ (s : State) (rep : SectionReport) (i : Fin 4),
    let takes := s.tm.tables.approach[i].inService = true ∧ s.crossing.state ≠ .outOfUse
    (takes → (approachReports rep s).approaches[i] = (approachReport i rep s).approaches[i]) ∧
    (¬ takes → (approachReports rep s).approaches[i] = s.approaches[i])

/-- A strike fills the record, and one that comes to a STRUCK approach changes nothing; a release returns the record
to IDLE and appends the passage record to the FILLING bank, which becomes READY with its 16th record, entering REVERSAL where the island was not seen and
SHORT_WARNING where the warning achieved is below L_close + clear_margin; without a FILLING bank the record is discarded with PASSAGE_OVERRUN (R37, R49, R55, R56, R156; the order of these events in one release is the model's
choice, log entry 14). -/
def Obligations.StrikesAndReleases : Prop :=
  ∀ (s : State) (i : Fin 4) (cause : StrikeCause),
    let e := s.tm.tables.approach[i]
    let r := s.approaches[i]
    let struck : State := { s with approaches := s.approaches.set i { r with
      state := .struck, deadline := none, deadlineHead := none, strikeCause := some cause,
      strikeTime := some s.now, vEAtStrike := r.group.vE, islandSeen := !sectionFree s e.islandSection,
      islandEntryTime := none } }
    (r.state = .struck → strike i cause s = s) ∧
    (r.state ≠ .struck → strike i cause s =
      if cause = .untimeable then eventEntered .untimeable (some i.val) none struck else struck) ∧
    ∀ (d : Derived) (t : Time), s.tm.derived = some d → r.strikeCause = some cause → r.strikeTime = some t →
      let warning := r.islandEntryTime.map fun at_ => at_ - t
      let short := warning.any fun x => decide (x.toNat < d.lClose + e.clearMargin)
      let passage : PassageRecord :=
        { approach := i, strikeCause := cause, strikeTime := t, vEAtStrike := r.vEAtStrike,
          islandEntryTime := r.islandEntryTime, releaseTime := s.now, achievedWarning := warning,
          shortWarning := short }
      let idle : State := { s with approaches := s.approaches.set i .cold }
      let seen (u : State) : State :=
        if r.islandSeen then u else eventEntered .reversal (some i.val) none u
      let warned (u : State) : State := if short then eventEntered .shortWarning (some i.val) none u else u
      (s.report.bank0.state ≠ .filling → s.report.bank1.state ≠ .filling →
        release i s = warned (seen (eventEntered .passageOverrun none none idle))) ∧
      (s.report.bank0.state = .filling →
        let grown := s.report.bank0.records ++ [passage]
        (s.report.bank0.records.length < 15 →
          release i s = warned (seen { idle with report := { s.report with
            bank0 := { state := .filling, records := grown } } })) ∧
        (15 ≤ s.report.bank0.records.length →
          release i s = warned (seen { idle with report := { s.report with
            bank0 := { state := .ready, records := grown }
            bank1 := if s.report.bank1.state = .empty then { s.report.bank1 with state := .filling }
              else s.report.bank1 } }))) ∧
      (s.report.bank0.state ≠ .filling → s.report.bank1.state = .filling →
        let grown := s.report.bank1.records ++ [passage]
        (s.report.bank1.records.length < 15 →
          release i s = warned (seen { idle with report := { s.report with
            bank1 := { state := .filling, records := grown } } })) ∧
        (15 ≤ s.report.bank1.records.length →
          release i s = warned (seen { idle with report := { s.report with
            bank0 := if s.report.bank0.state = .empty then { s.report.bank0 with state := .filling }
              else s.report.bank0
            bank1 := { state := .ready, records := grown } } })))

/-- What a report does to the fault table: a condition that becomes present makes its LATCHED record ACTIVE with one
more occurrence, touches an ACTIVE or ACCEPTED_ACTIVE one's last time alone, and otherwise enters an ACTIVE record; a
condition that ends makes an ACTIVE record LATCHED, removes an ACCEPTED_ACTIVE one and changes nothing else; an event
counts into its record, with its reason, or enters a LATCHED one; a new record that finds 32 displaces another under
R144, `FaultRecorder.enter` (R141, R142, R143). -/
def Obligations.FaultReportsUpdateTheTable : Prop :=
  ∀ (s : State) (c : FaultCode) (sub : Option Nat) (detail : Option CalReason),
    let rs := s.faults.records
    let isIt (r : FaultRecord) : Bool := r.code = c ∧ r.subject = sub
    let placed (f : FaultRecord → FaultRecord) : FaultRecorder :=
      { s.faults with records := rs.map fun r => if isIt r then f r else r }
    let newOne (state : RecordState) (detail : Option CalReason) : FaultRecord :=
      { code := c, subject := sub, state := state, firstTime := s.now, lastTime := s.now, occurrences := 1,
        detail := detail }
    (∀ r, rs.find? isIt = some r →
      (r.state = .latched → (conditionPresent c sub s).faults = placed fun r =>
        { r with state := .active, lastTime := s.now, occurrences := min 255 (r.occurrences + 1) }) ∧
      (r.state ≠ .latched → (conditionPresent c sub s).faults = placed fun r => { r with lastTime := s.now }) ∧
      (r.state = .active → (conditionEnd c sub s).faults = placed fun r => { r with state := .latched }) ∧
      (r.state = .acceptedActive →
        (conditionEnd c sub s).faults = { s.faults with records := rs.filter fun r => !isIt r }) ∧
      (r.state = .latched → conditionEnd c sub s = s) ∧
      (eventEntered c sub detail s).faults = placed fun r =>
        { r with lastTime := s.now, occurrences := min 255 (r.occurrences + 1), detail := detail }) ∧
    (rs.find? isIt = none →
      conditionEnd c sub s = s ∧
      (rs.length < 32 →
        (conditionPresent c sub s).faults = { s.faults with records := rs ++ [newOne .active none] } ∧
        (eventEntered c sub detail s).faults = { s.faults with records := rs ++ [newOne .latched detail] }) ∧
      (32 ≤ rs.length →
        (conditionPresent c sub s).faults = (s.faults.enter (newOne .active none)).1 ∧
        (eventEntered c sub detail s).faults = (s.faults.enter (newOne .latched detail)).1))

/-- A full fault table: the oldest LATCHED record of the lowest class among the LATCHED ones gives way to a new
record; with none LATCHED a NOTICE or DEGRADED record is not entered, and an ALARM one displaces the oldest present
record of a lower class; the flag is set by the last two. With a record of a lower class or a LATCHED one among the
32, an ALARM record is always entered (R144). A record that becomes ACTIVE, new or from LATCHED, and an event entered or
counted set the new-fault flag and fresh, unless the code is masked; a record of class ALARM that becomes ACTIVE gives the
Sequencer its notice; any other report, and the end of a condition, marks and notifies nothing (R145, R148, R152). -/
def Obligations.NewRecordsDisplaceAndAreMarked : Prop :=
  (∀ (f : FaultRecorder) (new : FaultRecord), 32 ≤ f.records.length →
    let rs := f.records
    let entered (i : Nat) (dropped : Bool) : FaultRecorder :=
      { records := rs.eraseIdx i ++ [new], dropped := f.dropped || dropped }
    let latched (r : FaultRecord) : Prop := r.state = .latched
    (∀ i r, rs[i]? = some r → latched r →
      (∀ r' ∈ rs, latched r' → r.code.cls.rank ≤ r'.code.cls.rank) →
      (∀ j r', j < i → rs[j]? = some r' → latched r' → r.code.cls.rank < r'.code.cls.rank) →
      f.enter new = (entered i false, true)) ∧
    ((∀ r ∈ rs, ¬ latched r) →
      (new.code.cls ≠ .alarm → f.enter new = ({ f with dropped := true }, false)) ∧
      (new.code.cls = .alarm → ∀ i r, rs[i]? = some r → r.code.cls ≠ .alarm →
        (∀ j r', j < i → rs[j]? = some r' → r'.code.cls = .alarm) →
        f.enter new = (entered i true, true)))) ∧
  ∀ (s : State) (c : FaultCode) (sub : Option Nat) (detail : Option CalReason),
    let found (r : FaultRecord) : Prop := s.faults.records.find? (fun r => r.code = c ∧ r.subject = sub) = some r
    let held : Prop := ∃ r, found r
    let room (state : RecordState) (detail : Option CalReason) : Prop := (s.faults.enter
      { code := c, subject := sub, state := state, firstTime := s.now, lastTime := s.now, occurrences := 1,
        detail := detail }).2 = true
    let activates := (∃ r, found r ∧ r.state = .latched) ∨ (¬ held ∧ room .active none)
    let counts := held ∨ room .latched detail
    let masked := ∃ h : c.number < 26, s.tm.tables.reportMask[c.number] = true
    let marked : ReportUnit := { s.report with newFault := true, fresh := true }
    let present := conditionPresent c sub s
    let entered := eventEntered c sub detail s
    (activates →
      (masked → present.report = s.report) ∧ (¬ masked → present.report = marked) ∧
      (c.cls = .alarm → present.handed = { s.handed with alarm := true }) ∧
      (c.cls ≠ .alarm → present.handed = s.handed)) ∧
    (¬ activates → present.report = s.report ∧ present.handed = s.handed) ∧
    (counts → (masked → entered.report = s.report) ∧ (¬ masked → entered.report = marked)) ∧
    (¬ counts → entered.report = s.report) ∧ entered.handed = s.handed ∧
    (conditionEnd c sub s).report = s.report ∧ (conditionEnd c sub s).handed = s.handed

/-- The table of orders, and the gate. An order to a barrier of another phase than STALLED for the end it has as
target has no effect; one for the other end begins, reverses, or changes the target alone, by the phase; an
out-of-service barrier takes none. A movement toward DOWN is held where the side has no red proved; the loss of red
proved holds every barrier driven down there, and its gain starts every barrier held there (R112, R113, R114,
R118). The model's choices: open_loop_only becomes no as an order begins (log entry 20), and a HELD that an order begins
has no move_start (log entry 48). -/
def Obligations.OrdersAndTheGate : Prop :=
  ∀ (s : State) (i : Fin 4) (d : BarrierEnd),
    let table := s.tm.tables.barrier[i]
    let r := s.barriers[i]
    let red := s.lamp.redProved.get table.roadSide
    let sets (r' : BarrierRecord) (u : State) : State := { u with barriers := s.barriers.set i r' }
    let driven := r.phase = .start ∨ r.phase = .run ∨ r.phase = .brake
    let fresh : BarrierRecord := { r with target := some d, retries := 0, openLoopOnly := false, underway := false }
    let ended := conditionEnd .barrierStall (some i.val) s
    let held : BarrierRecord := { fresh with
      phase := .held, drive := .off, phaseEnd := none, moveStart := none, travelEnd := none, settleFrom := none }
    let begun (b : BarrierRecord) (d : BarrierEnd) : BarrierRecord :=
      let start : BarrierRecord := { b with
        phase := .start, drive := .on d table.overdriveDuty, phaseEnd := some (after s.now table.startMs)
        moveStart := some s.now, settleFrom := none, underway := true
        travelEnd := some (after s.now ((match d with
          | .down => table.travelDown
          | .up => table.travelUp) * 3 / 2)) }
      if table.startMs = 0 then start.toRun table s.now d else start
    (table.inService = false → order i d s = s) ∧
    (table.inService = true → r.target = some d → r.phase ≠ .stalled → order i d s = s) ∧
    (table.inService = true → r.target ≠ some d → driven → order i d s = sets { r with
      target := some d, phase := .reverse, drive := .off, phaseEnd := some (after s.now 300),
      runOrigin := none, runStart := none, travelEnd := none, openLoopOnly := false, retries := 0, underway := false } s) ∧
    (table.inService = true → r.target ≠ some d → r.phase = .reverse →
      order i d s = sets { r with target := some d } s) ∧
    (table.inService = true → r.phase = .stalled ∨ (r.target ≠ some d ∧ ¬ driven ∧ r.phase ≠ .reverse) →
      (r.provedAt d = true → order i d s = conditionEnd .barrierTimeout (some i.val) (sets { fresh with
        phase := .atEnd, drive := .off, phaseEnd := none, travelEnd := none, settleFrom := none } ended)) ∧
      (r.provedAt d = false → d = .down → red = false → order i d s = sets held ended) ∧
      (r.provedAt d = false → d = .up ∨ red = true → order i d s = sets (begun fresh d) ended)) ∧
    (∀ role : BarrierRole, orderRole role d s = forEach 4 (fun i u =>
      if s.tm.tables.barrier[i].role = role then order i d u else u) s) ∧
    (∀ side : Side, s.cal.current = none → table.inService = true → table.roadSide = side →
      (driven → r.target = some .down → (gateSide side false s).barriers[i] = { r with
        phase := .held, drive := .off, phaseEnd := none, moveStart := none, travelEnd := none,
        settleFrom := none, runOrigin := none, runStart := none }) ∧
      (¬ driven ∨ r.target ≠ some .down → (gateSide side false s).barriers[i] = r) ∧
      (r.phase = .held → (gateSide side true s).barriers[i] = begun r .down) ∧
      (r.phase ≠ .held → (gateSide side true s).barriers[i] = r))

/-- The position, proving, the beginning of a movement (HELD in its place for a lower movement without red proved; a retry
restart keeping move_start and travel_end), the entry to RUN, the regulated duty and the trips of a barrier, in their figures (R107, R108, R113, R114, R115, R116, R119, R120, R121; that a trip enters its event before BARRIER_STALL is
the model's order, log entry 14, and that each HELD has no move_start its choice, log entry 48). -/
def Obligations.BarrierFiguresAndTrips : Prop :=
  (∀ (e : BarrierEntry) (x : ScanResult),
    (e.angleEntry < 24 → e.downCode + 400 ≤ e.upCode → x.overrange = false →
      positionOf e (some x) = some (if x.code ≤ e.downCode then 0
        else min 1000 ((x.code - e.downCode) * 1000 / (e.upCode - e.downCode)))) ∧
    (24 ≤ e.angleEntry ∨ e.upCode < e.downCode + 400 ∨ x.overrange = true → positionOf e (some x) = none) ∧
    positionOf e none = none) ∧
  (∀ (e : BarrierEntry) (c : Contacts) (p : Nat), e.inService = true →
    provingOf e c (some p) =
      (decide (c.down = true ∧ p ≤ e.downWindow), decide (c.up = true ∧ e.upWindow ≤ p)) ∧
    provingOf e c none = (c.down, c.up)) ∧
  (∀ (e : BarrierEntry) (now : Time) (d : BarrierEnd) (r : BarrierRecord),
    let zone (p : Nat) : Prop := r.openLoopOnly = false ∧
      match d with
      | .down => p ≤ e.brakePos
      | .up => 1000 - e.brakePos ≤ p
    let running : BarrierRecord := { r with
      phase := .run, drive := .on d e.ratedDuty, phaseEnd := none, runStart := some now, runOrigin := r.position,
      settleFrom := none }
    (∀ p, r.position = some p → zone p →
      r.toRun e now d = { running with phase := .brake, drive := .on d e.brakeDuty }) ∧
    ((∀ p, r.position = some p → ¬ zone p) → r.toRun e now d = running)) ∧
  (∀ (e : BarrierEntry) (now : Time) (red : Bool) (d : BarrierEnd) (fresh : Bool) (r : BarrierRecord),
    let retried : BarrierRecord := { r with
      phase := .start, drive := .on d e.overdriveDuty, phaseEnd := some (after now e.startMs), settleFrom := none,
      underway := true }
    let limit := (match d with
      | .down => e.travelDown
      | .up => e.travelUp) * 3 / 2
    let start : BarrierRecord :=
      if fresh then { retried with moveStart := some now, travelEnd := some (after now limit) } else retried
    (d = .down → red = false → r.move e now red d fresh = { r with
      phase := .held, drive := .off, phaseEnd := none, moveStart := none, travelEnd := none, settleFrom := none }) ∧
    (d = .up ∨ red = true → 0 < e.startMs → r.move e now red d fresh = start) ∧
    (d = .up ∨ red = true → e.startMs = 0 → r.move e now red d fresh = start.toRun e now d)) ∧
  (∀ (e : BarrierEntry) (origin position elapsed : Nat),
    (let expected := origin - 1000 * min elapsed e.travelDown / e.travelDown
     (regulatedDuty e .down origin position elapsed : Int) =
       max 0 (min (e.clampDuty : Int) (e.ratedDuty + (((position : Int) - expected) * e.loopGain).fdiv 100))) ∧
    (let expected := min 1000 (origin + 1000 * min elapsed e.travelUp / e.travelUp)
     (regulatedDuty e .up origin position elapsed : Int) =
       max 0 (min (e.clampDuty : Int) (e.ratedDuty + (((expected : Int) - position) * e.loopGain).fdiv 100)))) ∧
  ∀ (s : State) (i : Fin 4) (x : ScanResult), s.cal.current = none →
    let r := s.barriers[i]
    let driven := r.phase = .start ∨ r.phase = .run ∨ r.phase = .brake
    let trips := x.cls = .high ∨ x.overrange = true
    let entered := eventEntered .barrierOvercurrent (some i.val) none s
    (¬ (driven ∧ trips) → currentResult i x s = s) ∧
    (driven → trips → r.retries < 3 → currentResult i x s = { entered with
      barriers := s.barriers.set i { r with
        phase := .tripped, drive := .off, retries := r.retries + 1, phaseEnd := some (after s.now 2000) } }) ∧
    (driven → trips → 3 ≤ r.retries → currentResult i x s =
      conditionPresent .barrierStall (some i.val) { entered with
        barriers := s.barriers.set i { r with phase := .stalled, drive := .off, phaseEnd := none } })

/-- A result of its angle entry, taken by a barrier that is not under calibration: FEEDBACK_LOST of an in-service barrier
follows the overrange flag; the position is formed; a movement under way that loses it runs open loop from then on, in RUN
and BRAKE at rated_duty in RUN, in every other phase by its flag (`underway`: from START to AT_END, a stop order or an
opposite order, a gated HELD between them included, log entry 24); in RUN a valid
position is brake-tested and else gives the regulated duty; and proving and disagreement are judged on it. Proving: the
flags follow contacts and position; SETTLE proved at its target becomes AT_END and ends BARRIER_TIMEOUT; AT_END no longer
proved begins a new movement under the gate (that open_loop_only ends at AT_END is the model's choice, log entry 20).
Disagreement begins and ends with its timer of 1,000 ms and BARRIER_DISAGREE. The model's choices: a flagged result that
finds FEEDBACK_LOST present reports nothing (log entry 11); a position is formed for a barrier out of service too (log entry
19); a return from BRAKE to RUN keeps run_start and run_origin (log entry 46) (R107, R108, R109, R110, R112, R114, R115,
R116, R117). -/
def Obligations.AngleResultsMoveTheBarrier : Prop :=
  (∀ (s : State) (i : Fin 4) (x : ScanResult), (∀ c, s.cal.current = some c → c.barrier ≠ i) →
    let e := s.tm.tables.barrier[i]
    let r := s.barriers[i]
    let p := positionOf e (some x)
    let at_ : BarrierRecord := { r with position := p }
    ∀ judged : State,
      (e.inService = true → x.overrange = true → r.feedbackLost = false → judged =
        conditionPresent .feedbackLost (some i.val) s) →
      (e.inService = true → x.overrange = false → r.feedbackLost = true → judged =
        conditionEnd .feedbackLost (some i.val) s) →
      (e.inService = false ∨ x.overrange = r.feedbackLost → judged = s) →
      let lost := if e.inService then x.overrange else r.feedbackLost
      let becomes (r' : BarrierRecord) : Prop := angleResult i x s =
        judgeBarrier i { judged with barriers := s.barriers.set i { r' with feedbackLost := lost } }
      (r.target = none → becomes at_) ∧
      ∀ d, r.target = some d →
        let zone (q : Nat) : Prop := match d with
          | .down => q ≤ e.brakePos
          | .up => 1000 - e.brakePos ≤ q
        let rated := Drive.on d e.ratedDuty
        (p = none → r.position ≠ none → r.phase = .run ∨ r.phase = .brake →
          becomes { at_ with phase := .run, openLoopOnly := true, drive := rated }) ∧
        (p = none → r.position ≠ none → r.phase ≠ .run → r.phase ≠ .brake → r.underway = true →
          becomes { at_ with openLoopOnly := true }) ∧
        (p = none → r.position = none → becomes at_) ∧
        (r.phase = .brake → p ≠ none → becomes at_) ∧
        (r.phase ≠ .run → r.phase ≠ .brake → p ≠ none → becomes at_) ∧
        (r.phase ≠ .run → r.phase ≠ .brake → r.underway = false → becomes at_) ∧
        ∀ q, r.phase = .run → p = some q →
          (r.openLoopOnly = false → zone q →
            becomes { at_ with phase := .brake, drive := .on d e.brakeDuty }) ∧
          (r.openLoopOnly = false → ¬ zone q → e.closedLoop = true → ∀ o t0, r.runOrigin = some o →
            r.runStart = some t0 →
            becomes { at_ with drive := .on d (regulatedDuty e d o q (s.now - t0).toNat) }) ∧
          (r.openLoopOnly = true ∨ (¬ zone q ∧ (e.closedLoop = false ∨ r.runOrigin = none ∨ r.runStart = none)) →
            becomes at_)) ∧
  (∀ (s : State) (i : Fin 4),
    let e := s.tm.tables.barrier[i]
    let r := s.barriers[i]
    let red := s.lamp.redProved.get e.roadSide
    let proved := provingOf e s.contacts[i] r.position
    let formed : BarrierRecord := { r with provedDown := proved.1, provedUp := proved.2 }
    let provedAt (d : BarrierEnd) : Bool := match d with
      | .down => proved.1
      | .up => proved.2
    let sets (r' : BarrierRecord) : State := { s with barriers := s.barriers.set i r' }
    (∀ d, r.target = some d → r.phase = .settle →
      (provedAt d = true → judgeProving i s = conditionEnd .barrierTimeout (some i.val) (sets { formed with
        phase := .atEnd, drive := .off, phaseEnd := none, travelEnd := none, settleFrom := none,
        openLoopOnly := false, underway := false })) ∧
      (provedAt d = false → judgeProving i s = sets formed)) ∧
    (∀ d, r.target = some d → r.phase = .atEnd →
      (provedAt d = false → judgeProving i s = sets (formed.move e s.now red d true)) ∧
      (provedAt d = true → judgeProving i s = sets formed)) ∧
    ((r.phase ≠ .settle ∧ r.phase ≠ .atEnd) ∨ r.target = none → judgeProving i s = sets formed)) ∧
  (∀ (s : State) (i : Fin 4), judgeBarrier i s = judgeDisagreement i (judgeProving i s)) ∧
  ∀ (s : State) (i : Fin 4),
    let e := s.tm.tables.barrier[i]
    let r := s.barriers[i]
    let c := s.contacts[i]
    let disagrees : Prop := (c.up = true ∧ c.down = true) ∨ (c.down = true ∧ ∃ p, r.position = some p ∧ 200 < p) ∨
      (c.up = true ∧ ∃ p, r.position = some p ∧ p < 800)
    let sets (r' : BarrierRecord) : State := { s with barriers := s.barriers.set i r' }
    (e.inService = false ∨ (∃ k, s.cal.current = some k ∧ k.barrier = i) → judgeDisagreement i s = s) ∧
    (e.inService = true → (∀ k, s.cal.current = some k → k.barrier ≠ i) →
      (disagrees → r.disagreeing = false → judgeDisagreement i s =
        sets { r with disagreeing := true, disagreeEnd := some (after s.now 1000) }) ∧
      (¬ disagrees → r.disagreeing = true → judgeDisagreement i s = conditionEnd .barrierDisagree (some i.val)
        (sets { r with disagreeing := false, disagreeEnd := none })) ∧
      ((disagrees ↔ r.disagreeing = true) → judgeDisagreement i s = s))

/-- The Lamp Controller takes the aspect and the sound handed on, where they differ from those it holds. A new aspect
gives each in-service lamp its mode, and an out-of-service one DARK. A lamp whose mode changes takes mode_since now, with no interval of before; one darkened is not proved, one no longer dark is not stuck on, LAMP_STUCK_ON ending. RED starts
the flash generator in phase A, opening the lit interval of its phase A lamps; any other aspect stops it. A side without red
proved has its dark timer set as the aspect becomes RED, and every dark timer is discarded, ROAD_SIDE_DARK ending, as it
leaves RED. Whenever red proved is formed of the lamps: a gain discards the dark timer and ends ROAD_SIDE_DARK, a loss under RED sets the
timer, and either change is handed to the barriers. The model's choices: AUDIBLE_FAIL that is present already is not reported again (log entry 11); the intervals judged as RED
begins, by rising index, the flags formed after them (log entries 14, 43); interval_ok no while no interval is open (log
entry 44).
A new sound makes sound_since now. A result of an audible entry that starts while the sound is on counts: two unproved
running make AUDIBLE_FAIL active, and one that proves ends it (R62, R89, R90, R94, R97, R98, R99, R102, R113). -/
def Obligations.AspectAndSoundAreTaken : Prop :=
  (∀ (s : State) (a : Aspect),
    let u := changeAspect a s
    let half := s.tm.tables.params.flashPeriod / 2
    let table (i : Fin 12) := s.tm.tables.lamp[i]
    let mode (i : Fin 12) : LampMode :=
      if (table i).inService = true ∧ a = .red ∧ (table i).colour = .red then .flash
      else if (table i).inService = true ∧ a = .amber ∧ (table i).colour = .amber then .steady
      else .dark
    u.lamp.aspect = a ∧ u.lamp.sound = s.lamp.sound ∧
    (∀ i : Fin 12, u.lamp.lamps[i].mode = mode i ∧
      (mode i ≠ s.lamp.lamps[i].mode → u.lamp.lamps[i].modeSince = s.now ∧
        (mode i = .dark → u.lamp.lamps[i].proved = false ∧ u.lamp.lamps[i].intervalStart = none) ∧
        (mode i ≠ .dark → u.lamp.lamps[i].stuckOn = false) ∧
        (mode i = .flash → (table i).phase = .b → u.lamp.lamps[i].intervalStart = none)) ∧
      (mode i = s.lamp.lamps[i].mode → u.lamp.lamps[i].modeSince = s.lamp.lamps[i].modeSince) ∧
      (mode i = .flash → (table i).phase = .a → u.lamp.lamps[i].intervalStart = some s.now ∧
        u.lamp.lamps[i].intervalEnd = some (after s.now half) ∧ u.lamp.lamps[i].intervalOk = false)) ∧
    (a = .red → u.lamp.phase = some .a ∧ u.lamp.phaseEnd = some (after s.now half)) ∧
    (a ≠ .red → u.lamp.phase = none ∧ u.lamp.phaseEnd = none) ∧
    (∀ side : Side, (u.lamp.redProved.get side = true ↔ ∃ i : Fin 12, (table i).inService = true ∧
      (table i).colour = .red ∧ (table i).roadSide = side ∧ u.lamp.lamps[i].proved = true) ∧
      (a = .red → u.lamp.redProved.get side = false → u.lamp.darkEnd.get side = some (after s.now (4 * half))) ∧
      (a ≠ .red → s.lamp.aspect = .red → u.lamp.darkEnd.get side = none)) ∧
    (a ≠ .red → s.lamp.aspect = .red → u.faults =
      (conditionEnd .roadSideDark (some 1) (conditionEnd .roadSideDark (some 0) (forEach 12 (fun i v =>
        if mode i ≠ .dark ∧ mode i ≠ s.lamp.lamps[i].mode then conditionEnd .lampStuckOn (some i.val) v else v)
        s))).faults) ∧
    let formed := formBothRed (forEach 12 (fun i v => setMode i (mode i) v) { s with
      lamp := { s.lamp with aspect := a } })
    let dark (side : Side) : Option Time :=
      if formed.lamp.redProved.get side then formed.lamp.darkEnd.get side else some (after s.now (4 * half))
    (a = .red → u = formBothRed (forEach 12 (openLit .a) { formed with lamp := { formed.lamp with
      darkEnd := ⟨dark .north, dark .south⟩, phase := some .a, phaseEnd := some (after s.now half) } })) ∧
    (a ≠ .red → s.lamp.aspect ≠ .red →
      u = { formed with lamp := { formed.lamp with phase := none, phaseEnd := none } }) ∧
    (a ≠ .red → s.lamp.aspect = .red →
      u = conditionEnd .roadSideDark (some 1) (conditionEnd .roadSideDark (some 0) { formed with
        lamp := { formed.lamp with phase := none, phaseEnd := none, darkEnd := ⟨none, none⟩ } }))) ∧
  (∀ (s : State) (i : Fin 12) (m : LampMode),
    let r := s.lamp.lamps[i]
    let changed : LampRecord := { r with
      mode := m, modeSince := s.now, intervalStart := none, intervalEnd := none, intervalOk := false }
    let sets (r' : LampRecord) : State := { s with lamp := { s.lamp with lamps := s.lamp.lamps.set i r' } }
    (m = r.mode → setMode i m s = s) ∧
    (m ≠ r.mode → m = .dark → setMode i m s = sets { changed with proved := false }) ∧
    (m ≠ r.mode → m ≠ .dark →
      setMode i m s = conditionEnd .lampStuckOn (some i.val) (sets { changed with stuckOn := false }))) ∧
  (∀ (s : State) (side : Side) (k : Nat), k = (match side with | .north => 0 | .south => 1) →
    let lit := ∃ i : Fin 12, s.tm.tables.lamp[i].inService = true ∧ s.tm.tables.lamp[i].colour = .red ∧
      s.tm.tables.lamp[i].roadSide = side ∧ s.lamp.lamps[i].proved = true
    let forms (red : Bool) (darkEnd : PerSide (Option Time)) : State := { s with lamp := { s.lamp with
      redProved := s.lamp.redProved.set side red, darkEnd := darkEnd } }
    let timed := some (after s.now (4 * (s.tm.tables.params.flashPeriod / 2)))
    ((lit ↔ s.lamp.redProved.get side = true) → formRed side s = s) ∧
    (lit → s.lamp.redProved.get side = false → formRed side s = gateSide side true
      (conditionEnd .roadSideDark (some k) (forms true (s.lamp.darkEnd.set side none)))) ∧
    (¬ lit → s.lamp.redProved.get side = true → s.lamp.aspect = .red →
      formRed side s = gateSide side false (forms false (s.lamp.darkEnd.set side timed))) ∧
    (¬ lit → s.lamp.redProved.get side = true → s.lamp.aspect ≠ .red →
      formRed side s = gateSide side false (forms false s.lamp.darkEnd))) ∧
  (∀ s : State, formBothRed s = formRed .south (formRed .north s)) ∧
  (∀ s : State,
    let heard (u : State) : State := { u with lamp := { u.lamp with
      sound := s.crossing.sound, audible := u.lamp.audible.map fun x => { x with soundSince := s.now } } }
    (s.crossing.aspect = s.lamp.aspect → s.crossing.sound = s.lamp.sound → takeAspect s = s) ∧
    (s.crossing.aspect ≠ s.lamp.aspect → s.crossing.sound = s.lamp.sound →
      takeAspect s = changeAspect s.crossing.aspect s) ∧
    (s.crossing.aspect = s.lamp.aspect → s.crossing.sound ≠ s.lamp.sound → takeAspect s = heard s) ∧
    (s.crossing.aspect ≠ s.lamp.aspect → s.crossing.sound ≠ s.lamp.sound →
      takeAspect s = heard (changeAspect s.crossing.aspect s))) ∧
  ∀ (s : State) (i : Fin 2) (x : ScanResult),
    let n := s.lamp.audible[i].unproved
    let judged := s.lamp.sound = true ∧ reached x.startTime s.lamp.audible[i].soundSince = true
    let proves := x.cls = .inRange ∧ x.overrange = false
    let sets (k : Nat) : State := { s with lamp := { s.lamp with
      audible := s.lamp.audible.set i { s.lamp.audible[i] with unproved := k } } }
    (¬ judged → audibleResult i x s = s) ∧
    (judged → proves → audibleResult i x s = conditionEnd .audibleFail (some i.val) (sets 0)) ∧
    (judged → ¬ proves → n = 0 → audibleResult i x s = sets 1) ∧
    (judged → ¬ proves → n = 1 → audibleResult i x s = conditionPresent .audibleFail (some i.val) (sets 2)) ∧
    (judged → ¬ proves → 2 ≤ n → audibleResult i x s = sets 2)

/-- A result of its entry proves a lamp: a steady lamp by each result that starts while it is lit, a flashing lamp by
those inside its lit interval, judged at the first that starts at or after the interval's end, and with no lit interval open
it is judged by none; a lamp unproved twice
running makes LAMP_FAIL active and one proved ends it; a dark lamp is judged for stuck-on. A battery result sets
V_bat and the two battery faults, each on its own, and from a V_bat above 0 the duty (R91, R93 to R97, R136, R137). That
a fault that is present already is not reported again is the model's choice (log entry 11), and so are a result flagged OVERRANGE but classed LOW or IN_RANGE making LAMP_STUCK_ON active (log entry 38) and an
interval_ok of no after an interval is judged (log entry 44), and the order of the two battery faults (log entry 14). -/
def Obligations.LampAndBatteryResults : Prop :=
  (∀ (s : State) (i : Fin 12) (x : ScanResult),
    let r := s.lamp.lamps[i]
    let proves := x.cls = .inRange ∧ x.overrange = false
    let sets (r' : LampRecord) : State := { s with lamp := { s.lamp with lamps := s.lamp.lamps.set i r' } }
    let judged (ok : Prop) (r' : LampRecord) (u : State) : Prop :=
      (ok → u = formBothRed (conditionEnd .lampFail (some i.val) (sets { r' with proved := true, unproved := 0 }))) ∧
      (¬ ok → r.unproved = 0 → u = formBothRed (sets { r' with proved := false, unproved := 1 })) ∧
      (¬ ok → r.unproved = 1 → u = formBothRed (conditionPresent .lampFail (some i.val)
        (sets { r' with proved := false, unproved := 2 }))) ∧
      (¬ ok → r.unproved = 2 → u = formBothRed (sets { r' with proved := false, unproved := 2 }))
    (r.mode = .steady → reached x.startTime r.modeSince = true → judged proves r (lampResult i x s)) ∧
    (r.mode = .steady → reached x.startTime r.modeSince = false → lampResult i x s = s) ∧
    (∀ start stop, r.mode = .flash → r.intervalStart = some start → r.intervalEnd = some stop →
      (reached x.startTime stop = true →
        judged (r.intervalOk = true) { r with intervalStart := none, intervalEnd := none, intervalOk := false }
          (lampResult i x s)) ∧
      (reached x.startTime stop = false → proves → reached x.startTime start = true →
        reached stop x.endTime = true → lampResult i x s = formBothRed (sets { r with intervalOk := true })) ∧
      (reached x.startTime stop = false →
        ¬ (proves ∧ reached x.startTime start = true ∧ reached stop x.endTime = true) →
        lampResult i x s = formBothRed s)) ∧
    (r.mode = .flash → r.intervalStart = none ∨ r.intervalEnd = none → lampResult i x s = formBothRed s) ∧
    (r.mode = .dark → reached x.startTime r.modeSince = true →
      (x.cls = .high ∨ x.overrange = true → r.stuckOn = false → lampResult i x s =
        conditionPresent .lampStuckOn (some i.val) (sets { r with stuckOn := true })) ∧
      (x.cls ≠ .high → x.overrange = false → r.stuckOn = true → lampResult i x s =
        conditionEnd .lampStuckOn (some i.val) (sets { r with stuckOn := false })) ∧
      ((x.cls = .high ∨ x.overrange = true ↔ r.stuckOn = true) → lampResult i x s = s)) ∧
    (r.mode = .dark → reached x.startTime r.modeSince = false → lampResult i x s = s)) ∧
  ∀ (s : State) (x : ScanResult),
    let p := s.tm.tables.params
    let v := x.code * p.batterySpan / 4095
    let formed : State := { s with scan := { s.scan with vBat := some v } }
    let isLow (b : Bool) (u : State) : State := { u with scan := { u.scan with batteryLow := b } }
    let isCritical (b : Bool) (u : State) : State := { u with scan := { u.scan with batteryCritical := b } }
    (s.tm.valid = false ∨ x.overrange = true → batteryResult x s = s) ∧
    (s.tm.valid = true → x.overrange = false → ∀ low critical : State → State,
      (v < p.batteryLow → s.scan.batteryLow = false → low = fun u => conditionPresent .batteryLow none (isLow true u)) →
      (p.batteryLow + 200 < v → s.scan.batteryLow = true → low = fun u => conditionEnd .batteryLow none (isLow false u)) →
      (p.batteryLow ≤ v → v ≤ p.batteryLow + 200 → low = id) →
      (v < p.batteryLow → s.scan.batteryLow = true → low = id) →
      (p.batteryLow + 200 < v → s.scan.batteryLow = false → low = id) →
      (v < p.batteryCritical → s.scan.batteryCritical = false →
        critical = fun u => conditionPresent .batteryCritical none (isCritical true u)) →
      (p.batteryCritical + 200 < v → s.scan.batteryCritical = true →
        critical = fun u => conditionEnd .batteryCritical none (isCritical false u)) →
      (p.batteryCritical ≤ v → v ≤ p.batteryCritical + 200 → critical = id) →
      (v < p.batteryCritical → s.scan.batteryCritical = true → critical = id) →
      (p.batteryCritical + 200 < v → s.scan.batteryCritical = false → critical = id) →
      let judged := critical (low formed)
      (v = 0 → batteryResult x s = judged) ∧
      (0 < v → batteryResult x s =
        { judged with lamp := { s.lamp with duty := some (min 100 (p.lampBaseDuty * p.vNominal / v)) } }))

/-- The permit in CLOSED: closure demand, or an ARMED approach with a deadline inside R_open + min_open, discards the
open delay; else permit_lapse follows the earliest of those deadlines, and the open delay starts, or the crossing
opens at once with open_delay 0. An ALARM notice takes a crossing in automatic working to FAILED, red and
silent, its program abandoned, the entry barriers ordered down and the exit delay running; OPENING is entered with the
opening program started at step 1 and LONG_CLOSURE ended (R73, R74, R76, R77, R79). -/
def Obligations.PermitAndFailure : Prop :=
  (∀ (s : State) (figures : Derived), s.crossing.state = .closed → s.tm.derived = some figures →
    let look : Nat := figures.rOpen + s.tm.tables.params.minOpen
    let armed (i : Fin 4) (t : Time) : Prop := s.tm.tables.approach[i].inService = true ∧
      s.approaches[i].state = .armed ∧ s.approaches[i].deadline = some t
    let near := ∃ i t, armed i t ∧ (t - s.now).toInt < look
    let sets (c : CrossingRecord) : State := { s with crossing := c }
    (ClosureDemand s ∨ near →
      judgePermit s = sets { s.crossing with openDelayEnd := none, permitLapse := none }) ∧
    (¬ ClosureDemand s → ¬ near → ∀ lapse : Option Time,
      (∀ t, lapse = some t → ∃ i d, armed i d ∧ t = d - BitVec.ofNat 32 look ∧
        ∀ j d', armed j d' → (d' - d).toNat < 2 ^ 31) →
      (lapse = none → ∀ i d, ¬ armed i d) → (∀ i d, armed i d → (d - s.now).toNat < 2 ^ 31) →
      (∀ e, s.crossing.openDelayEnd = some e →
        judgePermit s = sets { s.crossing with permitLapse := lapse }) ∧
      (s.crossing.openDelayEnd = none → 0 < s.tm.tables.params.openDelay →
        judgePermit s = sets { s.crossing with
          permitLapse := lapse, openDelayEnd := some (after s.now s.tm.tables.params.openDelay) }) ∧
      (s.crossing.openDelayEnd = none → s.tm.tables.params.openDelay = 0 →
        judgePermit s = enterOpening s))) ∧
  (∀ s : State, s.handed.alarm = true →
    let taken : State := { s with handed := { s.handed with alarm := false } }
    (s.crossing.state = .failed ∨ s.crossing.state = .outOfUse → takeAlarm s = taken) ∧
    (s.crossing.state ≠ .failed → s.crossing.state ≠ .outOfUse → takeAlarm s = enterFailed taken)) ∧
  ∀ s : State,
    let delay := s.tm.tables.params.exitDelayFailed
    let failed (exitDelayEnd : Option Time) : State := { s with crossing := { s.crossing with
      state := .failed, program := .none, step := none, stepWait := .none, waitEnd := none,
      openDelayEnd := none, permitLapse := none, closedSince := none, longReported := false, aspect := .red,
      sound := false, exitDelayEnd := exitDelayEnd } }
    (0 < delay → enterFailed s = orderRole .entry .down (failed (some (after s.now delay)))) ∧
    (delay = 0 → enterFailed s = orderRole .exit .down (orderRole .entry .down (failed none))) ∧
    enterOpening s = runOpening 1 { conditionEnd .longClosure none s with crossing := { s.crossing with
      state := .opening, program := .opening, step := none, stepWait := .none, waitEnd := none,
      openDelayEnd := none, permitLapse := none, closedSince := none, longReported := false } }

/-- The steps of a program. A step is entered with step_wait NONE; AMBER, RED, DARK, SOUND_ON, SOUND_OFF and the RAISE
steps have their effect and pass to the next; a LOWER step orders its barriers down and passes where every road side they
face has red proved, else it waits for it; WAIT n waits n × 100 ms; WAIT_DOWN and WAIT_UP pass where every in-service
barrier is proved there, else they wait; END and the end of the table end the program. The end of the closing program
makes the crossing CLOSED with the permit judged, that of the opening program makes it OPEN, DARK and silent. CLOSING
starts at step 1 with closed_since now; re-entry starts at the first LOWER step with the aspect RED at once, and the sound
on where a SOUND_ON step stands before it (R63, R65, R66, R67, R70, R71, R72, R75, R79). -/
def Obligations.ProgramStepsRun : Prop :=
  (∀ (n : Nat) (k : ProgramStep) (rest : List ProgramStep) (s : State),
    let c : CrossingRecord := { s.crossing with step := some n, stepWait := .none, waitEnd := none }
    let t : State := { s with crossing := c }
    let passes (u : State) : Prop := runSteps n (k :: rest) s = runSteps (n + 1) rest u
    let waits (w : StepWait) (u : State) : Prop :=
      runSteps n (k :: rest) s = ({ u with crossing := { u.crossing with stepWait := w } }, false)
    let red (role : BarrierRole) : Prop := ∀ i : Fin 4, s.tm.tables.barrier[i].inService = true →
      s.tm.tables.barrier[i].role = role → s.lamp.redProved.get s.tm.tables.barrier[i].roadSide = true
    let lowers (role : BarrierRole) : Prop :=
      (red role → passes (orderRole role .down t)) ∧ (¬ red role → waits .redProved (orderRole role .down t))
    (runSteps n [] s = (s, true)) ∧
    (k.kind = .finish → runSteps n (k :: rest) s = (s, true)) ∧
    (k.kind = .amber → passes { s with crossing := { c with aspect := .amber } }) ∧
    (k.kind = .red → passes { s with crossing := { c with aspect := .red } }) ∧
    (k.kind = .dark → passes { s with crossing := { c with aspect := .dark } }) ∧
    (k.kind = .soundOn → passes { s with crossing := { c with sound := true } }) ∧
    (k.kind = .soundOff → passes { s with crossing := { c with sound := false } }) ∧
    (k.kind = .lowerEntry → lowers .entry) ∧ (k.kind = .lowerExit → lowers .exit) ∧
    (k.kind = .raiseEntry → passes (orderRole .entry .up t)) ∧
    (k.kind = .raiseExit → passes (orderRole .exit .up t)) ∧
    (k.kind = .wait → waits .time { s with crossing := { c with waitEnd := some (after s.now (k.count * 100)) } }) ∧
    (k.kind = .waitDown → (AllProved .down s → passes t) ∧ (¬ AllProved .down s → waits .allDown t)) ∧
    (k.kind = .waitUp → (AllProved .up s → passes t) ∧ (¬ AllProved .up s → waits .allUp t))) ∧
  (∀ (n : Nat) (s u : State),
    let ended (c : CrossingRecord) : CrossingRecord :=
      { c with program := .none, step := none, stepWait := .none, waitEnd := none }
    let closes := runSteps n (s.tm.tables.closing.toList.drop (n - 1)) s
    let opens := runSteps n (s.tm.tables.opening.toList.drop (n - 1)) s
    (closes = (u, false) → runClosing n s = u) ∧
    (closes = (u, true) → runClosing n s = judgePermit { u with crossing := { ended u.crossing with
      state := .closed, openDelayEnd := none, permitLapse := none } }) ∧
    (opens = (u, false) → runOpening n s = u) ∧
    (opens = (u, true) → runOpening n s = { u with crossing := { ended u.crossing with
      state := .isOpen, aspect := .dark, sound := false } })) ∧
  ∀ (s : State) (m : Nat),
    let run := s.tm.tables.closing.toList.takeWhile fun k => decide (k.kind ≠ .finish)
    let lowering (k : ProgramStep) : Prop := k.kind = .lowerEntry ∨ k.kind = .lowerExit
    let closing : CrossingRecord := { s.crossing with
      state := .closing, program := .closing, step := none, stepWait := .none, waitEnd := none,
      openDelayEnd := none, permitLapse := none, exitDelayEnd := none, closedSince := some s.now,
      longReported := false }
    enterClosing s = runClosing 1 { s with crossing := closing } ∧
    ((∃ k, run[m]? = some k ∧ lowering k) → (∀ j k, j < m → run[j]? = some k → ¬ lowering k) →
      reenterClosing s = runClosing (m + 1) { s with crossing := { closing with
        aspect := .red, sound := s.crossing.sound || (run.take m).any fun k => k.kind == .soundOn } })

/-- The Sequencer takes what has been handed on: in OPEN closure demand makes the crossing CLOSING, in OPENING it
re-enters CLOSING, in CLOSED a change of it, or of a deadline, has the permit judged; in CLOSING and OPENING a wait that
holds moves the program on; FAILED and OUT_OF_USE stay; an ALARM notice comes first. The proved indication is then
formed. It takes so after the wheel event and again after the section change report that the wheel causes, each an event
of the Approach Timer. At the end of every event the crossing takes what is left, then the Proving Scanner its rate and the
Report Unit the content, a second time for the flags that a status leaving at once has cleared (R57, R59, R61, R66, R67,
R71, R73, R75, R76, R78, R85; the order of the end of an event is the model's, log entries 12, 13). -/
def Obligations.SequencerTakesWhatIsHandedOn : Prop :=
  (∀ before s : State,
    let turn (u : State) : Prop := sequencerTurn before s = u
    let red (role : BarrierRole) : Prop := ∀ i : Fin 4, s.tm.tables.barrier[i].inService = true →
      s.tm.tables.barrier[i].role = role → s.lamp.redProved.get s.tm.tables.barrier[i].roadSide = true
    let steps := match s.crossing.program with
      | .closing => s.tm.tables.closing.toList
      | .opening => s.tm.tables.opening.toList
      | .none => []
    let holds : Prop := (s.crossing.stepWait = .allDown ∧ AllProved .down s) ∨
      (s.crossing.stepWait = .allUp ∧ AllProved .up s) ∨
      (s.crossing.stepWait = .redProved ∧ ∃ n k, s.crossing.step = some n ∧ steps[n - 1]? = some k ∧
        ((k.kind = .lowerEntry ∧ red .entry) ∨ (k.kind = .lowerExit ∧ red .exit)))
    let moved : State := { s with crossing := { s.crossing with stepWait := .none, waitEnd := none } }
    let deadlines (u : State) : List (Option Time × Option Nat) :=
      u.approaches.toList.map fun a => (a.deadline, a.deadlineHead)
    (s.handed.alarm = true → turn (takeAlarm s)) ∧
    (s.handed.alarm = false →
      (s.crossing.state = .isOpen → ClosureDemand s → turn (enterClosing s)) ∧
      (s.crossing.state = .isOpen → ¬ ClosureDemand s → turn s) ∧
      (s.crossing.state = .opening → ClosureDemand s → turn (reenterClosing s)) ∧
      (s.crossing.state = .opening → ¬ ClosureDemand s → ¬ holds → turn s) ∧
      (∀ n, s.crossing.state = .opening → ¬ ClosureDemand s → holds → s.crossing.program = .opening →
        s.crossing.step = some n → turn (runOpening (n + 1) moved)) ∧
      (s.crossing.state = .closing → ¬ holds → turn s) ∧
      (∀ n, s.crossing.state = .closing → holds → s.crossing.program = .closing → s.crossing.step = some n →
        turn (runClosing (n + 1) moved)) ∧
      (s.crossing.state = .closed → ¬ (ClosureDemand s ↔ ClosureDemand before) ∨ deadlines s ≠ deadlines before →
        turn (judgePermit s)) ∧
      (s.crossing.state = .closed → (ClosureDemand s ↔ ClosureDemand before) → deadlines s = deadlines before →
        turn s) ∧
      (s.crossing.state = .failed ∨ s.crossing.state = .outOfUse → turn s))) ∧
  (∀ before s u : State, takeAspect (sequencerTurn before s) = u → ∀ proved : Bool,
    (proved = true ↔ u.crossing.state = .closed ∧ AllProved .down u ∧ u.lamp.redProved.north = true ∧
      u.lamp.redProved.south = true) →
    crossingTurn before s = { u with crossing := { u.crossing with proved := proved } }) ∧
  (∀ (w : WheelEvent) (s : State),
    wheelToApproach w s = crossingTurn s (approachWheel w { s with handed := { s.handed with wheel := true } }) ∧
    ordinaryWheel w s = sectionWheel w (wheelToApproach w s)) ∧
  ∀ before s : State, finish before s = reportTurn (reportTurn (scannerTurn before (crossingTurn before s)))

/-- What the table-valid flag does to the blocks. Cleared: the head records are UNSEEN, every lamp is DARK, unproved and
not stuck on, the audible counts 0, no side has red proved, a lamp test ends done-fail, the battery faults are absent,
no status is due and the link is not supervised; the conditions that these blocks report have ended, and no other record
has changed. Set by a validation: the figures are adopted and TABLE_INVALID ends; where the flag was clear, a status is
then produced at once, the head records start afresh, the sections are set up, the duty is lamp_base_duty and the link is
supervised; where it was set, the blocks keep their records. The part answers to the own_address of the last validation
while the flag is set, to the service address 254 while it is clear, and to none while loading (R3, R20, R92, R101, R103, R138, R153, R155, R163, R178,
R182). That last_seen becomes now also as the flag is cleared, and that the status comes after the end of
TABLE_INVALID and before the setting up, is the model's choice (log entries 26, 12). -/
def Obligations.FlagChangesReachTheBlocks : Prop :=
  (∀ s : State,
    let u := clearValid s
    let unseen : HeadRecord := { state := .unseen, lastCount := none, lastSeen := s.now, wasFaulty := false }
    let reported (r : FaultRecord) : Prop :=
      ((r.code = .headLost ∨ r.code = .headFault) ∧ ∃ k, r.subject = some k ∧ k < 16) ∨
      ((r.code = .lampFail ∨ r.code = .lampStuckOn) ∧ ∃ k, r.subject = some k ∧ k < 12) ∨
      (r.code = .audibleFail ∧ ∃ k, r.subject = some k ∧ k < 2) ∨
      ((r.code = .batteryLow ∨ r.code = .batteryCritical ∨ r.code = .signallerLinkLost) ∧ r.subject = none)
    (s.loading = true → answeringAddress s = none) ∧
    (s.loading = false → s.tm.valid = false → answeringAddress s = some 254) ∧
    (s.loading = false → s.tm.valid = true → answeringAddress s = some s.tm.ownValidated) ∧
    (s.tm.valid = false → u = s) ∧
    (s.tm.valid = true →
      u.tm = { s.tm with valid := false } ∧ (∀ i : Fin 16, u.heads[i] = unseen) ∧
      (∀ i : Fin 12, u.lamp.lamps[i].mode = .dark ∧ u.lamp.lamps[i].proved = false ∧
        u.lamp.lamps[i].unproved = 0 ∧ u.lamp.lamps[i].intervalStart = none ∧ u.lamp.lamps[i].stuckOn = false) ∧
      (∀ i : Fin 2, u.lamp.audible[i] = { s.lamp.audible[i] with unproved := 0 }) ∧
      u.lamp.redProved.north = false ∧ u.lamp.redProved.south = false ∧
      (s.lamp.test.run = .running → u.lamp.test.run = .doneFail ∧ u.lamp.test.lamp = none) ∧
      (s.lamp.test.run ≠ .running → u.lamp.test = s.lamp.test) ∧
      u.scan = { s.scan with batteryLow := false, batteryCritical := false } ∧
      u.report = { s.report with statusDue := none, linkEnd := none } ∧
      (∀ r, ¬ reported r → (r ∈ u.faults.records ↔ r ∈ s.faults.records)) ∧
      (FaultBounds s.faults → ∀ r ∈ u.faults.records, reported r → r.state = .latched))) ∧
  ∀ (d : Derived) (s : State),
    let passed : State := conditionEnd .tableInvalid none { s with tm := { s.tm with
      valid := true, derived := some d, ownValidated := s.tm.tables.params.ownAddress } }
    (s.tm.valid = true → validationPassed d s = passed) ∧
    (s.tm.valid = false →
      let told := produceStatus passed
      let unseen : HeadRecord := { state := .unseen, lastCount := none, lastSeen := s.now, wasFaulty := false }
      let setUp := setUpSections { told with heads := Vector.replicate 16 unseen }
      validationPassed d s = { setUp with
        lamp := { setUp.lamp with duty := some s.tm.tables.params.lampBaseDuty }
        report := { setUp.report with linkEnd := some (after s.now s.tm.tables.params.signallerTimeout) } })

/-- The stages of a calibration. A contact ends the movement toward it, with its travel time taken from the drive start,
and the reading stage that follows has the drive off and the barrier IDLE with target NONE; a movement has rated_duty
toward its end from its first moment, a limit of 30,000 ms, and ends BARRIER_STALL (that its record shows RUN is the
model's choice, log entry 10). Of the angle results that start after the stage before ended, four give the code of an
end, the floor of their mean, and one flagged OVERRANGE fails with SPAN; one that starts earlier is not looked at, flagged
or not (the model's choice, log entry 18). The next movement begins, or, with its contact closed already, the barrier
fails with TRAVEL; a trip during a movement fails with CURRENT; and the judgement of stage 5 writes the five figures of a
passing barrier and clears the table-valid flag. A failing barrier stops, CALIBRATION_FAILED is entered with its reason as
detail, and the next is taken: it drives up, or reads at once where its up contact is closed, its disagreement timer
discarded (that a disagreement whose timer is discarded may begin anew is the model's choice, log entry 23, and so are BARRIER_OVERCURRENT before CALIBRATION_FAILED, log entry 14, and a contact that
is an edge, log entry 21); with none left
the run ends, done-pass when every barrier passed, else done-fail (R110, R124, R125). -/
def Obligations.CalibrationStages : Prop :=
  (∀ (s : State) (c : CalBarrier), s.cal.current = some c →
    let i := c.barrier
    let still : BarrierRecord := { s.barriers[i] with
      target := none, phase := .idle, drive := .off, phaseEnd := none, moveStart := none, runOrigin := none,
      runStart := none, openLoopOnly := false, retries := 0, travelEnd := none, settleFrom := none,
      underway := false }
    let stageIs (c' : CalBarrier) (r : BarrierRecord) : State := { s with
      cal := { s.cal with current := some c' }, barriers := s.barriers.set i r }
    let reads (c' : CalBarrier) (stage : CalStage) : State := stageIs { c' with
      stage := stage, since := s.now, driveStart := none, limit := none, codes := [] } still
    let moves (c' : CalBarrier) (stage : CalStage) (d : BarrierEnd) : State :=
      conditionEnd .barrierStall (some i.val) (stageIs { c' with
        stage := stage, since := s.now, driveStart := some s.now, limit := some (after s.now 30000), codes := [] }
        { still with target := some d, phase := .run, drive := .on d s.tm.tables.barrier[i].ratedDuty })
    let driven (t0 : Time) : Nat := (s.now - t0).toNat
    (c.stage = .seekUp → calibrationContact i .up s = reads c .readUp) ∧
    (∀ t0, c.stage = .lower → c.driveStart = some t0 →
      calibrationContact i .down s = reads { c with travelDown := driven t0 } .readDown) ∧
    (∀ t0, c.stage = .raise → c.driveStart = some t0 →
      let up := driven t0
      let stopped := stopBarrier i s
      let fits (t : Nat) : Prop := 2000 ≤ t ∧ t ≤ 20000
      (c.upCode < c.downCode + 400 → calibrationContact i .up s = failBarrier c .span stopped) ∧
      (c.downCode + 400 ≤ c.upCode → ¬ (fits c.travelDown ∧ fits up) →
        calibrationContact i .up s = failBarrier c .travel stopped) ∧
      (c.downCode + 400 ≤ c.upCode → fits c.travelDown → fits up →
        calibrationContact i .up s = nextBarrier (stopBarrier i (clearValid { stopped with
          tm := { s.tm with tables := { s.tm.tables with
            barrier := s.tm.tables.barrier.set i { s.tm.tables.barrier[i] with
              upCode := c.upCode, downCode := c.downCode, travelDown := c.travelDown, travelUp := up,
              peakCurrent := c.peakCurrent } } } })))) ∧
    (∀ x : ScanResult, reached x.startTime c.since = false → calibrationAngle i x s = s) ∧
    (∀ x : ScanResult, reached x.startTime c.since = true → c.stage = .readUp ∨ c.stage = .readDown →
      let mean := (c.codes ++ [x.code]).sum / 4
      (x.overrange = true → calibrationAngle i x s = failBarrier c .span s) ∧
      (x.overrange = false → c.codes.length < 3 → calibrationAngle i x s =
        { s with cal := { s.cal with current := some { c with codes := c.codes ++ [x.code] } } }) ∧
      (x.overrange = false → 3 ≤ c.codes.length → c.stage = .readUp →
        (s.contacts[i].down = false →
          calibrationAngle i x s = moves { c with upCode := mean } .lower .down) ∧
        (s.contacts[i].down = true →
          calibrationAngle i x s = failBarrier { c with upCode := mean } .travel s)) ∧
      (x.overrange = false → 3 ≤ c.codes.length → c.stage = .readDown →
        (s.contacts[i].up = false →
          calibrationAngle i x s = moves { c with downCode := mean } .raise .up) ∧
        (s.contacts[i].up = true →
          calibrationAngle i x s = failBarrier { c with downCode := mean } .travel s))) ∧
    ∀ (x : ScanResult) (t0 : Time), c.driveStart = some t0 →
      (x.cls = .high ∨ x.overrange = true → calibrationCurrent i x s = failBarrier c .current
        (eventEntered .barrierOvercurrent (some i.val) none (stopBarrier i s))) ∧
      (x.cls ≠ .high → x.overrange = false → c.stage = .lower → calibrationCurrent i x s =
        { s with cal := { s.cal with current := some { c with peakCurrent := max c.peakCurrent x.code } } })) ∧
  ∀ s : State,
    let stopped (r : BarrierRecord) : BarrierRecord := { r with
      target := none, phase := .idle, drive := .off, phaseEnd := none, moveStart := none, runOrigin := none,
      runStart := none, openLoopOnly := false, retries := 0, travelEnd := none, settleFrom := none,
      underway := false }
    (∀ (c : CalBarrier) (reason : CalReason),
      let failed := eventEntered .calibrationFailed (some c.barrier.val) (some reason)
        { s with barriers := s.barriers.set c.barrier (stopped s.barriers[c.barrier]) }
      failBarrier c reason s =
        nextBarrier { failed with cal := { s.cal with allPassed := false, current := none } }) ∧
    (s.cal.remaining = [] → nextBarrier s = { s with cal := { s.cal with
      run := if s.cal.allPassed then .donePass else .doneFail, current := none, allPassed := true } }) ∧
    ∀ (i : Fin 4) (rest : List (Fin 4)), s.cal.remaining = i :: rest →
      let r := s.barriers[i]
      let still : BarrierRecord := { stopped r with
        disagreeEnd := none, disagreeing := r.disagreeing && r.disagreeEnd.isNone }
      let begun (stage : CalStage) (driveStart limit : Option Time) : CalBarrier :=
        { barrier := i, stage := stage, since := s.now, driveStart := driveStart, limit := limit, codes := [],
          upCode := 0, downCode := 0, travelDown := 0, peakCurrent := 0 }
      let takes (c : CalBarrier) (r' : BarrierRecord) : State := { s with
        cal := { s.cal with current := some c, remaining := rest }, barriers := s.barriers.set i r' }
      (s.contacts[i].up = true → nextBarrier s = takes (begun .readUp none none) still) ∧
      (s.contacts[i].up = false → nextBarrier s = conditionEnd .barrierStall (some i.val)
        (takes (begun .seekUp (some s.now) (some (after s.now 30000)))
          { still with target := some .up, phase := .run, drive := .on .up s.tm.tables.barrier[i].ratedDuty }))

/-- The end of every event (but for the four lines): what the blocks handed one another has been taken; the Lamp
Controller holds the Sequencer's aspect and sound; the crossing is proved exactly when it is CLOSED with every
in-service barrier proved down and red proved on both sides; and quiet_end runs only while
the crossing is calm (R62, R78, R85, R134). -/
def Obligations.EveryEventEndsSettled : Prop :=
  ∀ (c : Instr) (s u : State), Running s → c.elapsed ≠ none → exec c s = .next u →
    u.handed = { alarm := false, status := false, wheel := false } ∧
    u.lamp.aspect = u.crossing.aspect ∧ u.lamp.sound = u.crossing.sound ∧
    (u.crossing.proved = true ↔ u.crossing.state = .closed ∧ AllProved .down u ∧
      u.lamp.redProved.north = true ∧ u.lamp.redProved.south = true) ∧
    (u.scan.quietEnd ≠ none → u.crossing.state = .isOpen ∧
      ∀ i : Fin 4, u.tm.tables.approach[i].inService = true → u.approaches[i].state = .idle)

/-- A status is produced: the content as it stands is sent to the lowest-indexed in-service SIGNALLER entry, replaces
one that waits, clears fresh and late_discard and sets status_due. The content gives the crossing state, the approaches and
sections, the highest class of a fault that is present, the three counts, the flags, the run states, the banks and V_bat as
they stand; and its 25 bytes are laid out as 11.4 gives (R21, R30, R151,
R152, R153, R167, R168, R170). The Report Unit produces one where the tables are valid and it was asked for or the content
differs otherwise than in V_bat (R153); that it looks once for all changes of an event, at its end, is the model's choice
(log entry 12). -/
def Obligations.StatusIsProduced : Prop :=
  (∀ (s : State) (i : Fin 4),
    s.tm.tables.node[i].inService = true → s.tm.tables.node[i].role = .signaller →
    (∀ j : Fin 4, j < i → ¬ (s.tm.tables.node[j].inService = true ∧ s.tm.tables.node[j].role = .signaller)) →
    let c := statusContent s
    let p := s.tm.tables.params
    produceStatus s = placeStatus p.signallerPort
      (.status (frameOf s.tm.tables.node[i].address (sourceAddress s) 5 c.bytes) c.newFault c.overflow)
      { s with
        report := { s.report with
          fresh := false, lastStatus := some c, statusDue := some (after s.now p.statusPeriod) }
        lnu := { s.lnu with lateDiscard := false } }) ∧
  (∀ s : State, (∀ i : Fin 4, ¬ (s.tm.tables.node[i].inService = true ∧
    s.tm.tables.node[i].role = .signaller)) → produceStatus s = s) ∧
  (∀ s : State,
    let asked : State := { s with handed := { s.handed with status := false } }
    let changed := ∀ last, s.report.lastStatus = some last →
      { statusContent s with vBat := last.vBat } ≠ last
    (s.tm.valid = true → s.handed.status = true ∨ changed → reportTurn s = produceStatus asked) ∧
    (s.tm.valid = false ∨ (s.handed.status = false ∧ ¬ changed) → reportTurn s = asked)) ∧
  (∀ s : State, (∀ a, answeringAddress s = some a → sourceAddress s = a) ∧
    let c := statusContent s
    let ts := s.tm.tables
    let rs := s.faults.records
    let number (state : RecordState) : Nat := (rs.filter fun r => decide (r.state = state)).length
    let present (cls : FaultClass) : Prop := ∃ r ∈ rs, r.state ≠ .latched ∧ r.code.cls = cls
    c.crossing = s.crossing.state ∧ c.proved = s.crossing.proved ∧ c.closureRequest = s.crossing.closureRequest ∧
    (∀ i : Fin 4, (ts.approach[i].inService = true → c.approaches[i] = some s.approaches[i].state) ∧
      (ts.approach[i].inService = false → c.approaches[i] = none)) ∧
    (∀ i : Fin 8,
      let shows (x : SectionStatus) : Prop := c.sections[i] = x
      (ts.sectionTable[i].inService = false → shows .outOfService) ∧
      (ts.sectionTable[i].inService = true →
        (s.sections[i].state = .clear → shows .clear) ∧ (s.sections[i].state = .occupied → shows .occupied) ∧
        (s.sections[i].state = .disturbed → shows .disturbed) ∧
        (s.sections[i].state = .restoring → s.sections[i].count = some 0 → shows .restoringZero) ∧
        (s.sections[i].state = .restoring → s.sections[i].count ≠ some 0 → shows .restoringAbove))) ∧
    ((present .alarm → c.highest = .alarm) ∧
      (¬ present .alarm → present .degraded → c.highest = .degraded) ∧
      (¬ present .alarm → ¬ present .degraded → present .notice → c.highest = .notice) ∧
      (¬ present .alarm → ¬ present .degraded → ¬ present .notice → c.highest = .none)) ∧
    c.activeCount = number .active ∧ c.latchedCount = number .latched ∧ c.acceptedCount = number .acceptedActive ∧
    c.newFault = s.report.newFault ∧ c.dropped = s.faults.dropped ∧ c.overflow = s.lnu.overflow ∧
    c.calibration = s.cal.run ∧ c.lampTest = s.lamp.test.run ∧ c.saveRun = s.tm.saveRun ∧
    c.bank0 = s.report.bank0.state ∧ c.bank1 = s.report.bank1.state ∧ c.vBat = s.scan.vBat) ∧
  ∀ c : StatusContent, c.bytes.length = 25 ∧
    ((c.bytes.getD 1 0).getLsbD 0 = c.proved ∧ (c.bytes.getD 1 0).getLsbD 1 = c.closureRequest ∧
      (c.bytes.getD 1 0).getLsbD 2 = c.newFault ∧ (c.bytes.getD 1 0).getLsbD 3 = c.dropped ∧
      (c.bytes.getD 1 0).getLsbD 4 = c.overflow) ∧
    c.bytes.getD 0 0 = c.crossing.code ∧ c.bytes.getD 2 0 = c.highest.code ∧
    (∀ i : Fin 4, c.bytes.getD (3 + i.val) 0 = match c.approaches[i] with
      | some a => a.code
      | none => 255) ∧
    (∀ i : Fin 8, c.bytes.getD (7 + i.val) 0 = c.sections[i].code) ∧
    ((c.bytes.getD 15 0).toNat = c.activeCount % 256 ∧ (c.bytes.getD 16 0).toNat = c.latchedCount % 256 ∧
      (c.bytes.getD 17 0).toNat = c.acceptedCount % 256) ∧
    (c.bytes.getD 18 0 = c.calibration.code ∧ c.bytes.getD 19 0 = c.lampTest.code ∧
      c.bytes.getD 20 0 = c.saveRun.code ∧ c.bytes.getD 21 0 = c.bank0.code ∧ c.bytes.getD 22 0 = c.bank1.code) ∧
    (∀ v, c.vBat = some v → v < 65536 → read16 c.bytes 23 = v) ∧
    (c.vBat = none → read16 c.bytes 23 = 65535)

/-! ## Frames -/

/-- What every event leaves unchanged, but for the four of the lines, which ColdStartsAndStops writes out: every part of
State outside the command's own list, `touches`, and outside what the end of any event may move, `eventEnd`, stays as
it was, unless a cold start comes of it. A telegram moves no table, no contact, no calibration and no measurement; a timer
of the crossing, a lamp or a barrier no head, no section and no approach; a contact moves these only through the
table write of a passing calibration; a command of the loop moves its own block (R3, R4, R28, R53, R62, R80, R125, R139,
R149, R162, R177, R178). -/
def Obligations.EveryEventKeepsTheRest : Prop :=
  ∀ (c : Instr) (s u : State), c.elapsed ≠ none → beginsCold c s = false → exec c s = .next u →
    Frame (touches c ++ eventEnd) s u

/-! ## Encodings of the tables -/

/-- What TABLE_WRITE stores of the bytes of one entry, and a cold start of those of the image: every ranged field its value,
clamped to its range; every coded field the value of its code, or its first listed value (halt_side: clear) for a code that
names none; every reference as written; boundaries and timing heads up to the clamped number; END for a kind that names
none, and 0 for the count of any kind but WAIT (no clamping: the model's choice, log entry 8); overdrive_duty clamped to
its range, then to clamp_duty; the nearest gain; a mask forced clear for a code of class ALARM. An entry is CLAMPED exactly
where a value is not stored as written. The field order is that of 11.6, most significant byte first (R16, R33, R64, R87,
R105, R128, R148, R173, R175, R177). -/
def Obligations.EntriesAreStoredClamped : Prop :=
  ∀ (ts : Tables) (b : List Byte),
    let u8 (n : Nat) : Nat := (b.getD n 0).toNat
    let u16 (n : Nat) : Nat := u8 n * 256 + u8 (n + 1)
    let u32 (n : Nat) : Nat := u16 n * 65536 + u16 (n + 2)
    let within (lo hi n : Nat) : Nat := max lo (min hi n)
    let fits (lo hi n : Nat) : Prop := lo ≤ n ∧ n ≤ hi
    let side (n : Nat) : Side := if n = 0 then .north else .south
    let stores (t : TableId) (i : Nat) (stored : Tables) (kept : Prop) : Prop :=
      (storeEntry t i b ts).value = stored ∧ ((storeEntry t i b ts).clamped = false ↔ kept)
    (∀ i : Fin 4, stores .node i { ts with node := (ts.node.set i
      { inService := u8 0 == 1, address := within 1 253 (u8 1)
        role := if u8 2 = 1 then .maintenance else .signaller }) }
      (u8 0 ≤ 1 ∧ fits 1 253 (u8 1) ∧ u8 2 ≤ 1)) ∧
    (stores .params 0 { ts with params := (
      { headTimeout := within 1000 10000 (u16 0), groupGap := within 2000 10000 (u16 2)
        flashPeriod := within 800 1500 (u16 4), lampBaseDuty := within 50 100 (u8 6)
        vNominal := within 10000 30000 (u16 7), batteryLow := within 5000 30000 (u16 9)
        batteryCritical := within 5000 30000 (u16 11), batteryEntry := u8 13
        batterySpan := within 1000 65000 (u16 14), audibleEntry0 := u8 16, audibleEntry1 := u8 17
        openDelay := within 0 10000 (u16 18), minOpen := within 0 30000 (u16 20)
        longClosure := within 60000 1200000 (u32 22), exitDelayFailed := within 0 20000 (u16 26)
        statusPeriod := within 1000 10000 (u16 28), signallerTimeout := within 2000 60000 (u16 30)
        scanStrobe := within 1 20 (u8 32), quietDivisor := within 1 16 (u8 33)
        quietAfter := within 10000 600000 (u32 34), ownAddress := within 1 253 (u8 38)
        signallerPort := if u8 39 = 1 then .b else .a }) }
      (fits 1000 10000 (u16 0) ∧ fits 2000 10000 (u16 2) ∧ fits 800 1500 (u16 4) ∧ fits 50 100 (u8 6) ∧
        fits 10000 30000 (u16 7) ∧ fits 5000 30000 (u16 9) ∧ fits 5000 30000 (u16 11) ∧ fits 1000 65000 (u16 14) ∧
        u16 18 ≤ 10000 ∧ u16 20 ≤ 30000 ∧ fits 60000 1200000 (u32 22) ∧ u16 26 ≤ 20000 ∧
        fits 1000 10000 (u16 28) ∧ fits 2000 60000 (u16 30) ∧ fits 1 20 (u8 32) ∧ fits 1 16 (u8 33) ∧
        fits 10000 600000 (u32 34) ∧ fits 1 253 (u8 38) ∧ u8 39 ≤ 1)) ∧
    (∀ i : Fin 16, stores .dpt i { ts with dpt := (ts.dpt.set i
      { inService := u8 0 == 1, address := within 1 253 (u8 1), track := within 1 2 (u8 2)
        role := if u8 3 = 1 then .timingOnly else .counting, spacing := within 80 300 (u16 4)
        towardSense := if u8 6 = 2 then .s2First else .s1First }) }
      (u8 0 ≤ 1 ∧ fits 1 253 (u8 1) ∧ fits 1 2 (u8 2) ∧ u8 3 ≤ 1 ∧ fits 80 300 (u16 4) ∧ fits 1 2 (u8 6))) ∧
    (∀ i : Fin 8, stores .sectionTable i { ts with sectionTable := (ts.sectionTable.set i
      { inService := u8 0 == 1, kind := if u8 1 = 1 then .island else .approach, track := within 1 2 (u8 2)
        boundaries := (List.range (within 1 4 (u8 3))).map fun k =>
          { head := u8 (4 + 2 * k), entering := if u8 (5 + 2 * k) = 1 then .away else .toward } }) }
      (u8 0 ≤ 1 ∧ u8 1 ≤ 1 ∧ fits 1 2 (u8 2) ∧ fits 1 4 (u8 3) ∧ ∀ k, k < u8 3 → u8 (5 + 2 * k) ≤ 1)) ∧
    (∀ i : Fin 4, stores .approach i { ts with approach := (ts.approach.set i
      { inService := u8 0 == 1, track := within 1 2 (u8 1), approachSection := u8 2, islandSection := u8 3
        timingHeads := (List.range (within 1 4 (u8 4))).map fun k =>
          { head := u8 (5 + 4 * k), distance := within 20 4000 (u16 (6 + 4 * k)), haltSide := u8 (8 + 4 * k) == 0 }
        clearMargin := within 0 30000 (u16 21), loopAllow := within 0 1000 (u16 23)
        holdMax := within 10000 600000 (u32 25), vCreep := within 100 1000 (u16 29)
        vHalt := within 100 3000 (u16 31), vFinal := within 100 6000 (u16 33), vLine := within 500 8000 (u16 35) }) }
      (u8 0 ≤ 1 ∧ fits 1 2 (u8 1) ∧ fits 1 4 (u8 4) ∧
        (∀ k, k < u8 4 → fits 20 4000 (u16 (6 + 4 * k)) ∧ u8 (8 + 4 * k) ≤ 1) ∧
        u16 21 ≤ 30000 ∧ u16 23 ≤ 1000 ∧ fits 10000 600000 (u32 25) ∧ fits 100 1000 (u16 29) ∧
        fits 100 3000 (u16 31) ∧ fits 100 6000 (u16 33) ∧ fits 500 8000 (u16 35))) ∧
    (let kinds : List StepKind := [.finish, .amber, .red, .dark, .soundOn, .soundOff, .lowerEntry, .lowerExit,
      .raiseEntry, .raiseExit, .wait, .waitDown, .waitUp]
     ∀ i : Fin 12, ∀ step : ProgramStep,
      step = { kind := kinds.getD (u8 0) .finish, count := if u8 0 = 10 then within 1 127 (u8 1) else 0 } →
      let kept := u8 0 ≤ 12 ∧ (u8 0 = 10 → fits 1 127 (u8 1))
      stores .closing i { ts with closing := ts.closing.set i step } kept ∧
      stores .opening i { ts with opening := ts.opening.set i step } kept) ∧
    (∀ i : Fin 4, stores .barrier i { ts with barrier := (ts.barrier.set i
      { inService := u8 0 == 1, role := if u8 1 = 1 then .exit else .entry, roadSide := side (u8 2)
        angleEntry := u8 3, currentEntry := u8 4, ratedDuty := within 20 100 (u8 5)
        overdriveDuty := min (within 20 100 (u8 6)) (within 50 100 (u8 9)), startMs := within 0 1000 (u16 7)
        clampDuty := within 50 100 (u8 9), brakePos := within 0 300 (u16 10), brakeDuty := within 0 50 (u8 12)
        loopGain := within 0 200 (u8 13), closedLoop := u8 14 != 0, downWindow := within 0 100 (u8 15)
        upWindow := within 900 1000 (u16 16), upCode := within 0 4095 (u16 18), downCode := within 0 4095 (u16 20)
        travelDown := within 2000 20000 (u16 22), travelUp := within 2000 20000 (u16 24)
        peakCurrent := within 0 4095 (u16 26) }) }
      (u8 0 ≤ 1 ∧ u8 1 ≤ 1 ∧ u8 2 ≤ 1 ∧ fits 20 100 (u8 5) ∧ fits 20 100 (u8 6) ∧
        u8 6 ≤ within 50 100 (u8 9) ∧ u16 7 ≤ 1000 ∧ fits 50 100 (u8 9) ∧ u16 10 ≤ 300 ∧ u8 12 ≤ 50 ∧ u8 13 ≤ 200 ∧
        u8 14 ≤ 1 ∧ u8 15 ≤ 100 ∧ fits 900 1000 (u16 16) ∧ u16 18 ≤ 4095 ∧ u16 20 ≤ 4095 ∧
        fits 2000 20000 (u16 22) ∧ fits 2000 20000 (u16 24) ∧ u16 26 ≤ 4095)) ∧
    (∀ i : Fin 12, stores .lamp i { ts with lamp := (ts.lamp.set i
      { inService := u8 0 == 1, roadSide := side (u8 1), colour := if u8 2 = 1 then .amber else .red
        phase := if u8 3 = 1 then .b else .a, scanEntry := u8 4 }) }
      (u8 0 ≤ 1 ∧ u8 1 ≤ 1 ∧ u8 2 ≤ 1 ∧ u8 3 ≤ 1)) ∧
    (∀ (i : Fin 24) (gain : Nat),
      let gap (g : Nat) : Nat := (g - u8 2) + (u8 2 - g)
      let codes : List Nat := [1, 2, 4, 8]
      gain ∈ codes → (∀ g ∈ codes, gap gain < gap g ∨ (gap gain = gap g ∧ gain ≤ g)) →
      stores .scan i { ts with scan := (ts.scan.set i
        { inService := u8 0 == 1, channel := within 0 23 (u8 1), gain := gain, blockCount := within 1 8 (u8 3)
          lowThreshold := within 0 4095 (u16 4), highThreshold := within 0 4095 (u16 6) }) }
        (u8 0 ≤ 1 ∧ u8 1 ≤ 23 ∧ u8 2 ∈ codes ∧ fits 1 8 (u8 3) ∧ u16 4 ≤ 4095 ∧ u16 6 ≤ 4095)) ∧
    (∀ (i : Fin 26) (forced : Prop), (forced ↔ ∃ c : FaultCode, c.number = i.val ∧ c.cls = .alarm) →
      (forced → stores .reportMask i { ts with reportMask := ts.reportMask.set i false } (u8 0 = 0)) ∧
      (¬ forced → stores .reportMask i { ts with reportMask := ts.reportMask.set i (u8 0 == 1) } (u8 0 ≤ 1)))

/-- An entry read out and written back is stored as it was: whatever bytes are written, storing an entry, reading it
out and storing that gives the same tables, with nothing clamped the second time, and the bytes read out are as many
as 11.6 gives the table (R177, R179, 11.6). What a save run writes, a cold start loads: the image of tables as any load,
any TABLE_WRITE after it, or the table write of a calibration can have left them is 426 words, passes the three image
checks and loads the same tables; and the words of each table stand where R191 puts them (R125, R183, R185, R187, R191). -/
def Obligations.TablesReadBackAndLoadBack : Prop :=
  (∀ (t : TableId) (i : Nat) (bytes : List Byte) (ts : Tables) (out : List Byte), i < t.entries →
    bytes.length = t.entryBytes →
    let stored := (storeEntry t i bytes ts).value
    (tableEntries t stored)[i]? = some out →
    out.length = t.entryBytes ∧
    (storeEntry t i out stored).value = stored ∧ (storeEntry t i out stored).clamped = false ∧
    (storeEntry t i out ts).value = stored) ∧
  (∀ words : List Word, words.length = 426 →
    let ts := loadImage words
    (imageOf ts).length = 426 ∧ imagePasses (imageOf ts) = true ∧ loadImage (imageOf ts) = ts ∧
    (∀ t : TableId, ((imageOf ts).drop t.firstWord).take t.imageLength = tableWords t ts)) ∧
  (∀ (words : List Word) (t : TableId) (first : Nat) (entries : List (List Byte)), words.length = 426 →
    (∀ e ∈ entries, e.length = t.entryBytes) →
    let ts := (storeEntries t first entries (loadImage words)).value
    imagePasses (imageOf ts) = true ∧ loadImage (imageOf ts) = ts) ∧
  (∀ (words : List Word) (i : Fin 4) (c : CalBarrier) (travelUp : Nat), words.length = 426 →
    c.upCode ≤ 4095 → c.downCode ≤ 4095 → c.peakCurrent ≤ 4095 → 2000 ≤ c.travelDown → c.travelDown ≤ 20000 →
    2000 ≤ travelUp → travelUp ≤ 20000 →
    let loaded := loadImage words
    let ts : Tables := { loaded with
      barrier := loaded.barrier.set i (loaded.barrier[i].calibrated c travelUp) }
    imagePasses (imageOf ts) = true ∧ loadImage (imageOf ts) = ts) ∧
  ∀ store : List Word, readStore false store = List.replicate 426 65535 ∧
    imagePasses (readStore false store) = false

/-! ## Valid tables -/

/-- Validation takes its steps in order and stops at the first that breaks; when all pass, the derived figures are adopted.
Each table that is checked entry by entry reports its first entry that does not fit; NODE then asks for a MAINTENANCE
entry, LAMP for a red lamp on each road side and for the audible entries, SCAN for a cycle within 200 ms and for the
battery entry and levels (R2, R17, R34, R35, R88, R106, R129, R173, R180, R181). -/
def Obligations.TablesAreValidated : Prop :=
  ∀ ts : Tables,
    let breaks {n : Nat} (check : Option Failure) (table : Nat) (fits : Fin n → Prop) : Prop :=
      ∀ i : Fin n, (∀ j, j < i → fits j) → ¬ fits i → check = some { table := table, index := i.val }
    let waits (steps : List ProgramStep) : Nat := ((steps.takeWhile fun k => decide (k.kind ≠ .finish)).map fun k =>
      if k.kind = .wait then k.count * 100 else 0).sum
    let served := fun i : Fin 4 => ts.barrier[i].inService = true
    let largest (travel : BarrierEntry → Nat) (n : Nat) : Prop := (∀ i, served i → travel ts.barrier[i] ≤ n) ∧
      ((∃ i, served i ∧ travel ts.barrier[i] = n) ∨ ((∀ i, ¬ served i) ∧ n = 0))
    let maintained := ∃ i : Fin 4, ts.node[i].inService = true ∧ ts.node[i].role = .maintenance
    let inCycle := scanServedBelow ts 24 * ts.params.scanStrobe ≤ 200
    (breaks (checkNode ts) 0 (NodeFits ts) ∧ ((∀ i, NodeFits ts i) →
      (¬ maintained → checkNode ts = some { table := 0, index := 0 }) ∧ (maintained → checkNode ts = none))) ∧
    (breaks (checkDpt ts) 2 (DptFits ts) ∧ ((∀ i, DptFits ts i) → checkDpt ts = none)) ∧
    (breaks (checkSection ts) 3 (SectionFits ts) ∧ ((∀ i, SectionFits ts i) → checkSection ts = none)) ∧
    (breaks (checkApproach ts) 4 (ApproachFits ts) ∧ ((∀ i, ApproachFits ts i) → checkApproach ts = none)) ∧
    (breaks (checkBarrier ts) 7 (BarrierFits ts) ∧ ((∀ i, BarrierFits ts i) → checkBarrier ts = none)) ∧
    (breaks (checkLamp ts) 8 (LampFits ts) ∧ ((∀ i, LampFits ts i) →
      (¬ SideHasRed ts .north → checkLamp ts = some { table := 8, index := 0 }) ∧
      (SideHasRed ts .north → ¬ SideHasRed ts .south → checkLamp ts = some { table := 8, index := 1 }) ∧
      (SideHasRed ts .north → SideHasRed ts .south → ¬ AudibleFits ts →
        checkLamp ts = some { table := 1, index := 0 }) ∧
      (SideHasRed ts .north → SideHasRed ts .south → AudibleFits ts → checkLamp ts = none))) ∧
    (breaks (checkScan ts) 9 (ScanFits ts) ∧ ((∀ i, ScanFits ts i) →
      (¬ inCycle → ∀ i : Fin 24, ts.scan[i].inService = true →
        scanServedBelow ts i.val = 200 / ts.params.scanStrobe → checkScan ts = some { table := 9, index := i.val }) ∧
      (inCycle → ¬ BatteryFits ts → checkScan ts = some { table := 1, index := 0 }) ∧
      (inCycle → BatteryFits ts → checkScan ts = none))) ∧
    ∀ (down up : Nat), largest (·.travelDown) down → largest (·.travelUp) up →
      let lClose := waits ts.closing.toList + down
      let figures : Derived :=
        { lClose := lClose
          tReq := Vector.ofFn fun i : Fin 4 => lClose + ts.approach[i].clearMargin + ts.approach[i].loopAllow
          rOpen := waits ts.opening.toList + up }
      let timely (i : Fin 4) : Prop := ts.approach[i].inService = true →
        ∀ h, ts.approach[i].timingHeads.getLast? = some h →
          figures.tReq[i] ≤ h.distance * 100000 / ts.approach[i].vFinal
      let program (table : Nat) (broken : Option Nat) : Option Failure :=
        broken.map fun i => { table := table, index := i }
      ∀ last : Option Failure, breaks last 4 timely → ((∀ i, timely i) → last = none) →
      let steps := [checkNode ts, checkDpt ts, checkSection ts, checkApproach ts,
        program 5 (closingBroken ts.closing.toList), program 6 (openingBroken ts.opening.toList),
        checkBarrier ts, checkLamp ts, checkScan ts, last]
      (∀ (k : Nat) (f : Failure), steps[k]? = some (some f) → (∀ j, j < k → steps[j]? = some none) →
        validate ts = .failed f) ∧
      ((∀ x ∈ steps, x = none) → validate ts = .passed figures)

/-- The conditions of the two programs, in their order, each with the index it reports; the run steps are those before
the first END, and the ending entry is that END, or entry 11. Closing: a LOWER step for each role; no RAISE step; no DARK
step and no AMBER step after the first RED one, the lower index where both stand (the model's choice, log entry 37); a
RED step before the first LOWER one; at least 2,000 ms of WAIT between the last RED step before it and that LOWER step;
and a WAIT_DOWN after the last LOWER. Opening: a RAISE step for each role; no LOWER step; a WAIT_UP after the last RAISE;
and no DARK or AMBER step before the first such WAIT_UP (R68, R69). -/
def Obligations.ProgramsAreValidated : Prop :=
  ∀ steps : List ProgramStep,
    let run := steps.takeWhile fun k => decide (k.kind ≠ .finish)
    let ending := min 11 run.length
    let is (i : Nat) (p : StepKind → Prop) : Prop := ∃ k, run[i]? = some k ∧ p k.kind
    let first (i : Nat) (p : Nat → Prop) : Prop := p i ∧ ∀ j, j < i → ¬ p j
    let last (i : Nat) (p : Nat → Prop) : Prop := p i ∧ ∀ j, i < j → ¬ p j
    let lower (i : Nat) : Prop := is i fun k => k = .lowerEntry ∨ k = .lowerExit
    let raise (i : Nat) : Prop := is i fun k => k = .raiseEntry ∨ k = .raiseExit
    let red (i : Nat) : Prop := is i fun k => k = .red
    let waits (i j : Nat) : Nat := (((run.take j).drop (i + 1)).map fun k =>
      if k.kind = .wait then k.count * 100 else 0).sum
    (let broken (i : Nat) : Prop := closingBroken steps = some i
     let unfit (i : Nat) : Prop := (is i fun k => k = .dark) ∨ ((is i fun k => k = .amber) ∧ ∃ j, j < i ∧ red j)
     (¬ ((∃ i, is i fun k => k = .lowerEntry) ∧ ∃ i, is i fun k => k = .lowerExit) → broken ending) ∧
     ((∃ i, is i fun k => k = .lowerEntry) → (∃ i, is i fun k => k = .lowerExit) →
      (∀ i, first i raise → broken i) ∧
      ((∀ i, ¬ raise i) → (∀ i, first i unfit → broken i) ∧
        ((∀ i, ¬ unfit i) → ∀ l q, first l lower → last q lower →
          ((∀ j, j < l → ¬ red j) → broken l) ∧
          ∀ r, last r (fun j => red j ∧ j < l) →
            (waits r l < 2000 → broken l) ∧
            (2000 ≤ waits r l → (∀ j, q < j → ¬ is j fun k => k = .waitDown) → broken ending) ∧
            (2000 ≤ waits r l → (∃ j, q < j ∧ is j fun k => k = .waitDown) → closingBroken steps = none))))) ∧
    (let broken (i : Nat) : Prop := openingBroken steps = some i
     let up (q i : Nat) : Prop := q < i ∧ is i fun k => k = .waitUp
     (¬ ((∃ i, is i fun k => k = .raiseEntry) ∧ ∃ i, is i fun k => k = .raiseExit) → broken ending) ∧
     ((∃ i, is i fun k => k = .raiseEntry) → (∃ i, is i fun k => k = .raiseExit) →
      (∀ i, first i lower → broken i) ∧
      ((∀ i, ¬ lower i) → ∀ q, last q raise →
        ((∀ i, ¬ up q i) → broken ending) ∧
        ∀ w, first w (up q) →
          let early (i : Nat) : Prop := i < w ∧ is i fun k => k = .dark ∨ k = .amber
          (∀ i, first i early → broken i) ∧ ((∀ i, ¬ early i) → openingBroken steps = none))))

/-! ## What every step keeps -/

/-- The state right after reset, and the state in which POWER_UP leaves any part, have every property that the
statements after this one say each step keeps. -/
def Obligations.ColdStartHasTheInvariants : Prop :=
  ∀ (s u : State) (written : Nat), u = State.reset ∨ exec (.powerUp written) s = .next u →
    InUse u ∧ ClosureSafe u ∧ Gated u ∧ Struck u ∧ Bounded u ∧ AlarmsRecorded u

/-- Every step keeps what holds of a crossing in use: its program is that of its state, its tables are valid and its
figures held; a calibration, a lamp test or a save runs only OUT_OF_USE and alone (R65, R83, R100, R123, R176, R178,
R181, R184, R187). -/
def Obligations.InUseIsKept : Prop :=
  ∀ s t : State, InUse s → step s = .next t → InUse t

/-- Whenever any in-service approach is STRUCK, any in-service island section is not free, or the closure request is
on, the crossing state is CLOSING, CLOSED, FAILED or OUT_OF_USE (R61): every step keeps it. -/
def Obligations.DemandKeepsTheCrossingClosed : Prop :=
  ∀ s t : State, InUse s → ClosureSafe s → step s = .next t → ClosureSafe t

/-- No barrier is driven downward while its road side has no red proved, except under calibration; a drive is toward
the target in START, RUN or BRAKE alone; a barrier out of service is not driven at all, IDLE without target; and every
barrier of a crossing OUT_OF_USE has its stop order (R105, R111, R112, R113, R124): every step keeps it. -/
def Obligations.GateIsKept : Prop :=
  ∀ s t : State, InUse s → Gated s → step s = .next t → Gated t

/-- While the crossing is in use, every in-service approach with a DISTURBED section is STRUCK; OUT_OF_USE every
approach is IDLE; and a STRUCK approach whose island is not free has island_seen (R37, R38, R49, R51, R54): every
step keeps it. -/
def Obligations.DisturbanceStaysStruck : Prop :=
  ∀ s t : State, InUse s → Struck s → step s = .next t → Struck t

/-- The lists keep their bounds: 4 telegrams forwarded, 7 replies and a status inserted, 8 commands, 32 fault records
with no code and subject twice, 16 passage records a bank, one bank FILLING; an idle port and an idle processor leave
nothing waiting (R143, R144, R156, R164, R165, R167, R169, R171): every step keeps it. And the fault table keeps a
record for every ALARM condition that is present, a full table included (R99, R110, R120, R121, R137, R140, R144, R188):
every step keeps that too. -/
def Obligations.BoundsAndAlarmRecordsAreKept : Prop :=
  (∀ s t : State, Bounded s → step s = .next t → Bounded t) ∧
  ∀ s t : State, InUse s → Bounded s → AlarmsRecorded s → step s = .next t → AlarmsRecorded t
end

