-- ==== Sys2Proof/Laws/State.lean ====
section
/-! SUPPORT. The small lemmas of the record updates: one for each field of each update of State, of the ports, of
the road sides and of the banks, so that no later proof unfolds an update. -/

namespace Sys2Proof.Machine

-- The package compiled as one text would start more threads than its memory limit allows.
set_option Elab.async false

/-! ## `State.setBarrier` -/

@[simp] theorem State.setBarrier_supply (s : State) (i : Fin 4) (r : BarrierRecord) : (s.setBarrier i r).supply = s.supply := rfl
@[simp] theorem State.setBarrier_resetHeld (s : State) (i : Fin 4) (r : BarrierRecord) : (s.setBarrier i r).resetHeld = s.resetHeld := rfl
@[simp] theorem State.setBarrier_loading (s : State) (i : Fin 4) (r : BarrierRecord) : (s.setBarrier i r).loading = s.loading := rfl
@[simp] theorem State.setBarrier_now (s : State) (i : Fin 4) (r : BarrierRecord) : (s.setBarrier i r).now = s.now := rfl
@[simp] theorem State.setBarrier_store (s : State) (i : Fin 4) (r : BarrierRecord) : (s.setBarrier i r).store = s.store := rfl
@[simp] theorem State.setBarrier_contacts (s : State) (i : Fin 4) (r : BarrierRecord) : (s.setBarrier i r).contacts = s.contacts := rfl
@[simp] theorem State.setBarrier_tm (s : State) (i : Fin 4) (r : BarrierRecord) : (s.setBarrier i r).tm = s.tm := rfl
@[simp] theorem State.setBarrier_lnu (s : State) (i : Fin 4) (r : BarrierRecord) : (s.setBarrier i r).lnu = s.lnu := rfl
@[simp] theorem State.setBarrier_heads (s : State) (i : Fin 4) (r : BarrierRecord) : (s.setBarrier i r).heads = s.heads := rfl
@[simp] theorem State.setBarrier_sections (s : State) (i : Fin 4) (r : BarrierRecord) : (s.setBarrier i r).sections = s.sections := rfl
@[simp] theorem State.setBarrier_approaches (s : State) (i : Fin 4) (r : BarrierRecord) : (s.setBarrier i r).approaches = s.approaches := rfl
@[simp] theorem State.setBarrier_crossing (s : State) (i : Fin 4) (r : BarrierRecord) : (s.setBarrier i r).crossing = s.crossing := rfl
@[simp] theorem State.setBarrier_lamp (s : State) (i : Fin 4) (r : BarrierRecord) : (s.setBarrier i r).lamp = s.lamp := rfl
@[simp] theorem State.setBarrier_barriers (s : State) (i : Fin 4) (r : BarrierRecord) : (s.setBarrier i r).barriers = s.barriers.set i r := rfl
@[simp] theorem State.setBarrier_cal (s : State) (i : Fin 4) (r : BarrierRecord) : (s.setBarrier i r).cal = s.cal := rfl
@[simp] theorem State.setBarrier_scan (s : State) (i : Fin 4) (r : BarrierRecord) : (s.setBarrier i r).scan = s.scan := rfl
@[simp] theorem State.setBarrier_faults (s : State) (i : Fin 4) (r : BarrierRecord) : (s.setBarrier i r).faults = s.faults := rfl
@[simp] theorem State.setBarrier_report (s : State) (i : Fin 4) (r : BarrierRecord) : (s.setBarrier i r).report = s.report := rfl
@[simp] theorem State.setBarrier_handed (s : State) (i : Fin 4) (r : BarrierRecord) : (s.setBarrier i r).handed = s.handed := rfl
@[simp] theorem State.setBarrier_pending (s : State) (i : Fin 4) (r : BarrierRecord) : (s.setBarrier i r).pending = s.pending := rfl

/-! ## `State.setLamp` -/

@[simp] theorem State.setLamp_supply (s : State) (i : Fin 12) (r : LampRecord) : (s.setLamp i r).supply = s.supply := rfl
@[simp] theorem State.setLamp_resetHeld (s : State) (i : Fin 12) (r : LampRecord) : (s.setLamp i r).resetHeld = s.resetHeld := rfl
@[simp] theorem State.setLamp_loading (s : State) (i : Fin 12) (r : LampRecord) : (s.setLamp i r).loading = s.loading := rfl
@[simp] theorem State.setLamp_now (s : State) (i : Fin 12) (r : LampRecord) : (s.setLamp i r).now = s.now := rfl
@[simp] theorem State.setLamp_store (s : State) (i : Fin 12) (r : LampRecord) : (s.setLamp i r).store = s.store := rfl
@[simp] theorem State.setLamp_contacts (s : State) (i : Fin 12) (r : LampRecord) : (s.setLamp i r).contacts = s.contacts := rfl
@[simp] theorem State.setLamp_tm (s : State) (i : Fin 12) (r : LampRecord) : (s.setLamp i r).tm = s.tm := rfl
@[simp] theorem State.setLamp_lnu (s : State) (i : Fin 12) (r : LampRecord) : (s.setLamp i r).lnu = s.lnu := rfl
@[simp] theorem State.setLamp_heads (s : State) (i : Fin 12) (r : LampRecord) : (s.setLamp i r).heads = s.heads := rfl
@[simp] theorem State.setLamp_sections (s : State) (i : Fin 12) (r : LampRecord) : (s.setLamp i r).sections = s.sections := rfl
@[simp] theorem State.setLamp_approaches (s : State) (i : Fin 12) (r : LampRecord) : (s.setLamp i r).approaches = s.approaches := rfl
@[simp] theorem State.setLamp_crossing (s : State) (i : Fin 12) (r : LampRecord) : (s.setLamp i r).crossing = s.crossing := rfl
@[simp] theorem State.setLamp_lamp (s : State) (i : Fin 12) (r : LampRecord) : (s.setLamp i r).lamp = { s.lamp with lamps := s.lamp.lamps.set i r } := rfl
@[simp] theorem State.setLamp_barriers (s : State) (i : Fin 12) (r : LampRecord) : (s.setLamp i r).barriers = s.barriers := rfl
@[simp] theorem State.setLamp_cal (s : State) (i : Fin 12) (r : LampRecord) : (s.setLamp i r).cal = s.cal := rfl
@[simp] theorem State.setLamp_scan (s : State) (i : Fin 12) (r : LampRecord) : (s.setLamp i r).scan = s.scan := rfl
@[simp] theorem State.setLamp_faults (s : State) (i : Fin 12) (r : LampRecord) : (s.setLamp i r).faults = s.faults := rfl
@[simp] theorem State.setLamp_report (s : State) (i : Fin 12) (r : LampRecord) : (s.setLamp i r).report = s.report := rfl
@[simp] theorem State.setLamp_handed (s : State) (i : Fin 12) (r : LampRecord) : (s.setLamp i r).handed = s.handed := rfl
@[simp] theorem State.setLamp_pending (s : State) (i : Fin 12) (r : LampRecord) : (s.setLamp i r).pending = s.pending := rfl

/-! ## `State.setCrossing` -/

@[simp] theorem State.setCrossing_supply (s : State) (c : CrossingRecord) : (s.setCrossing c).supply = s.supply := rfl
@[simp] theorem State.setCrossing_resetHeld (s : State) (c : CrossingRecord) : (s.setCrossing c).resetHeld = s.resetHeld := rfl
@[simp] theorem State.setCrossing_loading (s : State) (c : CrossingRecord) : (s.setCrossing c).loading = s.loading := rfl
@[simp] theorem State.setCrossing_now (s : State) (c : CrossingRecord) : (s.setCrossing c).now = s.now := rfl
@[simp] theorem State.setCrossing_store (s : State) (c : CrossingRecord) : (s.setCrossing c).store = s.store := rfl
@[simp] theorem State.setCrossing_contacts (s : State) (c : CrossingRecord) : (s.setCrossing c).contacts = s.contacts := rfl
@[simp] theorem State.setCrossing_tm (s : State) (c : CrossingRecord) : (s.setCrossing c).tm = s.tm := rfl
@[simp] theorem State.setCrossing_lnu (s : State) (c : CrossingRecord) : (s.setCrossing c).lnu = s.lnu := rfl
@[simp] theorem State.setCrossing_heads (s : State) (c : CrossingRecord) : (s.setCrossing c).heads = s.heads := rfl
@[simp] theorem State.setCrossing_sections (s : State) (c : CrossingRecord) : (s.setCrossing c).sections = s.sections := rfl
@[simp] theorem State.setCrossing_approaches (s : State) (c : CrossingRecord) : (s.setCrossing c).approaches = s.approaches := rfl
@[simp] theorem State.setCrossing_crossing (s : State) (c : CrossingRecord) : (s.setCrossing c).crossing = c := rfl
@[simp] theorem State.setCrossing_lamp (s : State) (c : CrossingRecord) : (s.setCrossing c).lamp = s.lamp := rfl
@[simp] theorem State.setCrossing_barriers (s : State) (c : CrossingRecord) : (s.setCrossing c).barriers = s.barriers := rfl
@[simp] theorem State.setCrossing_cal (s : State) (c : CrossingRecord) : (s.setCrossing c).cal = s.cal := rfl
@[simp] theorem State.setCrossing_scan (s : State) (c : CrossingRecord) : (s.setCrossing c).scan = s.scan := rfl
@[simp] theorem State.setCrossing_faults (s : State) (c : CrossingRecord) : (s.setCrossing c).faults = s.faults := rfl
@[simp] theorem State.setCrossing_report (s : State) (c : CrossingRecord) : (s.setCrossing c).report = s.report := rfl
@[simp] theorem State.setCrossing_handed (s : State) (c : CrossingRecord) : (s.setCrossing c).handed = s.handed := rfl
@[simp] theorem State.setCrossing_pending (s : State) (c : CrossingRecord) : (s.setCrossing c).pending = s.pending := rfl

/-! ## `State.setApproach` -/

@[simp] theorem State.setApproach_supply (s : State) (i : Fin 4) (r : ApproachRecord) : (s.setApproach i r).supply = s.supply := rfl
@[simp] theorem State.setApproach_resetHeld (s : State) (i : Fin 4) (r : ApproachRecord) : (s.setApproach i r).resetHeld = s.resetHeld := rfl
@[simp] theorem State.setApproach_loading (s : State) (i : Fin 4) (r : ApproachRecord) : (s.setApproach i r).loading = s.loading := rfl
@[simp] theorem State.setApproach_now (s : State) (i : Fin 4) (r : ApproachRecord) : (s.setApproach i r).now = s.now := rfl
@[simp] theorem State.setApproach_store (s : State) (i : Fin 4) (r : ApproachRecord) : (s.setApproach i r).store = s.store := rfl
@[simp] theorem State.setApproach_contacts (s : State) (i : Fin 4) (r : ApproachRecord) : (s.setApproach i r).contacts = s.contacts := rfl
@[simp] theorem State.setApproach_tm (s : State) (i : Fin 4) (r : ApproachRecord) : (s.setApproach i r).tm = s.tm := rfl
@[simp] theorem State.setApproach_lnu (s : State) (i : Fin 4) (r : ApproachRecord) : (s.setApproach i r).lnu = s.lnu := rfl
@[simp] theorem State.setApproach_heads (s : State) (i : Fin 4) (r : ApproachRecord) : (s.setApproach i r).heads = s.heads := rfl
@[simp] theorem State.setApproach_sections (s : State) (i : Fin 4) (r : ApproachRecord) : (s.setApproach i r).sections = s.sections := rfl
@[simp] theorem State.setApproach_approaches (s : State) (i : Fin 4) (r : ApproachRecord) : (s.setApproach i r).approaches = s.approaches.set i r := rfl
@[simp] theorem State.setApproach_crossing (s : State) (i : Fin 4) (r : ApproachRecord) : (s.setApproach i r).crossing = s.crossing := rfl
@[simp] theorem State.setApproach_lamp (s : State) (i : Fin 4) (r : ApproachRecord) : (s.setApproach i r).lamp = s.lamp := rfl
@[simp] theorem State.setApproach_barriers (s : State) (i : Fin 4) (r : ApproachRecord) : (s.setApproach i r).barriers = s.barriers := rfl
@[simp] theorem State.setApproach_cal (s : State) (i : Fin 4) (r : ApproachRecord) : (s.setApproach i r).cal = s.cal := rfl
@[simp] theorem State.setApproach_scan (s : State) (i : Fin 4) (r : ApproachRecord) : (s.setApproach i r).scan = s.scan := rfl
@[simp] theorem State.setApproach_faults (s : State) (i : Fin 4) (r : ApproachRecord) : (s.setApproach i r).faults = s.faults := rfl
@[simp] theorem State.setApproach_report (s : State) (i : Fin 4) (r : ApproachRecord) : (s.setApproach i r).report = s.report := rfl
@[simp] theorem State.setApproach_handed (s : State) (i : Fin 4) (r : ApproachRecord) : (s.setApproach i r).handed = s.handed := rfl
@[simp] theorem State.setApproach_pending (s : State) (i : Fin 4) (r : ApproachRecord) : (s.setApproach i r).pending = s.pending := rfl

/-! ## `State.setSection` -/

@[simp] theorem State.setSection_supply (s : State) (i : Fin 8) (r : SectionRecord) : (s.setSection i r).supply = s.supply := rfl
@[simp] theorem State.setSection_resetHeld (s : State) (i : Fin 8) (r : SectionRecord) : (s.setSection i r).resetHeld = s.resetHeld := rfl
@[simp] theorem State.setSection_loading (s : State) (i : Fin 8) (r : SectionRecord) : (s.setSection i r).loading = s.loading := rfl
@[simp] theorem State.setSection_now (s : State) (i : Fin 8) (r : SectionRecord) : (s.setSection i r).now = s.now := rfl
@[simp] theorem State.setSection_store (s : State) (i : Fin 8) (r : SectionRecord) : (s.setSection i r).store = s.store := rfl
@[simp] theorem State.setSection_contacts (s : State) (i : Fin 8) (r : SectionRecord) : (s.setSection i r).contacts = s.contacts := rfl
@[simp] theorem State.setSection_tm (s : State) (i : Fin 8) (r : SectionRecord) : (s.setSection i r).tm = s.tm := rfl
@[simp] theorem State.setSection_lnu (s : State) (i : Fin 8) (r : SectionRecord) : (s.setSection i r).lnu = s.lnu := rfl
@[simp] theorem State.setSection_heads (s : State) (i : Fin 8) (r : SectionRecord) : (s.setSection i r).heads = s.heads := rfl
@[simp] theorem State.setSection_sections (s : State) (i : Fin 8) (r : SectionRecord) : (s.setSection i r).sections = s.sections.set i r := rfl
@[simp] theorem State.setSection_approaches (s : State) (i : Fin 8) (r : SectionRecord) : (s.setSection i r).approaches = s.approaches := rfl
@[simp] theorem State.setSection_crossing (s : State) (i : Fin 8) (r : SectionRecord) : (s.setSection i r).crossing = s.crossing := rfl
@[simp] theorem State.setSection_lamp (s : State) (i : Fin 8) (r : SectionRecord) : (s.setSection i r).lamp = s.lamp := rfl
@[simp] theorem State.setSection_barriers (s : State) (i : Fin 8) (r : SectionRecord) : (s.setSection i r).barriers = s.barriers := rfl
@[simp] theorem State.setSection_cal (s : State) (i : Fin 8) (r : SectionRecord) : (s.setSection i r).cal = s.cal := rfl
@[simp] theorem State.setSection_scan (s : State) (i : Fin 8) (r : SectionRecord) : (s.setSection i r).scan = s.scan := rfl
@[simp] theorem State.setSection_faults (s : State) (i : Fin 8) (r : SectionRecord) : (s.setSection i r).faults = s.faults := rfl
@[simp] theorem State.setSection_report (s : State) (i : Fin 8) (r : SectionRecord) : (s.setSection i r).report = s.report := rfl
@[simp] theorem State.setSection_handed (s : State) (i : Fin 8) (r : SectionRecord) : (s.setSection i r).handed = s.handed := rfl
@[simp] theorem State.setSection_pending (s : State) (i : Fin 8) (r : SectionRecord) : (s.setSection i r).pending = s.pending := rfl

/-! ## `State.setHead` -/

@[simp] theorem State.setHead_supply (s : State) (i : Fin 16) (r : HeadRecord) : (s.setHead i r).supply = s.supply := rfl
@[simp] theorem State.setHead_resetHeld (s : State) (i : Fin 16) (r : HeadRecord) : (s.setHead i r).resetHeld = s.resetHeld := rfl
@[simp] theorem State.setHead_loading (s : State) (i : Fin 16) (r : HeadRecord) : (s.setHead i r).loading = s.loading := rfl
@[simp] theorem State.setHead_now (s : State) (i : Fin 16) (r : HeadRecord) : (s.setHead i r).now = s.now := rfl
@[simp] theorem State.setHead_store (s : State) (i : Fin 16) (r : HeadRecord) : (s.setHead i r).store = s.store := rfl
@[simp] theorem State.setHead_contacts (s : State) (i : Fin 16) (r : HeadRecord) : (s.setHead i r).contacts = s.contacts := rfl
@[simp] theorem State.setHead_tm (s : State) (i : Fin 16) (r : HeadRecord) : (s.setHead i r).tm = s.tm := rfl
@[simp] theorem State.setHead_lnu (s : State) (i : Fin 16) (r : HeadRecord) : (s.setHead i r).lnu = s.lnu := rfl
@[simp] theorem State.setHead_heads (s : State) (i : Fin 16) (r : HeadRecord) : (s.setHead i r).heads = s.heads.set i r := rfl
@[simp] theorem State.setHead_sections (s : State) (i : Fin 16) (r : HeadRecord) : (s.setHead i r).sections = s.sections := rfl
@[simp] theorem State.setHead_approaches (s : State) (i : Fin 16) (r : HeadRecord) : (s.setHead i r).approaches = s.approaches := rfl
@[simp] theorem State.setHead_crossing (s : State) (i : Fin 16) (r : HeadRecord) : (s.setHead i r).crossing = s.crossing := rfl
@[simp] theorem State.setHead_lamp (s : State) (i : Fin 16) (r : HeadRecord) : (s.setHead i r).lamp = s.lamp := rfl
@[simp] theorem State.setHead_barriers (s : State) (i : Fin 16) (r : HeadRecord) : (s.setHead i r).barriers = s.barriers := rfl
@[simp] theorem State.setHead_cal (s : State) (i : Fin 16) (r : HeadRecord) : (s.setHead i r).cal = s.cal := rfl
@[simp] theorem State.setHead_scan (s : State) (i : Fin 16) (r : HeadRecord) : (s.setHead i r).scan = s.scan := rfl
@[simp] theorem State.setHead_faults (s : State) (i : Fin 16) (r : HeadRecord) : (s.setHead i r).faults = s.faults := rfl
@[simp] theorem State.setHead_report (s : State) (i : Fin 16) (r : HeadRecord) : (s.setHead i r).report = s.report := rfl
@[simp] theorem State.setHead_handed (s : State) (i : Fin 16) (r : HeadRecord) : (s.setHead i r).handed = s.handed := rfl
@[simp] theorem State.setHead_pending (s : State) (i : Fin 16) (r : HeadRecord) : (s.setHead i r).pending = s.pending := rfl

/-! ## `State.setCal` -/

@[simp] theorem State.setCal_supply (s : State) (c : CalibrationRun) : (s.setCal c).supply = s.supply := rfl
@[simp] theorem State.setCal_resetHeld (s : State) (c : CalibrationRun) : (s.setCal c).resetHeld = s.resetHeld := rfl
@[simp] theorem State.setCal_loading (s : State) (c : CalibrationRun) : (s.setCal c).loading = s.loading := rfl
@[simp] theorem State.setCal_now (s : State) (c : CalibrationRun) : (s.setCal c).now = s.now := rfl
@[simp] theorem State.setCal_store (s : State) (c : CalibrationRun) : (s.setCal c).store = s.store := rfl
@[simp] theorem State.setCal_contacts (s : State) (c : CalibrationRun) : (s.setCal c).contacts = s.contacts := rfl
@[simp] theorem State.setCal_tm (s : State) (c : CalibrationRun) : (s.setCal c).tm = s.tm := rfl
@[simp] theorem State.setCal_lnu (s : State) (c : CalibrationRun) : (s.setCal c).lnu = s.lnu := rfl
@[simp] theorem State.setCal_heads (s : State) (c : CalibrationRun) : (s.setCal c).heads = s.heads := rfl
@[simp] theorem State.setCal_sections (s : State) (c : CalibrationRun) : (s.setCal c).sections = s.sections := rfl
@[simp] theorem State.setCal_approaches (s : State) (c : CalibrationRun) : (s.setCal c).approaches = s.approaches := rfl
@[simp] theorem State.setCal_crossing (s : State) (c : CalibrationRun) : (s.setCal c).crossing = s.crossing := rfl
@[simp] theorem State.setCal_lamp (s : State) (c : CalibrationRun) : (s.setCal c).lamp = s.lamp := rfl
@[simp] theorem State.setCal_barriers (s : State) (c : CalibrationRun) : (s.setCal c).barriers = s.barriers := rfl
@[simp] theorem State.setCal_cal (s : State) (c : CalibrationRun) : (s.setCal c).cal = c := rfl
@[simp] theorem State.setCal_scan (s : State) (c : CalibrationRun) : (s.setCal c).scan = s.scan := rfl
@[simp] theorem State.setCal_faults (s : State) (c : CalibrationRun) : (s.setCal c).faults = s.faults := rfl
@[simp] theorem State.setCal_report (s : State) (c : CalibrationRun) : (s.setCal c).report = s.report := rfl
@[simp] theorem State.setCal_handed (s : State) (c : CalibrationRun) : (s.setCal c).handed = s.handed := rfl
@[simp] theorem State.setCal_pending (s : State) (c : CalibrationRun) : (s.setCal c).pending = s.pending := rfl

/-! ## `State.advance` -/

@[simp] theorem State.advance_supply (s : State) (dt : Time) : (s.advance dt).supply = s.supply := rfl
@[simp] theorem State.advance_resetHeld (s : State) (dt : Time) : (s.advance dt).resetHeld = s.resetHeld := rfl
@[simp] theorem State.advance_loading (s : State) (dt : Time) : (s.advance dt).loading = s.loading := rfl
@[simp] theorem State.advance_now (s : State) (dt : Time) : (s.advance dt).now = s.now + dt := rfl
@[simp] theorem State.advance_store (s : State) (dt : Time) : (s.advance dt).store = s.store := rfl
@[simp] theorem State.advance_contacts (s : State) (dt : Time) : (s.advance dt).contacts = s.contacts := rfl
@[simp] theorem State.advance_tm (s : State) (dt : Time) : (s.advance dt).tm = s.tm := rfl
@[simp] theorem State.advance_lnu (s : State) (dt : Time) : (s.advance dt).lnu = s.lnu := rfl
@[simp] theorem State.advance_heads (s : State) (dt : Time) : (s.advance dt).heads = s.heads := rfl
@[simp] theorem State.advance_sections (s : State) (dt : Time) : (s.advance dt).sections = s.sections := rfl
@[simp] theorem State.advance_approaches (s : State) (dt : Time) : (s.advance dt).approaches = s.approaches := rfl
@[simp] theorem State.advance_crossing (s : State) (dt : Time) : (s.advance dt).crossing = s.crossing := rfl
@[simp] theorem State.advance_lamp (s : State) (dt : Time) : (s.advance dt).lamp = s.lamp := rfl
@[simp] theorem State.advance_barriers (s : State) (dt : Time) : (s.advance dt).barriers = s.barriers := rfl
@[simp] theorem State.advance_cal (s : State) (dt : Time) : (s.advance dt).cal = s.cal := rfl
@[simp] theorem State.advance_scan (s : State) (dt : Time) : (s.advance dt).scan = s.scan := rfl
@[simp] theorem State.advance_faults (s : State) (dt : Time) : (s.advance dt).faults = s.faults := rfl
@[simp] theorem State.advance_report (s : State) (dt : Time) : (s.advance dt).report = s.report := rfl
@[simp] theorem State.advance_handed (s : State) (dt : Time) : (s.advance dt).handed = s.handed := rfl
@[simp] theorem State.advance_pending (s : State) (dt : Time) : (s.advance dt).pending = s.pending := rfl

/-! ## Ports, sides, banks -/

@[simp] theorem otherPort_otherPort (p : Port) : otherPort (otherPort p) = p := by cases p <;> rfl
@[simp] theorem LoopNode.port_setPort (l : LoopNode) (p : Port) (o : OutPort) : (l.setPort p o).port p = o := by
  cases p <;> rfl
@[simp] theorem LoopNode.port_setPort_other (l : LoopNode) (p : Port) (o : OutPort) :
    (l.setPort p o).port (otherPort p) = l.port (otherPort p) := by
  cases p <;> rfl
@[simp] theorem LoopNode.setPort_queue (l : LoopNode) (p : Port) (o : OutPort) :
    (l.setPort p o).queue = l.queue := by cases p <;> rfl
@[simp] theorem LoopNode.setPort_processor (l : LoopNode) (p : Port) (o : OutPort) :
    (l.setPort p o).processor = l.processor := by cases p <;> rfl
@[simp] theorem LoopNode.setPort_restarting (l : LoopNode) (p : Port) (o : OutPort) :
    (l.setPort p o).restarting = l.restarting := by cases p <;> rfl
@[simp] theorem LoopNode.setPort_overflow (l : LoopNode) (p : Port) (o : OutPort) :
    (l.setPort p o).overflow = l.overflow := by cases p <;> rfl
@[simp] theorem LoopNode.setPort_lateDiscard (l : LoopNode) (p : Port) (o : OutPort) :
    (l.setPort p o).lateDiscard = l.lateDiscard := by cases p <;> rfl
@[simp] theorem LoopNode.setPort_passed (l : LoopNode) (p : Port) (o : OutPort) :
    (l.setPort p o).passed = l.passed := by cases p <;> rfl

@[simp] theorem PerSide.get_set {α : Type} (p : PerSide α) (d : Side) (x : α) : (p.set d x).get d = x := by
  cases d <;> rfl

@[simp] theorem ReportUnit.bank_setBank (r : ReportUnit) (one : Bool) (b : Bank) :
    (r.setBank one b).bank one = b := by cases one <;> rfl
@[simp] theorem ReportUnit.bank_setBank_other (r : ReportUnit) (one : Bool) (b : Bank) :
    (r.setBank one b).bank (!one) = r.bank (!one) := by cases one <;> rfl

@[simp] theorem ReportUnit.setBank_newFault (r : ReportUnit) (one : Bool) (b : Bank) :
    (r.setBank one b).newFault = r.newFault := by cases one <;> rfl
@[simp] theorem ReportUnit.setBank_fresh (r : ReportUnit) (one : Bool) (b : Bank) :
    (r.setBank one b).fresh = r.fresh := by cases one <;> rfl
@[simp] theorem ReportUnit.setBank_lastStatus (r : ReportUnit) (one : Bool) (b : Bank) :
    (r.setBank one b).lastStatus = r.lastStatus := by cases one <;> rfl
@[simp] theorem ReportUnit.setBank_statusDue (r : ReportUnit) (one : Bool) (b : Bank) :
    (r.setBank one b).statusDue = r.statusDue := by cases one <;> rfl
@[simp] theorem ReportUnit.setBank_linkEnd (r : ReportUnit) (one : Bool) (b : Bank) :
    (r.setBank one b).linkEnd = r.linkEnd := by cases one <;> rfl
@[simp] theorem ReportUnit.makeReady_newFault (r : ReportUnit) (one : Bool) :
    (r.makeReady one).newFault = r.newFault := by
  unfold ReportUnit.makeReady
  dsimp only
  split <;> simp
@[simp] theorem ReportUnit.makeReady_fresh (r : ReportUnit) (one : Bool) :
    (r.makeReady one).fresh = r.fresh := by
  unfold ReportUnit.makeReady
  dsimp only
  split <;> simp
@[simp] theorem ReportUnit.makeReady_lastStatus (r : ReportUnit) (one : Bool) :
    (r.makeReady one).lastStatus = r.lastStatus := by
  unfold ReportUnit.makeReady
  dsimp only
  split <;> simp
@[simp] theorem ReportUnit.makeReady_statusDue (r : ReportUnit) (one : Bool) :
    (r.makeReady one).statusDue = r.statusDue := by
  unfold ReportUnit.makeReady
  dsimp only
  split <;> simp
@[simp] theorem ReportUnit.makeReady_linkEnd (r : ReportUnit) (one : Bool) :
    (r.makeReady one).linkEnd = r.linkEnd := by
  unfold ReportUnit.makeReady
  dsimp only
  split <;> simp

/-- The one-record updates read back at their own place. -/
@[simp] theorem State.setBarrier_self (s : State) (i : Fin 4) (r : BarrierRecord) :
    (s.setBarrier i r).barriers[i] = r := by simp
@[simp] theorem State.setApproach_self (s : State) (i : Fin 4) (r : ApproachRecord) :
    (s.setApproach i r).approaches[i] = r := by simp
@[simp] theorem State.setSection_self (s : State) (i : Fin 8) (r : SectionRecord) :
    (s.setSection i r).sections[i] = r := by simp
@[simp] theorem State.setHead_self (s : State) (i : Fin 16) (r : HeadRecord) :
    (s.setHead i r).heads[i] = r := by simp
@[simp] theorem State.setLamp_self (s : State) (i : Fin 12) (r : LampRecord) :
    (s.setLamp i r).lampRecord i = r := by simp [State.lampRecord]

end Sys2Proof.Machine
end

