-- ==== Sys2Proof/Laws/Frame.lean ====
section
/-! SUPPORT. The laws of frames (Safety.lean), from which each shared operation gets its own, once, in the files of
this folder. -/

namespace Sys2Proof.Machine

-- The package compiled as one text would start more threads than its memory limit allows.
set_option Elab.async false

theorem Part.same_refl (s : State) (p : Part) : Part.same s s p := by cases p <;> simp [Part.same]

theorem Part.same_trans {s t u : State} {p : Part} (h : Part.same s t p) (k : Part.same t u p) :
    Part.same s u p := by
  cases p <;> simp_all [Part.same]

theorem Frame.refl (ps : List Part) (s : State) : Frame ps s s :=
  ⟨fun p _ => Part.same_refl s p⟩

theorem Frame.trans {ps : List Part} {s t u : State} (h : Frame ps s t) (k : Frame ps t u) : Frame ps s u :=
  ⟨fun p hp => Part.same_trans (h.same p hp) (k.same p hp)⟩

theorem Frame.mono {ps qs : List Part} {s t : State} (h : Frame ps s t) (sub : ps ⊆ qs) : Frame qs s t :=
  ⟨fun p hp => h.same p fun k => hp (sub k)⟩

/-- One operation after another, the second with a frame of its own. -/
theorem Frame.step {ps qs : List Part} {s t u : State} (h : Frame ps s t) (k : Frame qs t u)
    (sub : qs ⊆ ps := by decide) : Frame ps s u := h.trans (k.mono sub)

/-- The same, the last operation first. -/
theorem Frame.next {ps qs : List Part} {s t u : State} (k : Frame qs t u) (sub : qs ⊆ ps)
    (h : Frame ps s t) : Frame ps s u := h.trans (k.mono sub)

/-! ## One field replaced -/

theorem Frame.withLamp {ps : List Part} {s t : State} {x : LampController} (h : Frame ps s t)
    (hl : Part.lamp ∈ ps := by decide)
    (ht : Part.lampTest ∈ ps ∨ x.test = t.lamp.test := by first | exact .inl (by decide) | exact .inr rfl)
    (hr : Part.redProved ∈ ps ∨ x.redProved = t.lamp.redProved := by
      first | exact .inl (by decide) | exact .inr rfl)
    (ha : Part.handedOn ∈ ps ∨ x.aspect = t.lamp.aspect ∧ x.sound = t.lamp.sound := by
      first | exact .inl (by decide) | exact .inr ⟨rfl, rfl⟩) :
    Frame ps s { t with lamp := x } := by
  refine h.trans ⟨fun p hp => ?_⟩
  cases p <;> first | exact ⟨rfl, rfl, rfl⟩ | exact ⟨rfl, rfl⟩ | rfl | skip
  · exact absurd hl hp
  · exact ht.resolve_left hp
  · exact hr.resolve_left hp
  · exact ha.resolve_left hp

theorem Frame.withCrossing {ps : List Part} {s t : State} {x : CrossingRecord} (h : Frame ps s t)
    (hc : Part.crossing ∈ ps := by decide)
    (hr : Part.request ∈ ps ∨ x.closureRequest = t.crossing.closureRequest := by
      first | exact .inl (by decide) | exact .inr rfl) :
    Frame ps s { t with crossing := x } := by
  refine h.trans ⟨fun p hp => ?_⟩
  cases p <;> first | exact ⟨rfl, rfl, rfl⟩ | exact ⟨rfl, rfl⟩ | rfl | skip
  · exact absurd hc hp
  · exact hr.resolve_left hp

theorem Frame.setCrossing {ps : List Part} {s t : State} {x : CrossingRecord} (h : Frame ps s t)
    (hc : Part.crossing ∈ ps := by decide)
    (hr : Part.request ∈ ps ∨ x.closureRequest = t.crossing.closureRequest := by
      first | exact .inl (by decide) | exact .inr rfl) :
    Frame ps s (t.setCrossing x) := h.withCrossing hc hr

theorem Frame.withScan {ps : List Part} {s t : State} {x : Scanner} (h : Frame ps s t)
    (hr : Part.rate ∈ ps ∨ x.nextStrobe = t.scan.nextStrobe ∧ x.rate = t.scan.rate ∧
      x.quietEnd = t.scan.quietEnd := by first | exact .inl (by decide) | exact .inr ⟨rfl, rfl, rfl⟩)
    (hb : Part.block ∈ ps ∨ x.position = t.scan.position ∧ x.blockStart = t.scan.blockStart := by
      first | exact .inl (by decide) | exact .inr ⟨rfl, rfl⟩)
    (hs : Part.results ∈ ps ∨ x.results = t.scan.results := by
      first | exact .inl (by decide) | exact .inr rfl)
    (hv : Part.battery ∈ ps ∨ x.vBat = t.scan.vBat ∧ x.batteryLow = t.scan.batteryLow ∧
      x.batteryCritical = t.scan.batteryCritical := by
      first | exact .inl (by decide) | exact .inr ⟨rfl, rfl, rfl⟩) :
    Frame ps s { t with scan := x } := by
  refine h.trans ⟨fun p hp => ?_⟩
  cases p <;> first | exact ⟨rfl, rfl, rfl⟩ | exact ⟨rfl, rfl⟩ | rfl | skip
  · exact hr.resolve_left hp
  · exact hb.resolve_left hp
  · exact hs.resolve_left hp
  · exact hv.resolve_left hp

theorem Frame.withReport {ps : List Part} {s t : State} {x : ReportUnit} (h : Frame ps s t)
    (hn : Part.newFault ∈ ps ∨ x.newFault = t.report.newFault ∧ x.fresh = t.report.fresh := by
      first | exact .inl (by decide) | exact .inr ⟨rfl, rfl⟩ | exact .inr (by simp))
    (hs : Part.status ∈ ps ∨ x.lastStatus = t.report.lastStatus ∧ x.statusDue = t.report.statusDue := by
      first | exact .inl (by decide) | exact .inr ⟨rfl, rfl⟩ | exact .inr (by simp))
    (hl : Part.link ∈ ps ∨ x.linkEnd = t.report.linkEnd := by
      first | exact .inl (by decide) | exact .inr rfl | exact .inr (by simp))
    (hb : Part.banks ∈ ps ∨ x.bank0 = t.report.bank0 ∧ x.bank1 = t.report.bank1 := by
      first | exact .inl (by decide) | exact .inr ⟨rfl, rfl⟩ | exact .inr (by simp)) :
    Frame ps s { t with report := x } := by
  refine h.trans ⟨fun p hp => ?_⟩
  cases p <;> first | exact ⟨rfl, rfl, rfl⟩ | exact ⟨rfl, rfl⟩ | rfl | skip
  · exact hn.resolve_left hp
  · exact hs.resolve_left hp
  · exact hl.resolve_left hp
  · exact hb.resolve_left hp

theorem Frame.withLnu {ps : List Part} {s t : State} {x : LoopNode} (h : Frame ps s t)
    (hp : Part.ports ∈ ps ∨ x.portA = t.lnu.portA ∧ x.portB = t.lnu.portB := by
      first | exact .inl (by decide) | exact .inr ⟨rfl, rfl⟩)
    (hq : Part.queue ∈ ps ∨ x.queue = t.lnu.queue ∧ x.processor = t.lnu.processor ∧
      x.restarting = t.lnu.restarting := by
      first | exact .inl (by decide) | exact .inr ⟨rfl, rfl, rfl⟩ | exact .inr (by simp))
    (ho : Part.overflow ∈ ps ∨ x.overflow = t.lnu.overflow ∧ x.lateDiscard = t.lnu.lateDiscard := by
      first | exact .inl (by decide) | exact .inr ⟨rfl, rfl⟩ | exact .inr (by simp))
    (hd : Part.passed ∈ ps ∨ x.passed = t.lnu.passed := by
      first | exact .inl (by decide) | exact .inr rfl | exact .inr (by simp)) :
    Frame ps s { t with lnu := x } := by
  refine h.trans ⟨fun p m => ?_⟩
  cases p <;> first | exact ⟨rfl, rfl, rfl⟩ | exact ⟨rfl, rfl⟩ | rfl | skip
  · exact hp.resolve_left m
  · exact hq.resolve_left m
  · exact ho.resolve_left m
  · exact hd.resolve_left m

theorem Frame.withTm {ps : List Part} {s t : State} {x : TableManager} (h : Frame ps s t)
    (ht : Part.tables ∈ ps ∨ x.tables = t.tm.tables := by
      first | exact .inl (by decide) | exact .inr rfl)
    (hf : Part.flag ∈ ps ∨ x.valid = t.tm.valid ∧ x.ownValidated = t.tm.ownValidated ∧
      x.derived = t.tm.derived := by first | exact .inl (by decide) | exact .inr ⟨rfl, rfl, rfl⟩)
    (hs : Part.save ∈ ps ∨ x.saveRun = t.tm.saveRun ∧ x.saveImage = t.tm.saveImage := by
      first | exact .inl (by decide) | exact .inr ⟨rfl, rfl⟩) :
    Frame ps s { t with tm := x } := by
  refine h.trans ⟨fun p hp => ?_⟩
  cases p <;> first | exact ⟨rfl, rfl, rfl⟩ | exact ⟨rfl, rfl⟩ | rfl | skip
  · exact ht.resolve_left hp
  · exact hf.resolve_left hp
  · exact hs.resolve_left hp

theorem Frame.withFaults {ps : List Part} {s t : State} {x : FaultRecorder} (h : Frame ps s t)
    (m : Part.faults ∈ ps := by decide) : Frame ps s { t with faults := x } := by
  refine h.trans ⟨fun p hp => ?_⟩
  cases p <;> first | exact ⟨rfl, rfl, rfl⟩ | exact ⟨rfl, rfl⟩ | rfl | exact absurd m hp

theorem Frame.withHanded {ps : List Part} {s t : State} {x : Handed} (h : Frame ps s t)
    (m : Part.handed ∈ ps := by decide) : Frame ps s { t with handed := x } := by
  refine h.trans ⟨fun p hp => ?_⟩
  cases p <;> first | exact ⟨rfl, rfl, rfl⟩ | exact ⟨rfl, rfl⟩ | rfl | exact absurd m hp

theorem Frame.withBarriers {ps : List Part} {s t : State} {x : Vector BarrierRecord 4} (h : Frame ps s t)
    (m : Part.barriers ∈ ps := by decide) : Frame ps s { t with barriers := x } := by
  refine h.trans ⟨fun p hp => ?_⟩
  cases p <;> first | exact ⟨rfl, rfl, rfl⟩ | exact ⟨rfl, rfl⟩ | rfl | exact absurd m hp

theorem Frame.withHeads {ps : List Part} {s t : State} {x : Vector HeadRecord 16} (h : Frame ps s t)
    (m : Part.heads ∈ ps := by decide) : Frame ps s { t with heads := x } := by
  refine h.trans ⟨fun p hp => ?_⟩
  cases p <;> first | exact ⟨rfl, rfl, rfl⟩ | exact ⟨rfl, rfl⟩ | rfl | exact absurd m hp

theorem Frame.withSections {ps : List Part} {s t : State} {x : Vector SectionRecord 8} (h : Frame ps s t)
    (m : Part.sections ∈ ps := by decide) : Frame ps s { t with sections := x } := by
  refine h.trans ⟨fun p hp => ?_⟩
  cases p <;> first | exact ⟨rfl, rfl, rfl⟩ | exact ⟨rfl, rfl⟩ | rfl | exact absurd m hp

theorem Frame.withApproaches {ps : List Part} {s t : State} {x : Vector ApproachRecord 4} (h : Frame ps s t)
    (m : Part.approaches ∈ ps := by decide) : Frame ps s { t with approaches := x } := by
  refine h.trans ⟨fun p hp => ?_⟩
  cases p <;> first | exact ⟨rfl, rfl, rfl⟩ | exact ⟨rfl, rfl⟩ | rfl | exact absurd m hp

theorem Frame.withCal {ps : List Part} {s t : State} {x : CalibrationRun} (h : Frame ps s t)
    (m : Part.cal ∈ ps := by decide) : Frame ps s { t with cal := x } := by
  refine h.trans ⟨fun p hp => ?_⟩
  cases p <;> first | exact ⟨rfl, rfl, rfl⟩ | exact ⟨rfl, rfl⟩ | rfl | exact absurd m hp

theorem Frame.withStore {ps : List Part} {s t : State} {x : List Word} (h : Frame ps s t)
    (m : Part.store ∈ ps := by decide) : Frame ps s { t with store := x } := by
  refine h.trans ⟨fun p hp => ?_⟩
  cases p <;> first | exact ⟨rfl, rfl, rfl⟩ | exact ⟨rfl, rfl⟩ | rfl | exact absurd m hp

theorem Frame.withContacts {ps : List Part} {s t : State} {x : Vector Contacts 4} (h : Frame ps s t)
    (m : Part.contacts ∈ ps := by decide) : Frame ps s { t with contacts := x } := by
  refine h.trans ⟨fun p hp => ?_⟩
  cases p <;> first | exact ⟨rfl, rfl, rfl⟩ | exact ⟨rfl, rfl⟩ | rfl | exact absurd m hp

theorem Frame.withLoading {ps : List Part} {s t : State} {x : Bool} (h : Frame ps s t)
    (m : Part.loading ∈ ps := by decide) : Frame ps s { t with loading := x } := by
  refine h.trans ⟨fun p hp => ?_⟩
  cases p <;> first | exact ⟨rfl, rfl, rfl⟩ | exact ⟨rfl, rfl⟩ | rfl | exact absurd m hp

theorem Frame.setBarrier {ps : List Part} {s t : State} {i : Fin 4} {r : BarrierRecord} (h : Frame ps s t)
    (m : Part.barriers ∈ ps := by decide) : Frame ps s (t.setBarrier i r) := h.withBarriers m

theorem Frame.setApproach {ps : List Part} {s t : State} {i : Fin 4} {r : ApproachRecord} (h : Frame ps s t)
    (m : Part.approaches ∈ ps := by decide) : Frame ps s (t.setApproach i r) := h.withApproaches m

theorem Frame.setSection {ps : List Part} {s t : State} {i : Fin 8} {r : SectionRecord} (h : Frame ps s t)
    (m : Part.sections ∈ ps := by decide) : Frame ps s (t.setSection i r) := h.withSections m

theorem Frame.setHead {ps : List Part} {s t : State} {i : Fin 16} {r : HeadRecord} (h : Frame ps s t)
    (m : Part.heads ∈ ps := by decide) : Frame ps s (t.setHead i r) := h.withHeads m

theorem Frame.setCal {ps : List Part} {s t : State} {c : CalibrationRun} (h : Frame ps s t)
    (m : Part.cal ∈ ps := by decide) : Frame ps s (t.setCal c) := h.withCal m

theorem Frame.setLamp {ps : List Part} {s t : State} {i : Fin 12} {r : LampRecord} (h : Frame ps s t)
    (m : Part.lamp ∈ ps := by decide) : Frame ps s (t.setLamp i r) :=
  h.withLamp m (.inr rfl) (.inr rfl) (.inr ⟨rfl, rfl⟩)

/-- One branch of a choice is taken. -/
theorem Frame.ite {ps : List Part} {c : Prop} [Decidable c] {s t u : State} (h : Frame ps s t)
    (k : Frame ps s u) : Frame ps s (if c then t else u) := by
  split
  · exact h
  · exact k

/-- An operation for each index keeps the frame each single one keeps. -/
theorem forEach_frame {ps : List Part} {n : Nat} {f : Fin n → State → State}
    (h : ∀ i s, Frame ps s (f i s)) (s : State) : Frame ps s (forEach n f s) := by
  have aux : ∀ (l : List (Fin n)) (s : State), Frame ps s (l.foldl (fun s i => f i s) s) := by
    intro l
    induction l with
    | nil => exact fun s => Frame.refl ps s
    | cons i l ih => exact fun s => (h i s).trans (ih (f i s))
  exact aux _ s

/-- The same, after another operation. -/
theorem forEach_next {ps : List Part} {n : Nat} {f : Fin n → State → State} {s t : State}
    (h : ∀ i s, Frame ps s (f i s)) (k : Frame ps s t) : Frame ps s (forEach n f t) :=
  k.trans (forEach_frame h t)

/-- What every operation for an index keeps, all of them keep. -/
theorem forEach_keeps {P : State → Prop} {n : Nat} {f : Fin n → State → State}
    (h : ∀ i s, P s → P (f i s)) {s : State} (hs : P s) : P (forEach n f s) := by
  have aux : ∀ (l : List (Fin n)) (s : State), P s → P (l.foldl (fun s i => f i s) s) := by
    intro l
    induction l with
    | nil => exact fun s hs => hs
    | cons i l ih => exact fun s hs => ih (f i s) (h i s hs)
  exact aux _ s hs

section
variable {ps : List Part} {s t : State} (h : Frame ps s t)
include h

theorem Frame.supply (m : Part.lines ∉ ps) : t.supply = s.supply := (h.same _ m).1
theorem Frame.resetHeld (m : Part.lines ∉ ps) : t.resetHeld = s.resetHeld := (h.same _ m).2
theorem Frame.loading (m : Part.loading ∉ ps) : t.loading = s.loading := h.same _ m
theorem Frame.now (m : Part.now ∉ ps) : t.now = s.now := h.same _ m
theorem Frame.store (m : Part.store ∉ ps) : t.store = s.store := h.same _ m
theorem Frame.contacts (m : Part.contacts ∉ ps) : t.contacts = s.contacts := h.same _ m
theorem Frame.pending (m : Part.pending ∉ ps) : t.pending = s.pending := h.same _ m
theorem Frame.tables (m : Part.tables ∉ ps) : t.tm.tables = s.tm.tables := h.same _ m
theorem Frame.valid (m : Part.flag ∉ ps) : t.tm.valid = s.tm.valid := (h.same _ m).1
theorem Frame.ownValidated (m : Part.flag ∉ ps) : t.tm.ownValidated = s.tm.ownValidated := (h.same _ m).2.1
theorem Frame.derived (m : Part.flag ∉ ps) : t.tm.derived = s.tm.derived := (h.same _ m).2.2
theorem Frame.saveRun (m : Part.save ∉ ps) : t.tm.saveRun = s.tm.saveRun := (h.same _ m).1
theorem Frame.portA (m : Part.ports ∉ ps) : t.lnu.portA = s.lnu.portA := (h.same _ m).1
theorem Frame.portB (m : Part.ports ∉ ps) : t.lnu.portB = s.lnu.portB := (h.same _ m).2
theorem Frame.queue (m : Part.queue ∉ ps) : t.lnu.queue = s.lnu.queue := (h.same _ m).1
theorem Frame.processor (m : Part.queue ∉ ps) : t.lnu.processor = s.lnu.processor := (h.same _ m).2.1
theorem Frame.restarting (m : Part.queue ∉ ps) : t.lnu.restarting = s.lnu.restarting := (h.same _ m).2.2
theorem Frame.passed (m : Part.passed ∉ ps) : t.lnu.passed = s.lnu.passed := h.same _ m
theorem Frame.heads (m : Part.heads ∉ ps) : t.heads = s.heads := h.same _ m
theorem Frame.sections (m : Part.sections ∉ ps) : t.sections = s.sections := h.same _ m
theorem Frame.approaches (m : Part.approaches ∉ ps) : t.approaches = s.approaches := h.same _ m
theorem Frame.crossing (m : Part.crossing ∉ ps) : t.crossing = s.crossing := h.same _ m
theorem Frame.request (m : Part.request ∉ ps) :
    t.crossing.closureRequest = s.crossing.closureRequest := h.same _ m
theorem Frame.lamp (m : Part.lamp ∉ ps) : t.lamp = s.lamp := h.same _ m
theorem Frame.redProved (m : Part.redProved ∉ ps) : t.lamp.redProved = s.lamp.redProved := h.same _ m
theorem Frame.lampTest (m : Part.lampTest ∉ ps) : t.lamp.test = s.lamp.test := h.same _ m
theorem Frame.aspect (m : Part.handedOn ∉ ps) : t.lamp.aspect = s.lamp.aspect := (h.same _ m).1
theorem Frame.sound (m : Part.handedOn ∉ ps) : t.lamp.sound = s.lamp.sound := (h.same _ m).2
theorem Frame.results (m : Part.results ∉ ps) : t.scan.results = s.scan.results := h.same _ m
theorem Frame.newFault (m : Part.newFault ∉ ps) : t.report.newFault = s.report.newFault := (h.same _ m).1
theorem Frame.linkEnd (m : Part.link ∉ ps) : t.report.linkEnd = s.report.linkEnd := h.same _ m
theorem Frame.bank0 (m : Part.banks ∉ ps) : t.report.bank0 = s.report.bank0 := (h.same _ m).1
theorem Frame.bank1 (m : Part.banks ∉ ps) : t.report.bank1 = s.report.bank1 := (h.same _ m).2
theorem Frame.overflow (m : Part.overflow ∉ ps) : t.lnu.overflow = s.lnu.overflow := (h.same _ m).1
theorem Frame.saveImage (m : Part.save ∉ ps) : t.tm.saveImage = s.tm.saveImage := (h.same _ m).2
theorem Frame.barriers (m : Part.barriers ∉ ps) : t.barriers = s.barriers := h.same _ m
theorem Frame.cal (m : Part.cal ∉ ps) : t.cal = s.cal := h.same _ m
theorem Frame.faults (m : Part.faults ∉ ps) : t.faults = s.faults := h.same _ m
theorem Frame.handed (m : Part.handed ∉ ps) : t.handed = s.handed := h.same _ m

end

end Sys2Proof.Machine
end

