-- ==== Sys2Proof/Laws/Faults.lean ====
section
/-! SUPPORT. What the Fault Recorder's operations can do (R140 to R145). -/

namespace Sys2Proof.Machine

-- The package compiled as one text would start more threads than its memory limit allows.
set_option Elab.async false

theorem markNewFault_frame (c : FaultCode) (s : State) : Frame [.newFault] s (markNewFault c s) := by
  unfold markNewFault
  split
  · exact .refl _ _
  · exact (Frame.refl _ _).withReport

theorem becameActive_frame (c : FaultCode) (s : State) :
    Frame [.newFault, .handed] s (becameActive c s) := by
  unfold becameActive
  split
  · exact ((Frame.refl _ _).step (markNewFault_frame c s)).withHanded
  · exact (Frame.refl _ _).step (markNewFault_frame c s)

/-- A condition reported present changes the fault table, the new-fault flags and the notice, nothing else. -/
theorem conditionPresent_frame (c : FaultCode) (i : Option Nat) (s : State) :
    Frame [.faults, .newFault, .handed] s (conditionPresent c i s) := by
  unfold conditionPresent
  split
  · split
    · exact (Frame.refl _ _).withFaults.step (becameActive_frame ..)
    · exact (Frame.refl _ _).withFaults
    · exact (Frame.refl _ _).withFaults
  · dsimp only
    split
    · exact (Frame.refl _ _).withFaults.step (becameActive_frame ..)
    · exact (Frame.refl _ _).withFaults

/-- A condition reported ended changes the fault table and nothing else. -/
theorem conditionEnd_frame (c : FaultCode) (i : Option Nat) (s : State) :
    Frame [.faults] s (conditionEnd c i s) := by
  unfold conditionEnd
  split
  · split
    · exact (Frame.refl _ _).withFaults
    · exact (Frame.refl _ _).withFaults
    · exact .refl _ _
  · exact .refl _ _

/-- An event changes the fault table and the new-fault flags, nothing else. -/
theorem eventEntered_frame (c : FaultCode) (i : Option Nat) (d : Option CalReason) (s : State) :
    Frame [.faults, .newFault] s (eventEntered c i d s) := by
  unfold eventEntered
  split
  · exact (Frame.refl _ _).withFaults.step (markNewFault_frame ..)
  · dsimp only
    split
    · exact (Frame.refl _ _).withFaults.step (markNewFault_frame ..)
    · exact (Frame.refl _ _).withFaults

/-- Only an ALARM gives a notice (R145). -/
theorem conditionPresent_quiet {c : FaultCode} (hc : c.cls ≠ .alarm) (i : Option Nat) (s : State) :
    (conditionPresent c i s).handed = s.handed := by
  have ha : ∀ s, (becameActive c s).handed = s.handed := by
    intro s
    have hf : (c.cls == FaultClass.alarm) = false := by simpa using hc
    simp only [becameActive, hf]
    exact (markNewFault_frame c s).handed (by decide)
  unfold conditionPresent
  split
  · split
    · exact ha _
    · rfl
    · rfl
  · dsimp only
    split
    · exact ha _
    · rfl

/-- A condition that is no ALARM leaves the notice alone too. -/
theorem conditionPresent_quiet_frame {c : FaultCode} (hc : c.cls ≠ .alarm) (i : Option Nat) (s : State) :
    Frame [.faults, .newFault] s (conditionPresent c i s) := by
  refine ⟨fun p hp => ?_⟩
  by_cases h : p = .handed
  · subst h
    exact conditionPresent_quiet hc i s
  · exact (conditionPresent_frame c i s).same p (by simp_all)

/-! ## The ends of conditions, in either order -/

/-- A record's state does not say what it is for. -/
theorem FaultRecord.isFor_state (r : FaultRecord) (c : FaultCode) (i : Option Nat) (st : RecordState) :
    ({ r with state := st } : FaultRecord).isFor c i = r.isFor c i := rfl

/-- No record is for two conditions. -/
theorem FaultRecord.isFor_other {c c' : FaultCode} {i i' : Option Nat} (hne : c ≠ c' ∨ i ≠ i') {r : FaultRecord}
    (h : r.isFor c i = true) : r.isFor c' i' = false := by
  cases h2 : r.isFor c' i' with
  | false => rfl
  | true =>
    simp only [FaultRecord.isFor, Bool.and_eq_true, beq_iff_eq] at h h2
    exact hne.elim (absurd (h.1.symm.trans h2.1)) (absurd (h.2.symm.trans h2.2))

/-- The record found for a condition, its state put at another, is the record found for it. -/
theorem findRecord_update (rs : List FaultRecord) (c : FaultCode) (i : Option Nat) (st : RecordState) :
    findRecord (updateRecord rs c i fun r => { r with state := st }) c i =
      (findRecord rs c i).map fun r => { r with state := st } := by
  unfold findRecord updateRecord
  rw [List.find?_map]
  have : ((fun x : FaultRecord => x.isFor c i) ∘ fun r : FaultRecord =>
      if r.isFor c i = true then { r with state := st } else r) = fun x => x.isFor c i := by
    funext r; by_cases h : r.isFor c i = true
    · simp only [Function.comp, if_pos h]; exact FaultRecord.isFor_state ..
    · simp only [Function.comp, if_neg h]
  rw [this]
  cases h : List.find? (fun x => x.isFor c i) rs with
  | none => rfl
  | some r => simp only [Option.map_some, if_pos (List.find?_some h)]

/-- The records of another condition are found as before. -/
theorem findRecord_update_other {c c' : FaultCode} {i i' : Option Nat} (hne : c ≠ c' ∨ i ≠ i')
    (rs : List FaultRecord) (st : RecordState) :
    findRecord (updateRecord rs c i fun r => { r with state := st }) c' i' = findRecord rs c' i' := by
  unfold findRecord updateRecord
  rw [List.find?_map]
  have : ((fun x : FaultRecord => x.isFor c' i') ∘ fun r : FaultRecord =>
      if r.isFor c i = true then { r with state := st } else r) = fun x => x.isFor c' i' := by
    funext r; by_cases h : r.isFor c i = true
    · simp only [Function.comp, if_pos h]; exact FaultRecord.isFor_state ..
    · simp only [Function.comp, if_neg h]
  rw [this]
  cases h : List.find? (fun x => x.isFor c' i') rs with
  | none => rfl
  | some r =>
    have h' : r.isFor c' i' = true := List.find?_some (p := fun x : FaultRecord => x.isFor c' i') h
    have hr : r.isFor c i = false := FaultRecord.isFor_other (hne.imp Ne.symm Ne.symm) h'
    simp only [Option.map_some, hr, Bool.false_eq_true, if_false]

/-- The records of another condition are found as before, where one's record is removed. -/
theorem findRecord_remove_other {c c' : FaultCode} {i i' : Option Nat} (hne : c ≠ c' ∨ i ≠ i')
    (rs : List FaultRecord) :
    findRecord (rs.filter fun r => !r.isFor c i) c' i' = findRecord rs c' i' := by
  unfold findRecord
  rw [List.find?_filter]
  congr 1; funext r
  cases h : r.isFor c' i' with
  | false => simp
  | true => simp [FaultRecord.isFor_other (hne.imp Ne.symm Ne.symm) h]

/-- A condition that has ended does not end again (R142). -/
theorem conditionEnd_idem (c : FaultCode) (i : Option Nat) (s : State) :
    conditionEnd c i (conditionEnd c i s) = conditionEnd c i s := by
  cases hf : findRecord s.faults.records c i with
  | none =>
    have e : conditionEnd c i s = s := by simp only [conditionEnd, hf]
    rw [e, e]
  | some r =>
    cases h : r.state with
    | latched =>
      have e : conditionEnd c i s = s := by simp only [conditionEnd, hf, h]
      rw [e, e]
    | active =>
      have e : conditionEnd c i s = { s with faults := { s.faults with
          records := updateRecord s.faults.records c i fun r => { r with state := .latched } } } := by
        simp only [conditionEnd, hf, h]
      rw [e]
      simp only [conditionEnd, findRecord_update, hf, Option.map_some]
    | acceptedActive =>
      have e : conditionEnd c i s = { s with faults := { s.faults with
          records := s.faults.records.filter fun r => !r.isFor c i } } := by
        simp only [conditionEnd, hf, h]
      have hn : findRecord (s.faults.records.filter fun r => !r.isFor c i) c i = none := by
        simp [findRecord, List.find?_eq_none]
      rw [e]
      simp only [conditionEnd, hn]

/-- Records of two conditions change in either order. -/
theorem updateRecord_comm {c c' : FaultCode} {i i' : Option Nat} (hne : c ≠ c' ∨ i ≠ i') (rs : List FaultRecord)
    (st st' : RecordState) :
    updateRecord (updateRecord rs c i fun r => { r with state := st }) c' i' (fun r => { r with state := st' }) =
    updateRecord (updateRecord rs c' i' fun r => { r with state := st' }) c i (fun r => { r with state := st }) := by
  simp only [updateRecord, List.map_map]
  congr 1; funext r
  simp only [Function.comp]
  by_cases h : r.isFor c i = true
  · have h' := FaultRecord.isFor_other hne h
    simp [h, h', FaultRecord.isFor_state]
  · by_cases h' : r.isFor c' i' = true
    · simp [h, h', FaultRecord.isFor_state]
    · simp [h, h']

/-- One condition's record changes and another's goes in either order. -/
theorem updateRecord_remove (c c' : FaultCode) (i i' : Option Nat) (rs : List FaultRecord) (st : RecordState) :
    (updateRecord rs c i fun r => { r with state := st }).filter (fun r => !r.isFor c' i') =
    updateRecord (rs.filter fun r => !r.isFor c' i') c i (fun r => { r with state := st }) := by
  simp only [updateRecord, List.filter_map]
  congr 2; funext r
  simp only [Function.comp]
  by_cases h : r.isFor c i = true
  · simp [h, FaultRecord.isFor_state]
  · simp [h]

/-- Two conditions end in either order (R142). -/
theorem conditionEnd_comm {c c' : FaultCode} {i i' : Option Nat} (hne : c ≠ c' ∨ i ≠ i') (s : State) :
    conditionEnd c i (conditionEnd c' i' s) = conditionEnd c' i' (conditionEnd c i s) := by
  have hne' := hne.imp Ne.symm Ne.symm
  unfold conditionEnd
  cases h1 : findRecord s.faults.records c i with
  | none =>
    cases h2 : findRecord s.faults.records c' i' with
    | none => simp only [h1]
    | some b => cases hb : b.state <;>
        simp only [h1, hb, findRecord_update_other hne', findRecord_remove_other hne']
  | some a =>
    cases h2 : findRecord s.faults.records c' i' with
    | none => cases ha : a.state <;>
        simp only [h1, h2, ha, findRecord_update_other hne, findRecord_remove_other hne]
    | some b =>
      cases ha : a.state <;> cases hb : b.state <;>
        simp only [h1, h2, ha, hb, findRecord_update_other hne, findRecord_remove_other hne,
          findRecord_update_other hne', findRecord_remove_other hne', updateRecord_comm hne, updateRecord_remove,
           List.filter_filter, Bool.and_comm]

end Sys2Proof.Machine
end

