-- ==== Sys2Proof/Laws/Lnu.lean ====
section
/-! SUPPORT. What the shared operations of the Loop Node Unit (R163 to R171) can do: each leaves every part of State outside its
list as it was. -/

namespace Sys2Proof.Machine

-- The package compiled as one text would start more threads than its memory limit allows.
set_option Elab.async false

theorem statusLeft_frame (newFault overflow : Bool) (s : State) :
    Frame [.newFault, .overflow] s (statusLeft newFault overflow s) := by
  unfold statusLeft
  try dsimp only
  repeat' first
    | with_reducible exact .refl _ _ | with_reducible refine Frame.withReport ?_
    | with_reducible refine Frame.withLnu ?_
    | exact ⟨fun p hp => by cases p <;> first | rfl | exact ⟨rfl, rfl⟩ | exact ⟨rfl, rfl, rfl⟩ | exact absurd (by decide) hp⟩

theorem startPort_frame (p : Port) (s : State) :
    Frame [.ports, .newFault, .overflow] s (startPort p s) := by
  unfold startPort
  try dsimp only
  repeat' first
    | with_reducible exact .refl _ _
    | refine .next (by with_reducible exact statusLeft_frame ..) (by decide) ?_ | split
    | with_reducible refine Frame.withLnu ?_

theorem forwardTo_frame (p : Port) (frame : List Byte) (s : State) :
    Frame [.ports, .newFault, .overflow] s (forwardTo p frame s) := by
  unfold forwardTo
  try dsimp only
  repeat' first
    | with_reducible exact .refl _ _
    | refine .next (by with_reducible exact startPort_frame ..) (by decide) ?_ | split
    | with_reducible refine Frame.withLnu ?_

theorem placeStatus_frame (p : Port) (t : Inserted) (s : State) :
    Frame [.ports, .newFault, .overflow] s (placeStatus p t s) := by
  unfold placeStatus
  try dsimp only
  repeat' first
    | with_reducible exact .refl _ _
    | refine .next (by with_reducible exact startPort_frame ..) (by decide) ?_
    | with_reducible refine Frame.withLnu ?_

theorem placeReply_frame (p : Port) (t : Inserted) (s : State) :
    Frame [.ports, .newFault, .overflow] s (placeReply p t s) := by
  unfold placeReply
  try dsimp only
  repeat' first
    | with_reducible exact .refl _ _
    | refine .next (by with_reducible exact startPort_frame ..) (by decide) ?_ | split
    | with_reducible refine Frame.withLnu ?_

theorem takeCommand_frame (s : State) :
    Frame [.queue] s (takeCommand s) := by
  unfold takeCommand
  try dsimp only
  repeat' first
    | with_reducible exact .refl _ _ | split | with_reducible refine Frame.withLnu ?_

theorem joinQueue_frame (c : QueuedCommand) (s : State) :
    Frame [.queue, .overflow] s (joinQueue c s) := by
  unfold joinQueue
  try dsimp only
  repeat' first
    | with_reducible exact .refl _ _
    | refine .next (by with_reducible exact takeCommand_frame ..) (by decide) ?_ | split
    | with_reducible refine Frame.withLnu ?_

end Sys2Proof.Machine
end

