-- ==== Sys2Proof/Laws/Report.lean ====
section
/-! SUPPORT. What the shared operations of the Report Unit (R151 to R156) can do: each leaves every part of State outside its
list as it was. -/

namespace Sys2Proof.Machine

-- The package compiled as one text would start more threads than its memory limit allows.
set_option Elab.async false

theorem produceStatus_frame (s : State) :
    Frame [.ports, .newFault, .overflow, .status] s (produceStatus s) := by
  unfold produceStatus
  try dsimp only
  repeat' first
    | with_reducible exact .refl _ _
    | refine .next (by with_reducible exact placeStatus_frame ..) (by decide) ?_ | split
    | with_reducible refine Frame.withReport ?_ | with_reducible refine Frame.withLnu ?_
    | exact ⟨fun p hp => by cases p <;> first | rfl | exact ⟨rfl, rfl⟩ | exact ⟨rfl, rfl, rfl⟩ | exact absurd (by decide) hp⟩

theorem reportTurn_frame (s : State) :
    Frame [.ports, .newFault, .overflow, .status, .handed] s (reportTurn s) := by
  unfold reportTurn
  try dsimp only
  repeat' first
    | with_reducible exact .refl _ _
    | refine .next (by with_reducible exact produceStatus_frame ..) (by decide) ?_ | split
    | with_reducible refine Frame.withHanded ?_

theorem linkRefresh_frame (source : Nat) (s : State) :
    Frame [.link, .faults] s (linkRefresh source s) := by
  unfold linkRefresh
  try dsimp only
  repeat' first
    | with_reducible exact .refl _ _
    | refine .next (by with_reducible exact conditionEnd_frame ..) (by decide) ?_ | split
    | with_reducible refine Frame.withReport ?_

theorem appendPassage_frame (p : PassageRecord) (s : State) :
    Frame [.banks, .faults, .newFault] s (appendPassage p s) := by
  unfold appendPassage
  try dsimp only
  repeat' first
    | with_reducible exact .refl _ _
    | refine .next (by with_reducible exact eventEntered_frame ..) (by decide) ?_ | split
    | with_reducible refine Frame.withReport ?_

end Sys2Proof.Machine
end

