-- ==== Sys2Proof/Laws/Barrier.lean ====
section
/-! SUPPORT. What the shared operations of the Barrier Controller (R107 to R121) can do: each leaves every part of State outside its
list as it was. -/

namespace Sys2Proof.Machine

-- The package compiled as one text would start more threads than its memory limit allows.
set_option Elab.async false

theorem enterAtEnd_frame (i : Fin 4) (s : State) :
    Frame [.barriers, .faults] s (enterAtEnd i s) := by
  unfold enterAtEnd
  try dsimp only
  repeat' first
    | with_reducible exact .refl _ _
    | refine .next (by with_reducible exact conditionEnd_frame ..) (by decide) ?_
    | with_reducible refine Frame.setBarrier ?_

theorem startMove_frame (i : Fin 4) (d : BarrierEnd) (fresh : Bool) (s : State) :
    Frame [.barriers] s (startMove i d fresh s) := by
  unfold startMove
  try dsimp only
  repeat' first
    | with_reducible exact .refl _ _ | with_reducible refine Frame.setBarrier ?_

theorem beginOrder_frame (i : Fin 4) (d : BarrierEnd) (s : State) :
    Frame [.barriers, .faults] s (beginOrder i d s) := by
  unfold beginOrder
  try dsimp only
  repeat' first
    | with_reducible exact .refl _ _
    | refine .next (by with_reducible exact enterAtEnd_frame ..) (by decide) ?_
    | refine .next (by with_reducible exact startMove_frame ..) (by decide) ?_
    | refine .next (by with_reducible exact conditionEnd_frame ..) (by decide) ?_ | split
    | with_reducible refine Frame.setBarrier ?_

theorem order_frame (i : Fin 4) (d : BarrierEnd) (s : State) :
    Frame [.barriers, .faults] s (order i d s) := by
  unfold order
  try dsimp only
  repeat' first
    | with_reducible exact .refl _ _
    | refine .next (by with_reducible exact beginOrder_frame ..) (by decide) ?_ | split
    | with_reducible refine Frame.setBarrier ?_

theorem orderRole_frame (role : BarrierRole) (d : BarrierEnd) (s : State) :
    Frame [.barriers, .faults] s (orderRole role d s) := by
  unfold orderRole
  try dsimp only
  repeat' first
    | with_reducible refine forEach_next (fun i s => ?_) ?_ | with_reducible exact .refl _ _
    | refine .next (by with_reducible exact order_frame ..) (by decide) ?_ | split

theorem stopAll_frame (s : State) :
    Frame [.barriers] s (stopAll s) := by
  unfold stopAll
  try dsimp only
  repeat' first
    | with_reducible refine forEach_next (fun i s => ?_) ?_ | with_reducible exact .refl _ _
    | with_reducible refine Frame.setBarrier ?_

theorem gateSide_frame (side : Side) (red : Bool) (s : State) :
    Frame [.barriers] s (gateSide side red s) := by
  unfold gateSide
  try dsimp only
  repeat' first
    | with_reducible refine forEach_next (fun i s => ?_) ?_ | with_reducible exact .refl _ _ | split
    | with_reducible refine Frame.setBarrier ?_

theorem judgeProving_frame (i : Fin 4) (s : State) :
    Frame [.barriers, .faults] s (judgeProving i s) := by
  unfold judgeProving
  try dsimp only
  repeat' first
    | with_reducible exact .refl _ _
    | refine .next (by with_reducible exact enterAtEnd_frame ..) (by decide) ?_
    | refine .next (by with_reducible exact startMove_frame ..) (by decide) ?_ | split
    | with_reducible refine Frame.setBarrier ?_

theorem judgeDisagreement_frame (i : Fin 4) (s : State) :
    Frame [.barriers, .faults] s (judgeDisagreement i s) := by
  unfold judgeDisagreement
  try dsimp only
  repeat' first
    | with_reducible exact .refl _ _
    | refine .next (by with_reducible exact conditionEnd_frame ..) (by decide) ?_ | split
    | with_reducible refine Frame.setBarrier ?_

theorem judgeBarrier_frame (i : Fin 4) (s : State) :
    Frame [.barriers, .faults] s (judgeBarrier i s) := by
  unfold judgeBarrier
  try dsimp only
  repeat' first
    | with_reducible exact .refl _ _
    | refine .next (by with_reducible exact judgeProving_frame ..) (by decide) ?_
    | refine .next (by with_reducible exact judgeDisagreement_frame ..) (by decide) ?_

theorem contactMotion_frame (i : Fin 4) (d : BarrierEnd) (closed : Bool) (s : State) :
    Frame [.barriers] s (contactMotion i d closed s) := by
  unfold contactMotion
  try dsimp only
  repeat' first
    | with_reducible exact .refl _ _ | split | with_reducible refine Frame.setBarrier ?_

theorem judgeFeedback_frame (i : Fin 4) (overrange : Bool) (s : State) :
    Frame [.barriers, .faults, .newFault] s (judgeFeedback i overrange s) := by
  unfold judgeFeedback
  try dsimp only
  repeat' first
    | with_reducible exact .refl _ _
    | refine .next (by with_reducible exact conditionPresent_quiet_frame (by decide) ..) (by decide) ?_
    | refine .next (by with_reducible exact conditionEnd_frame ..) (by decide) ?_ | split
    | with_reducible refine Frame.setBarrier ?_

theorem angleResult_frame (i : Fin 4) (result : ScanResult) (s : State) :
    Frame [.barriers, .faults, .newFault] s (angleResult i result s) := by
  unfold angleResult
  try dsimp only
  repeat' first
    | with_reducible exact .refl _ _
    | refine .next (by with_reducible exact judgeBarrier_frame ..) (by decide) ?_
    | refine .next (by with_reducible exact judgeFeedback_frame ..) (by decide) ?_ | split
    | with_reducible refine Frame.setBarrier ?_

theorem trip_frame (i : Fin 4) (s : State) :
    Frame [.barriers, .faults, .newFault, .handed] s (trip i s) := by
  unfold trip
  try dsimp only
  repeat' first
    | with_reducible exact .refl _ _
    | refine .next (by with_reducible exact conditionPresent_frame ..) (by decide) ?_
    | refine .next (by with_reducible exact eventEntered_frame ..) (by decide) ?_ | split
    | with_reducible refine Frame.setBarrier ?_

theorem currentResult_frame (i : Fin 4) (result : ScanResult) (s : State) :
    Frame [.barriers, .faults, .newFault, .handed] s (currentResult i result s) := by
  unfold currentResult
  try dsimp only
  repeat' first
    | with_reducible exact .refl _ _
    | refine .next (by with_reducible exact trip_frame ..) (by decide) ?_ | split

theorem startPhaseEnds_frame (i : Fin 4) (s : State) :
    Frame [.barriers] s (startPhaseEnds i s) := by
  unfold startPhaseEnds
  try dsimp only
  repeat' first
    | with_reducible exact .refl _ _ | split | with_reducible refine Frame.setBarrier ?_

theorem pauseEnds_frame (phase : BarrierPhase) (fresh : Bool) (i : Fin 4) (s : State) :
    Frame [.barriers, .faults] s (pauseEnds phase fresh i s) := by
  unfold pauseEnds
  try dsimp only
  repeat' first
    | with_reducible exact .refl _ _
    | refine .next (by with_reducible exact enterAtEnd_frame ..) (by decide) ?_
    | refine .next (by with_reducible exact startMove_frame ..) (by decide) ?_ | split

theorem travelEnds_frame (i : Fin 4) (s : State) :
    Frame [.barriers, .faults, .newFault, .handed] s (travelEnds i s) := by
  unfold travelEnds
  try dsimp only
  repeat' first
    | with_reducible exact .refl _ _
    | refine .next (by with_reducible exact conditionPresent_frame ..) (by decide) ?_ | split
    | with_reducible refine Frame.setBarrier ?_

theorem disagreementEnds_frame (i : Fin 4) (s : State) :
    Frame [.barriers, .faults, .newFault, .handed] s (disagreementEnds i s) := by
  unfold disagreementEnds
  try dsimp only
  repeat' first
    | with_reducible exact .refl _ _
    | refine .next (by with_reducible exact conditionPresent_frame ..) (by decide) ?_ | split
    | with_reducible refine Frame.setBarrier ?_

theorem takeBarrierOut_frame (i : Fin 4) (s : State) :
    Frame [.barriers, .faults] s (takeBarrierOut i s) := by
  unfold takeBarrierOut
  try dsimp only
  repeat' first
    | with_reducible exact .refl _ _
    | refine .next (by with_reducible exact conditionEnd_frame ..) (by decide) ?_
    | with_reducible refine Frame.setBarrier ?_

theorem rejudgePosition_frame (i : Fin 4) (s : State) :
    Frame [.barriers, .faults] s (rejudgePosition i s) := by
  unfold rejudgePosition
  try dsimp only
  repeat' first
    | with_reducible exact .refl _ _
    | refine .next (by with_reducible exact judgeBarrier_frame ..) (by decide) ?_ | split
    | with_reducible refine Frame.setBarrier ?_

end Sys2Proof.Machine
end

