-- ==== Sys2Proof/Laws/Lamp.lean ====
section
/-! SUPPORT. What the shared operations of the Lamp Controller (R89 to R103) can do: each leaves every part of State outside its
list as it was. -/

namespace Sys2Proof.Machine

-- The package compiled as one text would start more threads than its memory limit allows.
set_option Elab.async false

theorem formRed_frame (side : Side) (s : State) :
    Frame [.lamp, .redProved, .barriers, .faults] s (formRed side s) := by
  unfold formRed
  try dsimp only
  repeat' first
    | with_reducible exact .refl _ _
    | refine .next (by with_reducible exact gateSide_frame ..) (by decide) ?_
    | refine .next (by with_reducible exact conditionEnd_frame ..) (by decide) ?_ | split
    | with_reducible refine Frame.withLamp ?_

theorem formBothRed_frame (s : State) :
    Frame [.lamp, .redProved, .barriers, .faults] s (formBothRed s) := by
  unfold formBothRed
  try dsimp only
  repeat' first
    | with_reducible exact .refl _ _
    | refine .next (by with_reducible exact formRed_frame ..) (by decide) ?_

theorem setMode_frame (i : Fin 12) (mode : LampMode) (s : State) :
    Frame [.lamp, .faults] s (setMode i mode s) := by
  unfold setMode
  try dsimp only
  repeat' first
    | with_reducible exact .refl _ _
    | refine .next (by with_reducible exact conditionEnd_frame ..) (by decide) ?_ | split
    | with_reducible refine Frame.setLamp ?_

theorem countJudged_frame (i : Fin 12) (ok : Bool) (s : State) :
    Frame [.lamp, .faults, .newFault] s (countJudged i ok s) := by
  unfold countJudged
  try dsimp only
  repeat' first
    | with_reducible exact .refl _ _
    | refine .next (by with_reducible exact conditionPresent_quiet_frame (by decide) ..) (by decide) ?_
    | refine .next (by with_reducible exact conditionEnd_frame ..) (by decide) ?_ | split
    | with_reducible refine Frame.setLamp ?_

theorem judgeInterval_frame (i : Fin 12) (s : State) :
    Frame [.lamp, .faults, .newFault] s (judgeInterval i s) := by
  unfold judgeInterval
  try dsimp only
  repeat' first
    | with_reducible exact .refl _ _
    | refine .next (by with_reducible exact countJudged_frame ..) (by decide) ?_
    | with_reducible refine Frame.setLamp ?_

theorem flashResult_frame (i : Fin 12) (res : ScanResult) (s : State) :
    Frame [.lamp, .faults, .newFault] s (flashResult i res s) := by
  unfold flashResult
  try dsimp only
  repeat' first
    | with_reducible exact .refl _ _
    | refine .next (by with_reducible exact judgeInterval_frame ..) (by decide) ?_ | split
    | with_reducible refine Frame.setLamp ?_

theorem darkResult_frame (i : Fin 12) (res : ScanResult) (s : State) :
    Frame [.lamp, .faults, .newFault] s (darkResult i res s) := by
  unfold darkResult
  try dsimp only
  repeat' first
    | with_reducible exact .refl _ _
    | refine .next (by with_reducible exact conditionPresent_quiet_frame (by decide) ..) (by decide) ?_
    | refine .next (by with_reducible exact conditionEnd_frame ..) (by decide) ?_ | split
    | with_reducible refine Frame.setLamp ?_

theorem lampResult_frame (i : Fin 12) (res : ScanResult) (s : State) :
    Frame [.lamp, .redProved, .barriers, .faults, .newFault] s (lampResult i res s) := by
  unfold lampResult
  try dsimp only
  repeat' first
    | with_reducible exact .refl _ _
    | refine .next (by with_reducible exact formBothRed_frame ..) (by decide) ?_
    | refine .next (by with_reducible exact countJudged_frame ..) (by decide) ?_
    | refine .next (by with_reducible exact flashResult_frame ..) (by decide) ?_
    | refine .next (by with_reducible exact darkResult_frame ..) (by decide) ?_ | split

theorem openLit_frame (phase : Phase) (i : Fin 12) (s : State) :
    Frame [.lamp, .faults, .newFault] s (openLit phase i s) := by
  unfold openLit
  try dsimp only
  repeat' first
    | with_reducible exact .refl _ _
    | refine .next (by with_reducible exact judgeInterval_frame ..) (by decide) ?_ | split
    | with_reducible refine Frame.setLamp ?_

theorem startHalfPeriod_frame (phase : Phase) (s : State) :
    Frame [.lamp, .redProved, .barriers, .faults, .newFault] s (startHalfPeriod phase s) := by
  unfold startHalfPeriod
  try dsimp only
  repeat' first
    | with_reducible refine forEach_next (fun i s => ?_) ?_ | with_reducible exact .refl _ _
    | refine .next (by with_reducible exact formBothRed_frame ..) (by decide) ?_
    | refine .next (by with_reducible exact openLit_frame ..) (by decide) ?_
    | with_reducible refine Frame.withLamp ?_

theorem halfPeriodEnds_frame (s : State) :
    Frame [.lamp, .redProved, .barriers, .faults, .newFault] s (halfPeriodEnds s) := by
  unfold halfPeriodEnds
  try dsimp only
  repeat' first
    | with_reducible exact .refl _ _
    | refine .next (by with_reducible exact startHalfPeriod_frame ..) (by decide) ?_ | split

theorem darkTimerOnAspect_frame (side : Side) (s : State) :
    Frame [.lamp, .faults] s (darkTimerOnAspect side s) := by
  unfold darkTimerOnAspect
  try dsimp only
  repeat' first
    | with_reducible exact .refl _ _
    | refine .next (by with_reducible exact conditionEnd_frame ..) (by decide) ?_ | split
    | with_reducible refine Frame.withLamp ?_

theorem changeAspect_frame (a : Aspect) (s : State) :
    Frame [.lamp, .redProved, .handedOn, .barriers, .faults, .newFault] s (changeAspect a s) := by
  unfold changeAspect
  try dsimp only
  repeat' first
    | with_reducible refine forEach_next (fun i s => ?_) ?_ | with_reducible exact .refl _ _
    | refine .next (by with_reducible exact formBothRed_frame ..) (by decide) ?_
    | refine .next (by with_reducible exact setMode_frame ..) (by decide) ?_
    | refine .next (by with_reducible exact darkTimerOnAspect_frame ..) (by decide) ?_
    | refine .next (by with_reducible exact startHalfPeriod_frame ..) (by decide) ?_ | split
    | with_reducible refine Frame.withLamp ?_

theorem changeSound_frame (on : Bool) (s : State) :
    Frame [.lamp, .handedOn] s (changeSound on s) := by
  unfold changeSound
  try dsimp only
  repeat' first
    | with_reducible exact .refl _ _ | with_reducible refine Frame.withLamp ?_

theorem takeAspect_frame (s : State) :
    Frame [.lamp, .redProved, .handedOn, .barriers, .faults, .newFault] s (takeAspect s) := by
  unfold takeAspect
  try dsimp only
  repeat' first
    | with_reducible exact .refl _ _
    | refine .next (by with_reducible exact changeAspect_frame ..) (by decide) ?_
    | refine .next (by with_reducible exact changeSound_frame ..) (by decide) ?_ | split

theorem darkTimerEnds_frame (side : Side) (s : State) :
    Frame [.lamp, .faults, .newFault, .handed] s (darkTimerEnds side s) := by
  unfold darkTimerEnds
  try dsimp only
  repeat' first
    | with_reducible exact .refl _ _
    | refine .next (by with_reducible exact conditionPresent_frame ..) (by decide) ?_ | split
    | with_reducible refine Frame.withLamp ?_

theorem audibleResult_frame (i : Fin 2) (res : ScanResult) (s : State) :
    Frame [.lamp, .faults, .newFault] s (audibleResult i res s) := by
  unfold audibleResult
  try dsimp only
  repeat' first
    | with_reducible exact .refl _ _
    | refine .next (by with_reducible exact conditionPresent_quiet_frame (by decide) ..) (by decide) ?_
    | refine .next (by with_reducible exact conditionEnd_frame ..) (by decide) ?_ | split
    | with_reducible refine Frame.withLamp ?_

theorem setDuty_frame (vBat : Nat) (s : State) :
    Frame [.lamp] s (setDuty vBat s) := by
  unfold setDuty
  try dsimp only
  repeat' first
    | with_reducible exact .refl _ _ | split | with_reducible refine Frame.withLamp ?_

theorem openSlot_frame (from_ : Nat) (s : State) :
    Frame [.lamp, .lampTest, .faults] s (openSlot from_ s) := by
  unfold openSlot
  try dsimp only
  repeat' first
    | with_reducible exact .refl _ _
    | refine .next (by with_reducible exact setMode_frame ..) (by decide) ?_ | split
    | with_reducible refine Frame.withLamp ?_

theorem startLampTest_frame (s : State) :
    Frame [.lamp, .lampTest, .faults] s (startLampTest s) := by
  unfold startLampTest
  try dsimp only
  repeat' first
    | with_reducible refine forEach_next (fun i s => ?_) ?_ | with_reducible exact .refl _ _
    | refine .next (by with_reducible exact setMode_frame ..) (by decide) ?_
    | refine .next (by with_reducible exact openSlot_frame ..) (by decide) ?_
    | with_reducible refine Frame.withLamp ?_

theorem slotEnds_frame (s : State) :
    Frame [.lamp, .lampTest, .redProved, .barriers, .faults] s (slotEnds s) := by
  unfold slotEnds
  try dsimp only
  repeat' first
    | with_reducible exact .refl _ _
    | refine .next (by with_reducible exact formBothRed_frame ..) (by decide) ?_
    | refine .next (by with_reducible exact setMode_frame ..) (by decide) ?_
    | refine .next (by with_reducible exact openSlot_frame ..) (by decide) ?_ | split
    | with_reducible refine Frame.withLamp ?_

theorem endLampTest_frame (s : State) :
    Frame [.lamp, .lampTest] s (endLampTest s) := by
  unfold endLampTest
  try dsimp only
  repeat' first
    | with_reducible exact .refl _ _ | split | with_reducible refine Frame.withLamp ?_

theorem lampOnClear_frame (i : Fin 12) (s : State) :
    Frame [.lamp, .faults] s (lampOnClear i s) := by
  unfold lampOnClear
  try dsimp only
  repeat' first
    | with_reducible exact .refl _ _
    | refine .next (by with_reducible exact setMode_frame ..) (by decide) ?_
    | refine .next (by with_reducible exact conditionEnd_frame ..) (by decide) ?_
    | with_reducible refine Frame.setLamp ?_

theorem zeroAudible_frame (s : State) :
    Frame [.lamp] s (zeroAudible s) := by
  unfold zeroAudible
  try dsimp only
  repeat' first
    | with_reducible exact .refl _ _ | with_reducible refine Frame.withLamp ?_

theorem lampsOnClear_frame (s : State) :
    Frame [.lamp, .lampTest, .redProved, .barriers, .faults] s (lampsOnClear s) := by
  unfold lampsOnClear
  try dsimp only
  repeat' first
    | with_reducible refine forEach_next (fun i s => ?_) ?_ | with_reducible exact .refl _ _
    | refine .next (by with_reducible exact formBothRed_frame ..) (by decide) ?_
    | refine .next (by with_reducible exact endLampTest_frame ..) (by decide) ?_
    | refine .next (by with_reducible exact lampOnClear_frame ..) (by decide) ?_
    | refine .next (by with_reducible exact zeroAudible_frame ..) (by decide) ?_
    | refine .next (by with_reducible exact conditionEnd_frame ..) (by decide) ?_

end Sys2Proof.Machine
end

