-- ==== Sys2Proof/Laws/Sequencer.lean ====
section
/-! SUPPORT. What the shared operations of the Crossing Sequencer (R61 to R82) can do: each leaves every part of State outside its
list as it was. -/

namespace Sys2Proof.Machine

-- The package compiled as one text would start more threads than its memory limit allows.
set_option Elab.async false

theorem setAspect_frame (a : Aspect) (s : State) :
    Frame [.crossing] s (setAspect a s) := by
  unfold setAspect
  try dsimp only
  repeat' first
    | with_reducible exact .refl _ _ | with_reducible refine Frame.setCrossing ?_

theorem setSound_frame (on : Bool) (s : State) :
    Frame [.crossing] s (setSound on s) := by
  unfold setSound
  try dsimp only
  repeat' first
    | with_reducible exact .refl _ _ | with_reducible refine Frame.setCrossing ?_

theorem setWait_frame (w : StepWait) (s : State) :
    Frame [.crossing] s (setWait w s) := by
  unfold setWait
  try dsimp only
  repeat' first
    | with_reducible exact .refl _ _ | with_reducible refine Frame.setCrossing ?_

theorem stepEffect_frame (k : ProgramStep) (s : State) :
    Frame [.crossing, .barriers, .faults] s (stepEffect k s).1 := by
  unfold stepEffect setAspect setSound
  split
  all_goals
    dsimp only
    repeat' first
      | with_reducible exact .refl _ _
      | refine .next (by with_reducible exact orderRole_frame ..) (by decide) ?_
      | with_reducible refine Frame.setCrossing ?_

theorem runSteps_frame (steps : List ProgramStep) :
    ∀ (n : Nat) (s : State), Frame [.crossing, .barriers, .faults] s (runSteps n steps s).1 := by
  induction steps with
  | nil => exact fun n s => .refl _ _
  | cons k rest ih =>
    intro n s
    unfold runSteps
    split
    · exact .refl _ _
    · have hk := stepEffect_frame k (s.setCrossing { s.crossing with
        step := some n, stepWait := .none, waitEnd := none })
      have h := (Frame.setCrossing (.refl _ s)).trans hk
      dsimp only
      split
      next t heq =>
        rw [heq] at h
        exact h.trans (ih _ _)
      next t w heq =>
        rw [heq] at h
        exact h.setCrossing

theorem enterOpen_frame (s : State) :
    Frame [.crossing] s (enterOpen s) := by
  unfold enterOpen
  try dsimp only
  repeat' first
    | with_reducible exact .refl _ _ | with_reducible refine Frame.setCrossing ?_

theorem runOpening_frame (n : Nat) (s : State) :
    Frame [.crossing, .barriers, .faults] s (runOpening n s) := by
  unfold runOpening
  have h := runSteps_frame ((programTable s .opening).drop (n - 1)) n s
  split
  next t heq =>
    rw [heq] at h
    exact h.step (enterOpen_frame t)
  next t heq =>
    rw [heq] at h
    exact h

theorem enterOpening_frame (s : State) :
    Frame [.crossing, .barriers, .faults] s (enterOpening s) := by
  unfold enterOpening
  try dsimp only
  repeat' first
    | with_reducible exact .refl _ _
    | refine .next (by with_reducible exact runOpening_frame ..) (by decide) ?_
    | refine .next (by with_reducible exact conditionEnd_frame ..) (by decide) ?_
    | with_reducible refine Frame.setCrossing ?_

theorem judgePermit_frame (s : State) :
    Frame [.crossing, .barriers, .faults] s (judgePermit s) := by
  unfold judgePermit
  try dsimp only
  repeat' first
    | with_reducible exact .refl _ _
    | refine .next (by with_reducible exact enterOpening_frame ..) (by decide) ?_ | split
    | with_reducible refine Frame.setCrossing ?_

theorem enterClosed_frame (s : State) :
    Frame [.crossing, .barriers, .faults] s (enterClosed s) := by
  unfold enterClosed
  try dsimp only
  repeat' first
    | with_reducible exact .refl _ _
    | refine .next (by with_reducible exact judgePermit_frame ..) (by decide) ?_
    | with_reducible refine Frame.setCrossing ?_

theorem runClosing_frame (n : Nat) (s : State) :
    Frame [.crossing, .barriers, .faults] s (runClosing n s) := by
  unfold runClosing
  have h := runSteps_frame ((programTable s .closing).drop (n - 1)) n s
  split
  next t heq =>
    rw [heq] at h
    exact h.step (enterClosed_frame t)
  next t heq =>
    rw [heq] at h
    exact h

theorem enterClosing_frame (s : State) :
    Frame [.crossing, .barriers, .faults] s (enterClosing s) := by
  unfold enterClosing
  try dsimp only
  repeat' first
    | with_reducible exact .refl _ _
    | refine .next (by with_reducible exact runClosing_frame ..) (by decide) ?_
    | with_reducible refine Frame.setCrossing ?_

theorem reenterClosing_frame (s : State) :
    Frame [.crossing, .barriers, .faults] s (reenterClosing s) := by
  unfold reenterClosing
  try dsimp only
  repeat' first
    | with_reducible exact .refl _ _
    | refine .next (by with_reducible exact runClosing_frame ..) (by decide) ?_
    | with_reducible refine Frame.setCrossing ?_

theorem orderExits_frame (s : State) :
    Frame [.crossing, .barriers, .faults] s (orderExits s) := by
  unfold orderExits
  try dsimp only
  repeat' first
    | with_reducible exact .refl _ _
    | refine .next (by with_reducible exact orderRole_frame ..) (by decide) ?_
    | with_reducible refine Frame.setCrossing ?_

theorem enterFailed_frame (s : State) :
    Frame [.crossing, .barriers, .faults] s (enterFailed s) := by
  unfold enterFailed
  try dsimp only
  repeat' first
    | with_reducible exact .refl _ _
    | refine .next (by with_reducible exact orderRole_frame ..) (by decide) ?_
    | refine .next (by with_reducible exact orderExits_frame ..) (by decide) ?_ | split
    | with_reducible refine Frame.setCrossing ?_

theorem takeAlarm_frame (s : State) :
    Frame [.crossing, .barriers, .faults, .handed] s (takeAlarm s) := by
  unfold takeAlarm
  try dsimp only
  repeat' first
    | with_reducible exact .refl _ _
    | refine .next (by with_reducible exact enterFailed_frame ..) (by decide) ?_ | split
    | with_reducible refine Frame.withHanded ?_

theorem moveOn_frame (s : State) :
    Frame [.crossing, .barriers, .faults] s (moveOn s) := by
  unfold moveOn
  try dsimp only
  repeat' first
    | with_reducible exact .refl _ _
    | refine .next (by with_reducible exact runOpening_frame ..) (by decide) ?_
    | refine .next (by with_reducible exact runClosing_frame ..) (by decide) ?_ | split
    | with_reducible refine Frame.setCrossing ?_

theorem sequencerTurn_frame (before s : State) :
    Frame [.crossing, .barriers, .faults, .handed] s (sequencerTurn before s) := by
  unfold sequencerTurn
  try dsimp only
  repeat' first
    | with_reducible exact .refl _ _
    | refine .next (by with_reducible exact judgePermit_frame ..) (by decide) ?_
    | refine .next (by with_reducible exact enterClosing_frame ..) (by decide) ?_
    | refine .next (by with_reducible exact reenterClosing_frame ..) (by decide) ?_
    | refine .next (by with_reducible exact moveOn_frame ..) (by decide) ?_
    | refine .next (by with_reducible exact takeAlarm_frame ..) (by decide) ?_ | split

theorem judgeProved_frame (s : State) :
    Frame [.crossing] s (judgeProved s) := by
  unfold judgeProved
  try dsimp only
  repeat' first
    | with_reducible exact .refl _ _ | with_reducible refine Frame.setCrossing ?_

theorem crossingTurn_frame (before s : State) :
    Frame [.crossing, .lamp, .redProved, .handedOn, .barriers, .faults, .newFault, .handed] s
      (crossingTurn before s) := by
  unfold crossingTurn
  try dsimp only
  repeat' first
    | with_reducible exact .refl _ _
    | refine .next (by with_reducible exact judgeProved_frame ..) (by decide) ?_
    | refine .next (by with_reducible exact takeAspect_frame ..) (by decide) ?_
    | refine .next (by with_reducible exact sequencerTurn_frame ..) (by decide) ?_

theorem waitEnds_frame (s : State) :
    Frame [.crossing, .barriers, .faults] s (waitEnds s) := by
  unfold waitEnds
  try dsimp only
  repeat' first
    | with_reducible exact .refl _ _
    | refine .next (by with_reducible exact moveOn_frame ..) (by decide) ?_ | split

theorem permitLapses_frame (s : State) :
    Frame [.crossing] s (permitLapses s) := by
  unfold permitLapses
  try dsimp only
  repeat' first
    | with_reducible exact .refl _ _ | split | with_reducible refine Frame.setCrossing ?_

theorem openDelayEnds_frame (s : State) :
    Frame [.crossing, .barriers, .faults] s (openDelayEnds s) := by
  unfold openDelayEnds
  try dsimp only
  repeat' first
    | with_reducible exact .refl _ _
    | refine .next (by with_reducible exact enterOpening_frame ..) (by decide) ?_ | split

theorem exitDelayEnds_frame (s : State) :
    Frame [.crossing, .barriers, .faults] s (exitDelayEnds s) := by
  unfold exitDelayEnds
  try dsimp only
  repeat' first
    | with_reducible exact .refl _ _
    | refine .next (by with_reducible exact orderExits_frame ..) (by decide) ?_ | split

theorem longClosureEnds_frame (s : State) :
    Frame [.crossing, .faults, .newFault] s (longClosureEnds s) := by
  unfold longClosureEnds
  try dsimp only
  repeat' first
    | with_reducible exact .refl _ _
    | refine .next (by with_reducible exact conditionPresent_quiet_frame (by decide) ..) (by decide) ?_
    | split | with_reducible refine Frame.setCrossing ?_

theorem sequencerOutOfUse_frame (s : State) :
    Frame [.crossing, .request, .barriers, .faults] s (sequencerOutOfUse s) := by
  unfold sequencerOutOfUse
  try dsimp only
  repeat' first
    | with_reducible exact .refl _ _
    | refine .next (by with_reducible exact stopAll_frame ..) (by decide) ?_
    | refine .next (by with_reducible exact conditionEnd_frame ..) (by decide) ?_
    | with_reducible refine Frame.setCrossing ?_

end Sys2Proof.Machine
end

