-- ==== Sys2Proof/Laws/Approach.lean ====
section
/-! SUPPORT. What the shared operations of the Approach Timer (R37 to R56) can do: each leaves every part of State outside its
list as it was. -/

namespace Sys2Proof.Machine

-- The package compiled as one text would start more threads than its memory limit allows.
set_option Elab.async false

theorem strike_frame (i : Fin 4) (cause : StrikeCause) (s : State) :
    Frame [.approaches, .faults, .newFault] s (strike i cause s) := by
  unfold strike
  try dsimp only
  repeat' first
    | with_reducible exact .refl _ _
    | refine .next (by with_reducible exact eventEntered_frame ..) (by decide) ?_ | split
    | with_reducible refine Frame.setApproach ?_

theorem applyOutcome_frame (i : Fin 4) (position : Nat) (o : WheelOutcome) (s : State) :
    Frame [.approaches, .faults, .newFault] s (applyOutcome i position o s) := by
  unfold applyOutcome
  try dsimp only
  repeat' first
    | with_reducible exact .refl _ _
    | refine .next (by with_reducible exact strike_frame ..) (by decide) ?_ | split
    | with_reducible refine Frame.setApproach ?_

theorem timingWheel_frame (i : Fin 4) (position : Nat) (w : WheelEvent) (s : State) :
    Frame [.approaches, .faults, .newFault] s (timingWheel i position w s) := by
  unfold timingWheel
  try dsimp only
  repeat' first
    | with_reducible exact .refl _ _
    | refine .next (by with_reducible exact applyOutcome_frame ..) (by decide) ?_
    | refine .next (by with_reducible exact eventEntered_frame ..) (by decide) ?_ | split
    | with_reducible refine Frame.setApproach ?_

theorem approachWheel_frame (w : WheelEvent) (s : State) :
    Frame [.approaches, .faults, .newFault] s (approachWheel w s) := by
  unfold approachWheel
  try dsimp only
  repeat' first
    | with_reducible refine forEach_next (fun i s => ?_) ?_ | with_reducible exact .refl _ _
    | refine .next (by with_reducible exact timingWheel_frame ..) (by decide) ?_ | split

theorem release_frame (i : Fin 4) (s : State) :
    Frame [.approaches, .banks, .faults, .newFault] s (release i s) := by
  unfold release
  try dsimp only
  repeat' first
    | with_reducible exact .refl _ _
    | refine .next (by with_reducible exact appendPassage_frame ..) (by decide) ?_
    | refine .next (by with_reducible exact eventEntered_frame ..) (by decide) ?_ | split
    | with_reducible refine Frame.setApproach ?_

theorem islandTaken_frame (i : Fin 4) (cause : ReportCause) (s : State) :
    Frame [.approaches] s (islandTaken i cause s) := by
  unfold islandTaken
  try dsimp only
  repeat' first
    | with_reducible exact .refl _ _ | split | with_reducible refine Frame.setApproach ?_

theorem approachReport_frame (i : Fin 4) (rep : SectionReport) (s : State) :
    Frame [.approaches, .banks, .faults, .newFault] s (approachReport i rep s) := by
  unfold approachReport
  try dsimp only
  repeat' first
    | with_reducible exact .refl _ _
    | refine .next (by with_reducible exact strike_frame ..) (by decide) ?_
    | refine .next (by with_reducible exact release_frame ..) (by decide) ?_
    | refine .next (by with_reducible exact islandTaken_frame ..) (by decide) ?_ | split
    | with_reducible refine Frame.setApproach ?_

theorem approachReports_frame (rep : SectionReport) (s : State) :
    Frame [.approaches, .banks, .faults, .newFault] s (approachReports rep s) := by
  unfold approachReports
  try dsimp only
  repeat' first
    | with_reducible refine forEach_next (fun i s => ?_) ?_ | with_reducible exact .refl _ _
    | refine .next (by with_reducible exact approachReport_frame ..) (by decide) ?_ | split

theorem deadlineEnds_frame (i : Fin 4) (s : State) :
    Frame [.approaches, .faults, .newFault] s (deadlineEnds i s) := by
  unfold deadlineEnds
  try dsimp only
  repeat' first
    | with_reducible exact .refl _ _
    | refine .next (by with_reducible exact strike_frame ..) (by decide) ?_ | split

theorem strikeAllDisturbed_frame (s : State) :
    Frame [.approaches, .faults, .newFault] s (strikeAllDisturbed s) := by
  unfold strikeAllDisturbed
  try dsimp only
  repeat' first
    | with_reducible refine forEach_next (fun i s => ?_) ?_ | with_reducible exact .refl _ _
    | refine .next (by with_reducible exact strike_frame ..) (by decide) ?_ | split

theorem setUpApproaches_frame (s : State) :
    Frame [.approaches, .faults, .newFault] s (setUpApproaches s) := by
  unfold setUpApproaches
  try dsimp only
  repeat' first
    | with_reducible refine forEach_next (fun i s => ?_) ?_ | with_reducible exact .refl _ _
    | refine .next (by with_reducible exact strike_frame ..) (by decide) ?_ | split

theorem idleApproaches_frame (s : State) :
    Frame [.approaches] s (idleApproaches s) := by
  unfold idleApproaches
  try dsimp only
  repeat' first
    | with_reducible exact .refl _ _ | with_reducible refine Frame.withApproaches ?_

end Sys2Proof.Machine
end

