-- ==== Sys2Proof/Laws/Section.lean ====
section
/-! SUPPORT. What the shared operations of the Section Counter (R20 to R28) can do: each leaves every part of State outside its
list as it was. -/

namespace Sys2Proof.Machine

-- The package compiled as one text would start more threads than its memory limit allows.
set_option Elab.async false

theorem changeSection_frame (i : Fin 8) (r : SectionRecord) (s : State) :
    Frame [.sections, .faults, .newFault] s (changeSection i r s) := by
  unfold changeSection
  try dsimp only
  repeat' first
    | with_reducible exact .refl _ _
    | refine .next (by with_reducible exact conditionPresent_quiet_frame (by decide) ..) (by decide) ?_
    | split | with_reducible refine Frame.setSection ?_

theorem handReport_frame (cause : ReportCause) (before s : State) :
    Frame [.approaches, .banks, .crossing, .lamp, .redProved, .handedOn, .barriers, .handed, .faults, .newFault] s
      (handReport cause before s) := by
  unfold handReport
  try dsimp only
  repeat' first
    | with_reducible exact .refl _ _
    | refine .next (by with_reducible exact crossingTurn_frame ..) (by decide) ?_
    | refine .next (by with_reducible exact approachReports_frame ..) (by decide) ?_ | split

theorem sectionWheel_frame (w : WheelEvent) (s : State) :
    Frame [.sections, .approaches, .banks, .crossing, .lamp, .redProved, .handedOn, .barriers, .handed, .faults,
      .newFault] s (sectionWheel w s) := by
  unfold sectionWheel
  try dsimp only
  repeat' first
    | with_reducible refine forEach_next (fun i s => ?_) ?_ | with_reducible exact .refl _ _
    | refine .next (by with_reducible exact handReport_frame ..) (by decide) ?_
    | refine .next (by with_reducible exact changeSection_frame ..) (by decide) ?_ | split

theorem disturbSections_frame (head : Fin 16) (s : State) :
    Frame [.sections, .approaches, .banks, .crossing, .lamp, .redProved, .handedOn, .barriers, .handed, .faults,
      .newFault] s (disturbSections head s) := by
  unfold disturbSections
  try dsimp only
  repeat' first
    | with_reducible refine forEach_next (fun i s => ?_) ?_ | with_reducible exact .refl _ _
    | refine .next (by with_reducible exact handReport_frame ..) (by decide) ?_
    | refine .next (by with_reducible exact changeSection_frame ..) (by decide) ?_ | split

theorem resetSectionRecord_frame (i : Fin 8) (s : State) :
    Frame [.sections, .approaches, .banks, .crossing, .lamp, .redProved, .handedOn, .barriers, .handed, .faults,
      .newFault] s (resetSectionRecord i s) := by
  unfold resetSectionRecord
  try dsimp only
  repeat' first
    | with_reducible exact .refl _ _
    | refine .next (by with_reducible exact handReport_frame ..) (by decide) ?_
    | refine .next (by with_reducible exact conditionEnd_frame ..) (by decide) ?_
    | refine .next (by with_reducible exact eventEntered_frame ..) (by decide) ?_
    | with_reducible refine Frame.setSection ?_

theorem setUpSections_frame (s : State) :
    Frame [.sections, .approaches, .banks, .crossing, .lamp, .redProved, .handedOn, .barriers, .handed, .faults,
      .newFault] s (setUpSections s) := by
  unfold setUpSections
  try dsimp only
  repeat' first
    | with_reducible refine forEach_next (fun i s => ?_) ?_ | with_reducible exact .refl _ _
    | refine .next (by with_reducible exact handReport_frame ..) (by decide) ?_
    | refine .next (by with_reducible exact conditionPresent_quiet_frame (by decide) ..) (by decide) ?_
    | refine .next (by with_reducible exact conditionEnd_frame ..) (by decide) ?_ | split
    | with_reducible refine Frame.withSections ?_

end Sys2Proof.Machine
end

