-- ==== Sys2Proof/Laws/Head.lean ====
section
/-! SUPPORT. What the shared operations of the Head Monitor (R3 to R13) can do: each leaves every part of State outside its
list as it was. -/

namespace Sys2Proof.Machine

-- The package compiled as one text would start more threads than its memory limit allows.
set_option Elab.async false

theorem countSkip_frame (i : Fin 16) (s : State) :
    Frame [.faults, .newFault] s (countSkip i s) := by
  unfold countSkip
  try dsimp only
  repeat' first
    | with_reducible exact .refl _ _
    | refine .next (by with_reducible exact eventEntered_frame ..) (by decide) ?_

theorem wheelToApproach_frame (w : WheelEvent) (s : State) :
    Frame [.approaches, .crossing, .lamp, .redProved, .handedOn, .barriers, .faults, .newFault, .handed] s
      (wheelToApproach w s) := by
  unfold wheelToApproach
  try dsimp only
  repeat' first
    | with_reducible exact .refl _ _
    | refine .next (by with_reducible exact crossingTurn_frame ..) (by decide) ?_
    | refine .next (by with_reducible exact approachWheel_frame ..) (by decide) ?_
    | with_reducible refine Frame.withHanded ?_

theorem ordinaryWheel_frame (w : WheelEvent) (s : State) :
    Frame [.sections, .approaches, .banks, .crossing, .lamp, .redProved, .handedOn, .barriers, .handed, .faults,
      .newFault] s (ordinaryWheel w s) := by
  unfold ordinaryWheel
  try dsimp only
  repeat' first
    | with_reducible exact .refl _ _
    | refine .next (by with_reducible exact sectionWheel_frame ..) (by decide) ?_
    | refine .next (by with_reducible exact wheelToApproach_frame ..) (by decide) ?_

theorem endLost_frame (i : Fin 16) (s : State) :
    Frame [.faults] s (endLost i s) := by
  unfold endLost
  try dsimp only
  repeat' first
    | with_reducible exact .refl _ _
    | refine .next (by with_reducible exact conditionEnd_frame ..) (by decide) ?_

theorem wheelTelegramFor_frame (i : Fin 16) (o : Observed) (s : State) :
    Frame [.heads, .sections, .approaches, .banks, .crossing, .lamp, .redProved, .handedOn, .barriers, .handed,
      .faults, .newFault] s (wheelTelegramFor i o s) := by
  unfold wheelTelegramFor
  try dsimp only
  repeat' first
    | with_reducible exact .refl _ _
    | refine .next (by with_reducible exact disturbSections_frame ..) (by decide) ?_
    | refine .next (by with_reducible exact countSkip_frame ..) (by decide) ?_
    | refine .next (by with_reducible exact wheelToApproach_frame ..) (by decide) ?_
    | refine .next (by with_reducible exact ordinaryWheel_frame ..) (by decide) ?_
    | refine .next (by with_reducible exact endLost_frame ..) (by decide) ?_ | split
    | with_reducible refine Frame.setHead ?_

theorem applyCondition_frame (i : Fin 16) (c : HealthCondition) (skip : Bool) (s : State) :
    Frame [.heads, .sections, .approaches, .banks, .crossing, .lamp, .redProved, .handedOn, .barriers, .handed,
      .faults, .newFault] s (applyCondition i c skip s) := by
  unfold applyCondition
  try dsimp only
  repeat' first
    | with_reducible exact .refl _ _
    | refine .next (by with_reducible exact disturbSections_frame ..) (by decide) ?_
    | refine .next (by with_reducible exact countSkip_frame ..) (by decide) ?_
    | refine .next (by with_reducible exact conditionPresent_quiet_frame (by decide) ..) (by decide) ?_
    | split | with_reducible refine Frame.setHead ?_

theorem healthTelegramFor_frame (i : Fin 16) (o : Observed) (s : State) :
    Frame [.heads, .sections, .approaches, .banks, .crossing, .lamp, .redProved, .handedOn, .barriers, .handed,
      .faults, .newFault] s (healthTelegramFor i o s) := by
  unfold healthTelegramFor
  try dsimp only
  repeat' first
    | with_reducible exact .refl _ _
    | refine .next (by with_reducible exact endLost_frame ..) (by decide) ?_
    | refine .next (by with_reducible exact applyCondition_frame ..) (by decide) ?_
    | refine .next (by with_reducible exact conditionEnd_frame ..) (by decide) ?_ | split
    | with_reducible refine Frame.setHead ?_

theorem headSilent_frame (i : Fin 16) (s : State) :
    Frame [.heads, .sections, .approaches, .banks, .crossing, .lamp, .redProved, .handedOn, .barriers, .handed,
      .faults, .newFault] s (headSilent i s) := by
  unfold headSilent
  try dsimp only
  repeat' first
    | with_reducible exact .refl _ _
    | refine .next (by with_reducible exact disturbSections_frame ..) (by decide) ?_
    | refine .next (by with_reducible exact conditionPresent_quiet_frame (by decide) ..) (by decide) ?_
    | split | with_reducible refine Frame.setHead ?_

theorem unseenHeads_frame (s : State) :
    Frame [.heads] s (unseenHeads s) := by
  unfold unseenHeads
  try dsimp only
  repeat' first
    | with_reducible exact .refl _ _ | with_reducible refine Frame.withHeads ?_

theorem headsOnClear_frame (s : State) :
    Frame [.heads, .faults] s (headsOnClear s) := by
  unfold headsOnClear
  try dsimp only
  repeat' first
    | with_reducible refine forEach_next (fun i s => ?_) ?_ | with_reducible exact .refl _ _
    | refine .next (by with_reducible exact endLost_frame ..) (by decide) ?_
    | refine .next (by with_reducible exact unseenHeads_frame ..) (by decide) ?_
    | refine .next (by with_reducible exact conditionEnd_frame ..) (by decide) ?_

end Sys2Proof.Machine
end

