-- ==== Sys2Proof/Laws/TableFlag.lean ====
section
/-! SUPPORT. What the shared operations of the table-valid flag (R178, R182) can do: each leaves every part of State outside its
list as it was. -/

namespace Sys2Proof.Machine

-- The package compiled as one text would start more threads than its memory limit allows.
set_option Elab.async false

theorem batteryOnClear_frame (s : State) :
    Frame [.battery, .faults] s (batteryOnClear s) := by
  unfold batteryOnClear
  try dsimp only
  repeat' first
    | with_reducible exact .refl _ _
    | refine .next (by with_reducible exact conditionEnd_frame ..) (by decide) ?_
    | with_reducible refine Frame.withScan ?_

theorem reportOnClear_frame (s : State) :
    Frame [.status, .link, .faults] s (reportOnClear s) := by
  unfold reportOnClear
  try dsimp only
  repeat' first
    | with_reducible exact .refl _ _
    | refine .next (by with_reducible exact conditionEnd_frame ..) (by decide) ?_
    | with_reducible refine Frame.withReport ?_

theorem clearValid_frame (s : State) :
    Frame [.flag, .heads, .lamp, .lampTest, .redProved, .barriers, .battery, .status, .link, .faults] s
      (clearValid s) := by
  unfold clearValid
  try dsimp only
  repeat' first
    | with_reducible exact .refl _ _
    | refine .next (by with_reducible exact lampsOnClear_frame ..) (by decide) ?_
    | refine .next (by with_reducible exact headsOnClear_frame ..) (by decide) ?_
    | refine .next (by with_reducible exact batteryOnClear_frame ..) (by decide) ?_
    | refine .next (by with_reducible exact reportOnClear_frame ..) (by decide) ?_ | split
    | with_reducible refine Frame.withTm ?_

theorem beginSupervision_frame (s : State) :
    Frame [.lamp, .link] s (beginSupervision s) := by
  unfold beginSupervision
  try dsimp only
  repeat' first
    | with_reducible exact .refl _ _ | with_reducible refine Frame.withLamp ?_
    | with_reducible refine Frame.withReport ?_ | with_reducible refine Frame.withHanded ?_
    | exact ⟨fun p hp => by cases p <;> first | rfl | exact ⟨rfl, rfl⟩ | exact ⟨rfl, rfl, rfl⟩ | exact absurd (by decide) hp⟩

theorem setUpOnValid_frame (s : State) :
    Frame [.ports, .overflow, .status, .heads, .sections, .approaches, .banks, .crossing, .lamp, .redProved, .handedOn, .barriers, .handed, .link,
      .faults, .newFault] s (setUpOnValid s) := by
  unfold setUpOnValid
  try dsimp only
  repeat' first
    | with_reducible exact .refl _ _
    | refine .next (by with_reducible exact setUpSections_frame ..) (by decide) ?_
    | refine .next (by with_reducible exact unseenHeads_frame ..) (by decide) ?_
    | refine .next (by with_reducible exact produceStatus_frame ..) (by decide) ?_
    | refine .next (by with_reducible exact beginSupervision_frame ..) (by decide) ?_

theorem adoptFigures_frame (d : Derived) (s : State) :
    Frame [.flag] s (adoptFigures d s) := by
  unfold adoptFigures
  try dsimp only
  repeat' first
    | with_reducible exact .refl _ _ | with_reducible refine Frame.withTm ?_

theorem validationPassed_frame (d : Derived) (s : State) :
    Frame [.flag, .ports, .overflow, .status, .heads, .sections, .approaches, .banks, .crossing, .lamp, .redProved, .handedOn, .barriers, .handed,
      .link, .faults, .newFault] s (validationPassed d s) := by
  unfold validationPassed
  try dsimp only
  repeat' first
    | with_reducible exact .refl _ _
    | refine .next (by with_reducible exact setUpOnValid_frame ..) (by decide) ?_
    | refine .next (by with_reducible exact adoptFigures_frame ..) (by decide) ?_
    | refine .next (by with_reducible exact conditionEnd_frame ..) (by decide) ?_ | split

end Sys2Proof.Machine
end

