-- ==== Sys2Proof/Laws/Calibration.lean ====
section
/-! SUPPORT. What the shared operations of the calibration run (R123 to R126) can do: each leaves every part of State outside its
list as it was. -/

namespace Sys2Proof.Machine

-- The package compiled as one text would start more threads than its memory limit allows.
set_option Elab.async false

theorem stopBarrier_frame (i : Fin 4) (s : State) :
    Frame [.barriers] s (stopBarrier i s) := by
  unfold stopBarrier
  try dsimp only
  repeat' first
    | with_reducible exact .refl _ _ | with_reducible refine Frame.setBarrier ?_

theorem driveCalibration_frame (i : Fin 4) (d : BarrierEnd) (s : State) :
    Frame [.barriers, .faults] s (driveCalibration i d s) := by
  unfold driveCalibration
  try dsimp only
  repeat' first
    | with_reducible exact .refl _ _
    | refine .next (by with_reducible exact conditionEnd_frame ..) (by decide) ?_
    | with_reducible refine Frame.setBarrier ?_

theorem beginMovement_frame (c : CalBarrier) (stage : CalStage) (d : BarrierEnd) (s : State) :
    Frame [.cal, .barriers, .faults] s (beginMovement c stage d s) := by
  unfold beginMovement
  try dsimp only
  repeat' first
    | with_reducible exact .refl _ _
    | refine .next (by with_reducible exact driveCalibration_frame ..) (by decide) ?_
    | with_reducible refine Frame.setCal ?_

theorem beginReading_frame (c : CalBarrier) (stage : CalStage) (s : State) :
    Frame [.cal, .barriers] s (beginReading c stage s) := by
  unfold beginReading
  try dsimp only
  repeat' first
    | with_reducible exact .refl _ _
    | refine .next (by with_reducible exact stopBarrier_frame ..) (by decide) ?_
    | with_reducible refine Frame.setCal ?_

theorem beginBarrier_frame (i : Fin 4) (s : State) :
    Frame [.cal, .barriers, .faults] s (beginBarrier i s) := by
  unfold beginBarrier
  try dsimp only
  repeat' first
    | with_reducible exact .refl _ _
    | refine .next (by with_reducible exact beginMovement_frame ..) (by decide) ?_
    | refine .next (by with_reducible exact beginReading_frame ..) (by decide) ?_ | split
    | with_reducible refine Frame.setBarrier ?_

theorem nextBarrier_frame (s : State) :
    Frame [.cal, .barriers, .faults] s (nextBarrier s) := by
  unfold nextBarrier
  try dsimp only
  repeat' first
    | with_reducible exact .refl _ _
    | refine .next (by with_reducible exact beginBarrier_frame ..) (by decide) ?_ | split
    | with_reducible refine Frame.setCal ?_

theorem failBarrier_frame (c : CalBarrier) (reason : CalReason) (s : State) :
    Frame [.cal, .barriers, .faults, .newFault] s (failBarrier c reason s) := by
  unfold failBarrier
  try dsimp only
  repeat' first
    | with_reducible exact .refl _ _
    | refine .next (by with_reducible exact stopBarrier_frame ..) (by decide) ?_
    | refine .next (by with_reducible exact nextBarrier_frame ..) (by decide) ?_
    | refine .next (by with_reducible exact eventEntered_frame ..) (by decide) ?_
    | with_reducible refine Frame.setCal ?_

theorem judgeCalibration_frame (c : CalBarrier) (travelUp : Nat) (s : State) :
    Frame [.tables, .cal, .newFault, .flag, .heads, .lamp, .lampTest, .redProved, .barriers, .battery, .status, .link, .faults] s
      (judgeCalibration c travelUp s) := by
  unfold judgeCalibration
  try dsimp only
  repeat' first
    | with_reducible exact .refl _ _
    | refine .next (by with_reducible exact clearValid_frame ..) (by decide) ?_
    | refine .next (by with_reducible exact stopBarrier_frame ..) (by decide) ?_
    | refine .next (by with_reducible exact nextBarrier_frame ..) (by decide) ?_
    | refine .next (by with_reducible exact failBarrier_frame ..) (by decide) ?_ | split
    | with_reducible refine Frame.withTm ?_

theorem calibrationContact_frame (i : Fin 4) (d : BarrierEnd) (s : State) :
    Frame [.tables, .cal, .newFault, .flag, .heads, .lamp, .lampTest, .redProved, .barriers, .battery, .status, .link, .faults] s
      (calibrationContact i d s) := by
  unfold calibrationContact
  try dsimp only
  repeat' first
    | with_reducible exact .refl _ _
    | refine .next (by with_reducible exact stopBarrier_frame ..) (by decide) ?_
    | refine .next (by with_reducible exact beginReading_frame ..) (by decide) ?_
    | refine .next (by with_reducible exact judgeCalibration_frame ..) (by decide) ?_ | split

theorem afterReading_frame (c : CalBarrier) (stage : CalStage) (d : BarrierEnd) (s : State) :
    Frame [.cal, .barriers, .faults, .newFault] s (afterReading c stage d s) := by
  unfold afterReading
  try dsimp only
  repeat' first
    | with_reducible exact .refl _ _
    | refine .next (by with_reducible exact beginMovement_frame ..) (by decide) ?_
    | refine .next (by with_reducible exact failBarrier_frame ..) (by decide) ?_ | split

theorem calibrationAngle_frame (i : Fin 4) (res : ScanResult) (s : State) :
    Frame [.cal, .barriers, .faults, .newFault] s (calibrationAngle i res s) := by
  unfold calibrationAngle
  try dsimp only
  repeat' first
    | with_reducible exact .refl _ _
    | refine .next (by with_reducible exact failBarrier_frame ..) (by decide) ?_
    | refine .next (by with_reducible exact afterReading_frame ..) (by decide) ?_ | split
    | with_reducible refine Frame.setCal ?_

theorem calibrationCurrent_frame (i : Fin 4) (res : ScanResult) (s : State) :
    Frame [.cal, .barriers, .faults, .newFault] s (calibrationCurrent i res s) := by
  unfold calibrationCurrent
  try dsimp only
  repeat' first
    | with_reducible exact .refl _ _
    | refine .next (by with_reducible exact stopBarrier_frame ..) (by decide) ?_
    | refine .next (by with_reducible exact failBarrier_frame ..) (by decide) ?_
    | refine .next (by with_reducible exact eventEntered_frame ..) (by decide) ?_ | split
    | with_reducible refine Frame.setCal ?_

theorem calibrationLimitEnds_frame (s : State) :
    Frame [.cal, .barriers, .faults, .newFault] s (calibrationLimitEnds s) := by
  unfold calibrationLimitEnds
  try dsimp only
  repeat' first
    | with_reducible exact .refl _ _
    | refine .next (by with_reducible exact failBarrier_frame ..) (by decide) ?_ | split

theorem startCalibration_frame (selected : List (Fin 4)) (s : State) :
    Frame [.cal, .barriers, .faults] s (startCalibration selected s) := by
  unfold startCalibration
  try dsimp only
  repeat' first
    | with_reducible exact .refl _ _
    | refine .next (by with_reducible exact nextBarrier_frame ..) (by decide) ?_
    | with_reducible refine Frame.setCal ?_

theorem cancelCalibration_frame (s : State) :
    Frame [.cal, .barriers] s (cancelCalibration s) := by
  unfold cancelCalibration
  try dsimp only
  repeat' first
    | with_reducible exact .refl _ _
    | refine .next (by with_reducible exact stopAll_frame ..) (by decide) ?_
    | with_reducible refine Frame.setCal ?_

end Sys2Proof.Machine
end

