-- ==== Sys2Proof/Laws/Scanner.lean ====
section
/-! SUPPORT. What the shared operations of the Proving Scanner (R128 to R137) can do: each leaves every part of State outside its
list as it was. -/

namespace Sys2Proof.Machine

-- The package compiled as one text would start more threads than its memory limit allows.
set_option Elab.async false

theorem judgeBatteryLow_frame (v : Nat) (s : State) :
    Frame [.battery, .faults, .newFault] s (judgeBatteryLow v s) := by
  unfold judgeBatteryLow
  try dsimp only
  repeat' first
    | with_reducible exact .refl _ _
    | refine .next (by with_reducible exact conditionPresent_quiet_frame (by decide) ..) (by decide) ?_
    | refine .next (by with_reducible exact conditionEnd_frame ..) (by decide) ?_ | split
    | with_reducible refine Frame.withScan ?_

theorem judgeBatteryCritical_frame (v : Nat) (s : State) :
    Frame [.battery, .faults, .newFault, .handed] s (judgeBatteryCritical v s) := by
  unfold judgeBatteryCritical
  try dsimp only
  repeat' first
    | with_reducible exact .refl _ _
    | refine .next (by with_reducible exact conditionPresent_frame ..) (by decide) ?_
    | refine .next (by with_reducible exact conditionEnd_frame ..) (by decide) ?_ | split
    | with_reducible refine Frame.withScan ?_

theorem batteryResult_frame (res : ScanResult) (s : State) :
    Frame [.battery, .lamp, .faults, .newFault, .handed] s (batteryResult res s) := by
  unfold batteryResult
  try dsimp only
  repeat' first
    | with_reducible exact .refl _ _
    | refine .next (by with_reducible exact setDuty_frame ..) (by decide) ?_
    | refine .next (by with_reducible exact judgeBatteryLow_frame ..) (by decide) ?_
    | refine .next (by with_reducible exact judgeBatteryCritical_frame ..) (by decide) ?_ | split
    | with_reducible refine Frame.withScan ?_

theorem takeAngle_frame (i : Fin 4) (res : ScanResult) (s : State) :
    Frame [.cal, .barriers, .faults, .newFault] s (takeAngle i res s) := by
  unfold takeAngle
  try dsimp only
  repeat' first
    | with_reducible exact .refl _ _
    | refine .next (by with_reducible exact angleResult_frame ..) (by decide) ?_
    | refine .next (by with_reducible exact calibrationAngle_frame ..) (by decide) ?_

theorem takeCurrent_frame (i : Fin 4) (res : ScanResult) (s : State) :
    Frame [.cal, .barriers, .faults, .newFault, .handed] s (takeCurrent i res s) := by
  unfold takeCurrent
  try dsimp only
  repeat' first
    | with_reducible exact .refl _ _
    | refine .next (by with_reducible exact currentResult_frame ..) (by decide) ?_
    | refine .next (by with_reducible exact calibrationCurrent_frame ..) (by decide) ?_ | split

theorem handResult_frame (n : Fin 24) (res : ScanResult) (s : State) :
    Frame [.lamp, .redProved, .barriers, .cal, .battery, .faults, .newFault, .handed] s
      (handResult n res s) := by
  unfold handResult
  try dsimp only
  repeat' first
    | with_reducible refine forEach_next (fun i s => ?_) ?_ | with_reducible exact .refl _ _
    | refine .next (by with_reducible exact audibleResult_frame ..) (by decide) ?_
    | refine .next (by with_reducible exact lampResult_frame ..) (by decide) ?_
    | refine .next (by with_reducible exact batteryResult_frame ..) (by decide) ?_
    | refine .next (by with_reducible exact takeAngle_frame ..) (by decide) ?_
    | refine .next (by with_reducible exact takeCurrent_frame ..) (by decide) ?_ | split

theorem startBlock_frame (s : State) :
    Frame [.rate, .block] s (startBlock s) := by
  unfold startBlock
  try dsimp only
  repeat' first
    | with_reducible exact .refl _ _ | with_reducible refine Frame.withScan ?_

theorem completeBlock_frame (inputs : List AnalogueLevels) (s : State) :
    Frame [.block, .results, .lamp, .redProved, .barriers, .cal, .battery, .faults, .newFault, .handed] s
      (completeBlock inputs s) := by
  unfold completeBlock
  try dsimp only
  repeat' first
    | with_reducible exact .refl _ _
    | refine .next (by with_reducible exact handResult_frame ..) (by decide) ?_ | split
    | with_reducible refine Frame.withScan ?_

theorem strobeTaken_frame (inputs : List AnalogueLevels) (s : State) :
    Frame [.rate, .block, .results, .lamp, .redProved, .barriers, .cal, .battery, .faults, .newFault, .handed] s
      (strobeTaken inputs s) := by
  unfold strobeTaken
  try dsimp only
  repeat' first
    | with_reducible exact .refl _ _
    | refine .next (by with_reducible exact startBlock_frame ..) (by decide) ?_
    | refine .next (by with_reducible exact completeBlock_frame ..) (by decide) ?_ | split

theorem scanWritten_frame (n : Fin 24) (s : State) :
    Frame [.block, .results] s (scanWritten n s) := by
  unfold scanWritten
  try dsimp only
  repeat' first
    | with_reducible exact .refl _ _ | split | with_reducible refine Frame.withScan ?_

theorem wakeScanner_frame (s : State) :
    Frame [.rate] s (wakeScanner s) := by
  unfold wakeScanner
  try dsimp only
  repeat' first
    | with_reducible exact .refl _ _ | split | with_reducible refine Frame.withScan ?_

theorem setQuietEnd_frame (t : Option Time) (s : State) :
    Frame [.rate] s (setQuietEnd t s) := by
  unfold setQuietEnd
  try dsimp only
  repeat' first
    | with_reducible exact .refl _ _ | with_reducible refine Frame.withScan ?_

theorem moveQuietEnd_frame (renewed : Bool) (s : State) :
    Frame [.rate] s (moveQuietEnd renewed s) := by
  unfold moveQuietEnd
  try dsimp only
  repeat' first
    | with_reducible exact .refl _ _
    | refine .next (by with_reducible exact setQuietEnd_frame ..) (by decide) ?_ | split

theorem scannerTurn_frame (before s : State) :
    Frame [.rate, .handed] s (scannerTurn before s) := by
  unfold scannerTurn
  try dsimp only
  repeat' first
    | with_reducible exact .refl _ _
    | refine .next (by with_reducible exact wakeScanner_frame ..) (by decide) ?_
    | refine .next (by with_reducible exact moveQuietEnd_frame ..) (by decide) ?_ | split
    | with_reducible refine Frame.withHanded ?_

theorem quietEnds_frame (s : State) :
    Frame [.rate] s (quietEnds s) := by
  unfold quietEnds
  try dsimp only
  repeat' first
    | with_reducible exact .refl _ _ | split | with_reducible refine Frame.withScan ?_

end Sys2Proof.Machine
end

