-- ==== Sys2Proof/Laws/Event.lean ====
section
/-! SUPPORT. What the shared operations of the end of an event, start and supply, the loop and the command processor (R1, R162, R171, R185, R188) can do: each leaves every part of State outside its
list as it was. -/

namespace Sys2Proof.Machine

-- The package compiled as one text would start more threads than its memory limit allows.
set_option Elab.async false

theorem finish_frame (before s : State) :
    Frame [.ports, .newFault, .overflow, .status, .crossing, .lamp, .redProved, .handedOn, .barriers, .faults, .rate, .handed] s
      (finish before s) := by
  unfold finish
  try dsimp only
  repeat' first
    | with_reducible exact .refl _ _
    | refine .next (by with_reducible exact reportTurn_frame ..) (by decide) ?_
    | refine .next (by with_reducible exact crossingTurn_frame ..) (by decide) ?_
    | refine .next (by with_reducible exact scannerTurn_frame ..) (by decide) ?_

theorem cutSave_frame (written : Nat) (s : State) :
    Frame [.store, .save] s (cutSave written s) := by
  unfold cutSave
  try dsimp only
  repeat' first
    | with_reducible exact .refl _ _ | split | with_reducible refine Frame.withTm ?_
    | with_reducible refine Frame.withStore ?_
    | exact ⟨fun p hp => by cases p <;> first | rfl | exact ⟨rfl, rfl⟩ | exact ⟨rfl, rfl, rfl⟩ | exact absurd (by decide) hp⟩

theorem judgeAllBarriers_frame (s : State) :
    Frame [.barriers, .faults] s (judgeAllBarriers s) := by
  unfold judgeAllBarriers
  try dsimp only
  repeat' first
    | with_reducible refine forEach_next (fun i s => ?_) ?_ | with_reducible exact .refl _ _
    | refine .next (by with_reducible exact judgeBarrier_frame ..) (by decide) ?_

theorem loadSucceeded_frame (d : Derived) (s : State) :
    Frame [.flag, .ports, .overflow, .status, .heads, .sections, .approaches, .banks, .crossing, .lamp, .redProved, .handedOn, .barriers, .handed,
      .link, .faults, .newFault] s
      (loadSucceeded d s) := by
  unfold loadSucceeded
  try dsimp only
  repeat' first
    | with_reducible exact .refl _ _
    | refine .next (by with_reducible exact enterClosing_frame ..) (by decide) ?_
    | refine .next (by with_reducible exact strikeAllDisturbed_frame ..) (by decide) ?_
    | refine .next (by with_reducible exact validationPassed_frame ..) (by decide) ?_
    | refine .next (by with_reducible exact judgeAllBarriers_frame ..) (by decide) ?_

theorem loadFailed_frame (s : State) :
    Frame [.barriers, .faults, .newFault, .handed] s (loadFailed s) := by
  unfold loadFailed
  try dsimp only
  repeat' first
    | with_reducible exact .refl _ _
    | refine .next (by with_reducible exact judgeAllBarriers_frame ..) (by decide) ?_
    | refine .next (by with_reducible exact conditionPresent_frame ..) (by decide) ?_

theorem adoptTables_frame (ts : Tables) (s : State) :
    Frame [.loading, .tables] s (adoptTables ts s) := by
  unfold adoptTables
  try dsimp only
  repeat' first
    | with_reducible exact .refl _ _ | with_reducible refine Frame.withTm ?_
    | with_reducible refine Frame.withLoading ?_
    | exact ⟨fun p hp => by cases p <;> first | rfl | exact ⟨rfl, rfl⟩ | exact ⟨rfl, rfl, rfl⟩ | exact absurd (by decide) hp⟩

theorem completeLoading_frame (answers : Bool) (s : State) :
    Frame [.loading, .tables, .flag, .rate, .block, .ports, .overflow, .status, .heads, .sections, .approaches, .banks,
      .crossing, .lamp, .redProved, .handedOn, .barriers, .handed, .link, .faults, .newFault] s
      (completeLoading answers s) := by
  unfold completeLoading
  try dsimp only
  repeat' first
    | with_reducible exact .refl _ _
    | refine .next (by with_reducible exact startBlock_frame ..) (by decide) ?_
    | refine .next (by with_reducible exact adoptTables_frame ..) (by decide) ?_
    | refine .next (by with_reducible exact loadSucceeded_frame ..) (by decide) ?_
    | refine .next (by with_reducible exact loadFailed_frame ..) (by decide) ?_
    | refine .next (by with_reducible exact eventEntered_frame ..) (by decide) ?_ | split

theorem completeSave_frame (readBack : List Word) (s : State) :
    Frame [.store, .save] s (completeSave readBack s) := by
  unfold completeSave
  try dsimp only
  repeat' first
    | with_reducible exact .refl _ _ | split | with_reducible refine Frame.withTm ?_
    | with_reducible refine Frame.withStore ?_
    | exact ⟨fun p hp => by cases p <;> first | rfl | exact ⟨rfl, rfl⟩ | exact ⟨rfl, rfl, rfl⟩ | exact absurd (by decide) hp⟩

theorem observe_frame (t : Telegram) (s : State) :
    Frame [.passed] s (observe t s) := by
  unfold observe
  try dsimp only
  repeat' first
    | with_reducible exact .refl _ _ | split | with_reducible refine Frame.withLnu ?_

theorem consume_frame (port : Port) (t : Telegram) (s : State) :
    Frame [.queue, .overflow, .link, .faults] s (consume port t s) := by
  unfold consume
  try dsimp only
  repeat' first
    | with_reducible exact .refl _ _
    | refine .next (by with_reducible exact joinQueue_frame ..) (by decide) ?_
    | refine .next (by with_reducible exact linkRefresh_frame ..) (by decide) ?_ | split

theorem dispose_frame (port : Port) (t : Telegram) (s : State) :
    Frame [.passed, .queue, .link, .faults, .ports, .overflow, .newFault] s (dispose port t s) := by
  unfold dispose
  try dsimp only
  repeat' first
    | with_reducible exact .refl _ _
    | refine .next (by with_reducible exact forwardTo_frame ..) (by decide) ?_
    | refine .next (by with_reducible exact observe_frame ..) (by decide) ?_
    | refine .next (by with_reducible exact consume_frame ..) (by decide) ?_ | split

theorem receive_frame (port : Port) (frame : List Byte) (s : State) :
    Frame [.passed, .queue, .link, .faults, .ports, .overflow, .newFault] s (receive port frame s) := by
  unfold receive
  try dsimp only
  repeat' first
    | with_reducible exact .refl _ _
    | refine .next (by with_reducible exact dispose_frame ..) (by decide) ?_ | split

theorem placeAnswer_frame (q : QueuedCommand) (code : ReplyCode) (data : List Byte) (s : State) :
    Frame [.ports, .newFault, .overflow] s (placeAnswer q code data s) := by
  unfold placeAnswer
  try dsimp only
  repeat' first
    | with_reducible exact .refl _ _
    | refine .next (by with_reducible exact placeReply_frame ..) (by decide) ?_

theorem freeProcessor_frame (s : State) :
    Frame [.queue] s (freeProcessor s) := by
  unfold freeProcessor
  try dsimp only
  repeat' first
    | with_reducible exact .refl _ _
    | refine .next (by with_reducible exact takeCommand_frame ..) (by decide) ?_
    | with_reducible refine Frame.withLnu ?_

theorem completeUnknown_frame (s : State) :
    Frame [.ports, .newFault, .overflow, .queue] s (completeUnknown s) := by
  unfold completeUnknown
  try dsimp only
  repeat' first
    | with_reducible exact .refl _ _
    | refine .next (by with_reducible exact placeAnswer_frame ..) (by decide) ?_
    | refine .next (by with_reducible exact freeProcessor_frame ..) (by decide) ?_ | split

theorem completeUnanswerable_frame (s : State) :
    Frame [.queue] s (completeUnanswerable s) := by
  unfold completeUnanswerable
  try dsimp only
  repeat' first
    | with_reducible exact .refl _ _
    | refine .next (by with_reducible exact freeProcessor_frame ..) (by decide) ?_ | split

end Sys2Proof.Machine
end

