-- ==== Sys2Proof/Laws/Commands.lean ====
section
/-! SUPPORT. What the shared operations of the loop's commands, the expiries and the contact inputs can do: each leaves every part of State outside its
list as it was. -/

namespace Sys2Proof.Machine

-- The package compiled as one text would start more threads than its memory limit allows.
set_option Elab.async false

theorem restoreClosed_frame (s : State) :
    Frame [.crossing, .barriers, .faults] s (restoreClosed s) := by
  unfold restoreClosed
  try dsimp only
  repeat' first
    | with_reducible exact .refl _ _
    | refine .next (by with_reducible exact judgePermit_frame ..) (by decide) ?_
    | with_reducible refine Frame.setCrossing ?_

theorem restored_frame (s : State) :
    Frame [.crossing, .barriers, .faults] s (restored s) := by
  unfold restored
  try dsimp only
  repeat' first
    | with_reducible exact .refl _ _
    | refine .next (by with_reducible exact reenterClosing_frame ..) (by decide) ?_
    | refine .next (by with_reducible exact restoreClosed_frame ..) (by decide) ?_ | split

theorem chooseCrossing_frame (s : State) :
    Frame [.crossing, .barriers, .faults] s (chooseCrossing s) := by
  unfold chooseCrossing
  try dsimp only
  repeat' first
    | with_reducible exact .refl _ _
    | refine .next (by with_reducible exact enterOpen_frame ..) (by decide) ?_
    | refine .next (by with_reducible exact enterOpening_frame ..) (by decide) ?_
    | refine .next (by with_reducible exact enterClosing_frame ..) (by decide) ?_
    | refine .next (by with_reducible exact enterFailed_frame ..) (by decide) ?_ | split

theorem afterWrite_frame (t : TableId) (first n : Nat) (before : Tables) (s : State) :
    Frame [.barriers, .faults, .block, .results] s (afterWrite t first n before s) := by
  unfold afterWrite
  try dsimp only
  repeat' first
    | with_reducible refine forEach_next (fun i s => ?_) ?_ | with_reducible exact .refl _ _
    | refine .next (by with_reducible exact takeBarrierOut_frame ..) (by decide) ?_
    | refine .next (by with_reducible exact rejudgePosition_frame ..) (by decide) ?_
    | refine .next (by with_reducible exact scanWritten_frame ..) (by decide) ?_ | split

theorem writeTable_frame (t : TableId) (first : Nat) (entries : List (List Byte)) (s : State) :
    Frame [.tables, .block, .results, .flag, .heads, .lamp, .lampTest, .redProved, .barriers, .battery, .status, .link, .faults] s
      (writeTable t first entries s) := by
  unfold writeTable
  try dsimp only
  repeat' first
    | with_reducible exact .refl _ _
    | refine .next (by with_reducible exact clearValid_frame ..) (by decide) ?_
    | refine .next (by with_reducible exact afterWrite_frame ..) (by decide) ?_
    | with_reducible refine Frame.withTm ?_

theorem startSave_frame (s : State) :
    Frame [.save] s (startSave s) := by
  unfold startSave
  try dsimp only
  repeat' first
    | with_reducible exact .refl _ _ | with_reducible refine Frame.withTm ?_

theorem statusDueEnds_frame (s : State) :
    Frame [.handed] s (statusDueEnds s) := by
  unfold statusDueEnds
  try dsimp only
  repeat' first
    | with_reducible exact .refl _ _ | split | with_reducible refine Frame.withHanded ?_

theorem linkEnds_frame (s : State) :
    Frame [.link, .faults, .newFault] s (linkEnds s) := by
  unfold linkEnds
  try dsimp only
  repeat' first
    | with_reducible exact .refl _ _
    | refine .next (by with_reducible exact conditionPresent_quiet_frame (by decide) ..) (by decide) ?_
    | split | with_reducible refine Frame.withReport ?_

theorem setContact_frame (i : Fin 4) (d : BarrierEnd) (closed : Bool) (s : State) :
    Frame [.contacts] s (setContact i d closed s) := by
  unfold setContact
  try dsimp only
  repeat' first
    | with_reducible exact .refl _ _ | with_reducible refine Frame.withContacts ?_

theorem contactChanged_frame (i : Fin 4) (d : BarrierEnd) (closed : Bool) (s : State) :
    Frame [.contacts, .tables, .cal, .newFault, .flag, .heads, .lamp, .lampTest, .redProved, .barriers, .battery, .status, .link, .faults] s
      (contactChanged i d closed s) := by
  unfold contactChanged
  try dsimp only
  repeat' first
    | with_reducible exact .refl _ _
    | refine .next (by with_reducible exact judgeBarrier_frame ..) (by decide) ?_
    | refine .next (by with_reducible exact contactMotion_frame ..) (by decide) ?_
    | refine .next (by with_reducible exact calibrationContact_frame ..) (by decide) ?_
    | refine .next (by with_reducible exact setContact_frame ..) (by decide) ?_ | split

end Sys2Proof.Machine
end

