-- ==== Sys2Proof/Laws/PerInstr.lean ====
section
/-! SUPPORT. What well-formedness says of each command, one lemma per constructor of Instr. -/

namespace Sys2Proof.Laws.Elapsed

-- The package compiled as one text would start more threads than its memory limit allows.
set_option Elab.async false

/-- A well-formed command spans less than 2^31 ms, cuts a save run after at most 427 word writes and reads back
426 words, as far as it carries these operands (00_scope, R185, R191). -/
def Statement (i : Instr) : Prop :=
  i.wellFormed = true ↔
    (∀ dt, i.elapsed = some dt → dt.toNat < 2 ^ 31) ∧ (∀ w, i.writtenWords = some w → w ≤ 427) ∧
    (∀ r, i.readBackWords = some r → r.length = 426)

/-- It says so of every command, whatever its constructor. -/
theorem statement_of (i : Instr) : Statement i := by
  simp only [Statement, Instr.wellFormed, Bool.and_eq_true, Option.all_eq_true, spanOk, writtenOk, readBackOk,
    decide_eq_true_eq, and_assoc]
  rfl

theorem powerUp (written : Nat) :
    Statement (.powerUp written) := statement_of _
theorem resetLineHeld (written : Nat) :
    Statement (.resetLineHeld written) := statement_of _
theorem resetLineRelease (written : Nat) :
    Statement (.resetLineRelease written) := statement_of _
theorem loadingComplete (dt : Time) (answers : Bool) :
    Statement (.loadingComplete dt answers) := statement_of _
theorem telegramReception (dt : Time) (port : Port) (frame : List Byte) :
    Statement (.telegramReception dt port frame) := statement_of _
theorem wheelTelegram (dt : Time) :
    Statement (.wheelTelegram dt) := statement_of _
theorem healthTelegram (dt : Time) :
    Statement (.healthTelegram dt) := statement_of _
theorem transmissionComplete (dt : Time) (port : Port) (written : Nat) :
    Statement (.transmissionComplete dt port written) := statement_of _
theorem poll (dt : Time) :
    Statement (.poll dt) := statement_of _
theorem faultRead (dt : Time) :
    Statement (.faultRead dt) := statement_of _
theorem faultAccept (dt : Time) :
    Statement (.faultAccept dt) := statement_of _
theorem closeRequest (dt : Time) :
    Statement (.closeRequest dt) := statement_of _
theorem restore (dt : Time) :
    Statement (.restore dt) := statement_of _
theorem takeOutOfUse (dt : Time) :
    Statement (.takeOutOfUse dt) := statement_of _
theorem returnToUse (dt : Time) :
    Statement (.returnToUse dt) := statement_of _
theorem resetSection (dt : Time) :
    Statement (.resetSection dt) := statement_of _
theorem depart (dt : Time) :
    Statement (.depart dt) := statement_of _
theorem passageRead (dt : Time) :
    Statement (.passageRead dt) := statement_of _
theorem tableWrite (dt : Time) :
    Statement (.tableWrite dt) := statement_of _
theorem tableRead (dt : Time) :
    Statement (.tableRead dt) := statement_of _
theorem saveTables (dt : Time) :
    Statement (.saveTables dt) := statement_of _
theorem restart (dt : Time) (written : Nat) :
    Statement (.restart dt written) := statement_of _
theorem calibrate (dt : Time) :
    Statement (.calibrate dt) := statement_of _
theorem calibrateCancel (dt : Time) :
    Statement (.calibrateCancel dt) := statement_of _
theorem lampTest (dt : Time) :
    Statement (.lampTest dt) := statement_of _
theorem measureRead (dt : Time) :
    Statement (.measureRead dt) := statement_of _
theorem passageClose (dt : Time) :
    Statement (.passageClose dt) := statement_of _
theorem passageRelease (dt : Time) :
    Statement (.passageRelease dt) := statement_of _
theorem unknownCommand (dt : Time) :
    Statement (.unknownCommand dt) := statement_of _
theorem unanswerableCommand (dt : Time) :
    Statement (.unanswerableCommand dt) := statement_of _
theorem headSilenceExpiry (dt : Time) (head : Fin 16) :
    Statement (.headSilenceExpiry dt head) := statement_of _
theorem deadlineExpiry (dt : Time) (approach : Fin 4) :
    Statement (.deadlineExpiry dt approach) := statement_of _
theorem waitExpiry (dt : Time) :
    Statement (.waitExpiry dt) := statement_of _
theorem permitLapse (dt : Time) :
    Statement (.permitLapse dt) := statement_of _
theorem openDelayExpiry (dt : Time) :
    Statement (.openDelayExpiry dt) := statement_of _
theorem exitDelayExpiry (dt : Time) :
    Statement (.exitDelayExpiry dt) := statement_of _
theorem longClosureExpiry (dt : Time) :
    Statement (.longClosureExpiry dt) := statement_of _
theorem halfPeriodExpiry (dt : Time) :
    Statement (.halfPeriodExpiry dt) := statement_of _
theorem darkTimerExpiry (dt : Time) (side : Side) :
    Statement (.darkTimerExpiry dt side) := statement_of _
theorem lampTestSlotEnd (dt : Time) :
    Statement (.lampTestSlotEnd dt) := statement_of _
theorem startPhaseExpiry (dt : Time) (barrier : Fin 4) :
    Statement (.startPhaseExpiry dt barrier) := statement_of _
theorem reversePauseExpiry (dt : Time) (barrier : Fin 4) :
    Statement (.reversePauseExpiry dt barrier) := statement_of _
theorem trippedPauseExpiry (dt : Time) (barrier : Fin 4) :
    Statement (.trippedPauseExpiry dt barrier) := statement_of _
theorem travelExpiry (dt : Time) (barrier : Fin 4) :
    Statement (.travelExpiry dt barrier) := statement_of _
theorem disagreementTimerExpiry (dt : Time) (barrier : Fin 4) :
    Statement (.disagreementTimerExpiry dt barrier) := statement_of _
theorem calibrationLimitExpiry (dt : Time) :
    Statement (.calibrationLimitExpiry dt) := statement_of _
theorem contactChange (dt : Time) (barrier : Fin 4) (contact : BarrierEnd) (closed : Bool) :
    Statement (.contactChange dt barrier contact closed) := statement_of _
theorem strobe (dt : Time) (inputs : Vector AnalogueLevels 8) :
    Statement (.strobe dt inputs) := statement_of _
theorem quietEndExpiry (dt : Time) :
    Statement (.quietEndExpiry dt) := statement_of _
theorem statusDueExpiry (dt : Time) :
    Statement (.statusDueExpiry dt) := statement_of _
theorem linkEndExpiry (dt : Time) :
    Statement (.linkEndExpiry dt) := statement_of _
theorem saveRunComplete (dt : Time) (readBack : List Word) :
    Statement (.saveRunComplete dt readBack) := statement_of _
theorem supplyFailure (written : Nat) :
    Statement (.supplyFailure written) := statement_of _

end Sys2Proof.Laws.Elapsed
end

