-- ==== Sys2Proof/Tests/Slice0.lean ====
section
/-! SUPPORT. Tests: the smoke tests of WellFormed, the manual's worked figures, and for each statement with hypotheses
a state and operands that meet them (`witness_...`), at the boundaries where the clauses have one. -/

namespace Sys2Proof.Tests

open Sys2Proof Sys2Proof.Machine

set_option Elab.async false

/-! ## WellFormed refuses -/

theorem test_wf_takes_a_span : (Instr.poll 0x7FFFFFFF).wellFormed = true := by decide +kernel

theorem test_wf_refuses_a_long_span : (Instr.poll 0x80000000).wellFormed = false := by decide +kernel

theorem test_wf_takes_a_whole_save : (Instr.supplyFailure 427).wellFormed = true := by decide +kernel

theorem test_wf_refuses_a_428th_write : (Instr.supplyFailure 428).wellFormed = false := by decide +kernel

theorem test_wf_takes_a_read_back : (Instr.saveRunComplete 5 (List.replicate 426 0)).wellFormed = true := by
  decide +kernel

theorem test_wf_refuses_a_short_read_back :
    (Instr.saveRunComplete 5 (List.replicate 425 0)).wellFormed = false := by decide +kernel

/-! ## The installation of the manual's worked examples (1.6, 3.9, 4.8) -/

/-- The tables of the worked examples: approach 0 over heads 0, 1 and 5, section 0 (approach) and 1 (island), four
barriers, two reds and an amber on each road side. -/
def tables : Tables :=
  let b := Tables.blank
  { b with
    node := (b.node.set 0 { inService := true, address := 12, role := .signaller }).set 1
      { inService := true, address := 90, role := .maintenance }
    params := { b.params with
      headTimeout := 2000, groupGap := 4000, flashPeriod := 1000, lampBaseDuty := 80, vNominal := 12000,
      batteryLow := 11400, batteryCritical := 10800, batterySpan := 20000, audibleEntry0 := 1,
      audibleEntry1 := 2, openDelay := 3000, minOpen := 10000, longClosure := 300000, exitDelayFailed := 6000,
      statusPeriod := 2000, signallerTimeout := 10000, scanStrobe := 2, quietDivisor := 8,
      quietAfter := 60000, ownAddress := 30 }
    dpt := Vector.ofFn fun i : Fin 16 =>
      { b.dpt[0] with inService := decide (i.val < 8), address := 41 + i.val, spacing := 150 }
    sectionTable := (b.sectionTable.set 0
        { inService := true, kind := .approach, track := 1
          boundaries := [{ head := 0, entering := .toward }, { head := 2, entering := .away }] }).set 1
        { inService := true, kind := .island, track := 1
          boundaries := [{ head := 2, entering := .toward }, { head := 3, entering := .away }] }
    approach := b.approach.set 0
      { inService := true, track := 1, approachSection := 0, islandSection := 1,
        timingHeads := [{ head := 0, distance := 2400, haltSide := false },
          { head := 1, distance := 1200, haltSide := false }, { head := 5, distance := 1100, haltSide := false }],
        clearMargin := 5000, loopAllow := 300, holdMax := 120000, vCreep := 300, vHalt := 1500,
        vFinal := 4000, vLine := 3300 }
    closing := #v[⟨.amber, 0⟩, ⟨.soundOn, 0⟩, ⟨.wait, 30⟩, ⟨.red, 0⟩, ⟨.wait, 40⟩, ⟨.lowerEntry, 0⟩, ⟨.wait, 40⟩,
      ⟨.lowerExit, 0⟩, ⟨.waitDown, 0⟩, ⟨.soundOff, 0⟩, ⟨.finish, 0⟩, ⟨.finish, 0⟩]
    opening := #v[⟨.wait, 10⟩, ⟨.raiseEntry, 0⟩, ⟨.raiseExit, 0⟩, ⟨.waitUp, 0⟩, ⟨.dark, 0⟩, ⟨.finish, 0⟩,
      ⟨.finish, 0⟩, ⟨.finish, 0⟩, ⟨.finish, 0⟩, ⟨.finish, 0⟩, ⟨.finish, 0⟩, ⟨.finish, 0⟩]
    barrier := Vector.ofFn fun i : Fin 4 =>
      { b.barrier[0] with
        inService := true, role := if i.val < 2 then .entry else .exit
        roadSide := if i.val % 2 = 0 then .north else .south
        angleEntry := 10 + 2 * i.val, currentEntry := 11 + 2 * i.val, ratedDuty := 60, overdriveDuty := 85,
        startMs := 400, clampDuty := 85, brakePos := 100, brakeDuty := 20, loopGain := 50, downWindow := 20,
        upWindow := 980, upCode := 3400, downCode := 600, travelDown := 6900 + 100 * i.val, travelUp := 7300,
        peakCurrent := 2950 }
    lamp := Vector.ofFn fun i : Fin 12 =>
      { inService := decide (i.val < 6), roadSide := if i.val < 3 then .north else .south
        colour := if i.val % 3 = 2 then .amber else .red, phase := if i.val % 3 = 1 then .b else .a
        scanEntry := 3 + i.val }
    scan := Vector.ofFn fun i : Fin 24 =>
      if i.val = 0 then
        { inService := true, channel := 0, gain := 1, blockCount := 2, lowThreshold := 1800, highThreshold := 4000 }
      else if i.val ≤ 8 then
        { inService := true, channel := i.val, gain := 4, blockCount := 4, lowThreshold := 900, highThreshold := 4000 }
      else
        { inService := decide (i.val ≠ 9 ∧ i.val ≤ 17), channel := i.val, gain := 1, blockCount := 1,
          lowThreshold := 0, highThreshold := if i.val % 2 = 0 then 4094 else 3200 } }

/-- The derived figures of these tables (3.9: L_close 18,200 ms, T_req 23,500 ms; R181). -/
def figures : Derived := { lClose := 18200, tReq := #v[23500, 18200, 18200, 18200], rOpen := 8300 }

theorem test_figures_of_the_worked_example : validate tables = .passed figures := by decide +kernel

/-- The part in service with these tables, OUT_OF_USE as a cold start leaves it. -/
def ready : State :=
  { State.reset with
    loading := false
    tm := { State.reset.tm with tables := tables, valid := true, derived := some figures, ownValidated := 30 } }

/-- The crossing in a state. -/
def inState (c : CrossingState) (s : State) : State := { s with crossing := { s.crossing with state := c } }

/-- A command as the queue holds it. -/
def sent (source : Nat) (payload : List Byte) : QueuedCommand :=
  { port := .a, arrival := 0, source := source, payload := payload }

/-- A part whose processor holds a command of a source. -/
def holding (source : Nat) (payload : List Byte) (s : State) : State :=
  { s with lnu := { s.lnu with processor := some (sent source payload) } }

/-- The state an event leaves, in a test. -/
def outcome (c : Instr) (s : State) : State :=
  match exec c s with
  | .next t => t
  | .fault _ => s
  | .refused _ => s

/-! ## The manual's figures -/

/-- R40. -/
theorem test_wheel_speeds :
    wheelSpeed 80 65535 = 122 ∧ wheelSpeed 150 7500 = 2000 ∧ wheelSpeed 150 1875 = 8000 ∧
    wheelSpeed 150 1874 = 8004 ∧ wheelSpeed 300 10 = 3000000 := by decide +kernel

/-- R91. -/
theorem test_duties :
    (setDuty 11000 ready).lamp.duty = some 87 ∧ (setDuty 14000 ready).lamp.duty = some 68 ∧
    (setDuty 9000 ready).lamp.duty = some 100 ∧ (setDuty 0 ready).lamp.duty = none := by decide +kernel

/-- R107. -/
theorem test_positions :
    let at_ (code : Nat) : Option Nat := positionOf tables.barrier[0]
      (some { code := code, cls := .inRange, overrange := false, startTime := 0, endTime := 0 })
    at_ 3400 = some 1000 ∧ at_ 2768 = some 774 ∧ at_ 640 = some 14 ∧ at_ 580 = some 0 ∧ at_ 3600 = some 1000 := by
  decide +kernel

/-- The published check value of this generator and starting register over the digits 1 to 9. -/
theorem test_check_value : crc [0x31, 0x32, 0x33, 0x34, 0x35, 0x36, 0x37, 0x38, 0x39] = 0x29B1 := by
  decide +kernel

/-- A wheel telegram to all from head 41 (11.1), count 254, sensor order S1_FIRST, 7,500 µs, read with its fields. -/
theorem test_telegram_is_read :
    (readTelegram (frameOf 255 41 1 [254, 1, 0x1D, 0x4C])).map (fun t => (t.destination, t.source, t.payload)) =
      some (255, 41, [254, 1, 0x1D, 0x4C]) := by decide +kernel

/-- The levels of a block whose conversions of channel 3, at gain 4, give these codes (a level is a sixteenth of a code
at gain 1: log entry 15). -/
def levels (codes : Vector Nat 8) : Vector AnalogueLevels 8 :=
  codes.map fun c => (Vector.replicate 24 0).set 3 (BitVec.ofNat 16 (4 * c))

/-- R131, the third row: a block of four that holds a full-scale conversion. -/
theorem test_block_of_four :
    ((outcome (.strobe 2 (levels #v[4095, 4000, 3990, 4010, 0, 0, 0, 0]))
      { ready with scan := { ready.scan with
        nextStrobe := some 2, position := some 3, blockStart := some 0 } }).scan.results[3]).map
      (fun r => (r.code, r.overrange, r.cls)) = some (4023, true, .high) := by decide +kernel

/-- 11.6 with 3.2: halt_side is the pair `set, clear`, so 0 stores set, 1 clear, and any other value clamps to clear. -/
theorem test_halt_side_bytes :
    ([0, 1, 9] : List Byte).map (fun b => ((readTimingHead [5, 4, 76, b] 0).value.haltSide)) = [true, false, false] ∧
    writeTimingHead { head := 5, distance := 1100, haltSide := true } = [5, 4, 76, 0] := by decide +kernel

/-- R49, R55, R59, R71: a train creeping over a final timing head that is the exit of its section strikes (FALLBACK) and
is released by the report of that very wheel; the strike has closed the OPEN crossing. -/
theorem test_strike_within_one_wheel_closes :
    let exit : SectionEntry := { tables.sectionTable[0] with
      boundaries := [{ head := 0, entering := .toward }, { head := 5, entering := .away }] }
    let s : State := { inState .isOpen ready with
      now := 50000
      tm := { ready.tm with tables := { tables with sectionTable := tables.sectionTable.set 0 exit } }
      heads := ready.heads.set 5 { state := .live, lastCount := some 7, lastSeen := 49000, wasFaulty := false }
      sections := (ready.sections.set 0 { state := .occupied, count := some 1, raised := false }).set 1
        { state := .clear, count := some 0, raised := false }
      approaches := ready.approaches.set 0 { ApproachRecord.cold with state := .tracking }
      lnu := { ready.lnu with
        passed := [{ kind := .wheel, source := 46, payload := [8, 1, 0xFF, 0xFF], arrival := 50000 }] } }
    let u := outcome (.wheelTelegram 0) s
    u.crossing.state = .closing ∧ u.approaches[0].state = .idle ∧ u.sections[0].state = .clear ∧
    (u.report.bank0.records.map (·.strikeCause)) = [.fallback] := by decide +kernel

/-- R153, 10.7: as SAVE_TABLES sets the flag a status leaves at once, the save running and the sections not yet set up, and
a further one with them DISTURBED waits behind it. -/
theorem test_status_at_the_flag :
    let old : State := { ready with
      sections := Vector.replicate 8 { state := .clear, count := some 0, raised := false }
      tm := { ready.tm with valid := false }
      lnu := { ready.lnu with processor := some (sent 90 [13, 0]) } }
    let u := outcome (.saveTables 0) old
    (match u.lnu.portA.sending with
      | some (.inserted (.status frame _ _)) => [frame.getD 12 0, frame.getD 24 0]
      | _ => []) = [SectionStatus.clear.code, RunState.running.code] ∧
    (u.report.lastStatus.map fun c => c.sections[1]) = some .disturbed := by decide +kernel

/-- 3.9, wheel 1 of the freight train, in an OPEN crossing with the approach section CLEAR: deadline 201,304 ms. -/
theorem test_freight_train_arms :
    let open_ := inState .isOpen ready
    let s : State := { open_ with
      now := 100000
      heads := open_.heads.set 0 { state := .live, lastCount := some 4, lastSeen := 99000, wasFaulty := false }
      sections := open_.sections.set 0 { state := .clear, count := some 0, raised := false }
      lnu := { open_.lnu with
        passed := [{ kind := .wheel, source := 41, payload := [5, 1, 0x1E, 0x78], arrival := 100000 }] } }
    let a := (outcome (.wheelTelegram 0) s).approaches[0]
    a.state = .armed ∧ a.deadline = some 201304 ∧ a.deadlineHead = some 0 ∧ a.group.vE = some 1923 := by
  decide +kernel

/-- 1.6: a repeated count is a duplicate, one more counts, and 0 follows 255. -/
theorem test_head_counts :
    let s (last : Byte) (count : Byte) : State := { ready with
      now := 50000
      heads := ready.heads.set 3 { state := .live, lastCount := some last, lastSeen := 50000, wasFaulty := false }
      sections := ready.sections.set 1 { state := .occupied, count := some 2, raised := false }
      lnu := { ready.lnu with
        passed := [{ kind := .wheel, source := 44, payload := [count, 1, 0x1D, 0x4C], arrival := 50100 }] } }
    let after (last count : Byte) := outcome (.wheelTelegram 100) (s last count)
    (after 254 255).sections[1].count = some 1 ∧ (after 255 255).sections[1].count = some 2 ∧
    (after 255 0).heads[3].lastCount = some 0 ∧ (after 0 2).sections[1].state = .disturbed := by decide +kernel

/-! ## A command in the processor, for the witnesses -/

theorem processes_holding {s : State} (h : s.supply = true ∧ s.resetHeld = false ∧ s.lnu.restarting = false)
    (code tag : Byte) (args : List Byte) (source : Nat) (hs : source ≠ 0 ∧ source ≠ 254 ∧ source ≠ 255) :
    Processes (holding source (code :: tag :: args) s) (sent source (code :: tag :: args)) code args :=
  ⟨⟨h.1, h.2.1⟩, rfl, h.2.2, hs.1, hs.2.1, hs.2.2, tag, rfl⟩

/-- The signaller 12 of the tables. -/
theorem by_signaller {s : State} (h : s.supply = true ∧ s.resetHeld = false ∧ s.lnu.restarting = false)
    (ht : s.tm.tables.node[0] = { inService := true, address := 12, role := .signaller } ∧ s.tm.valid = true)
    (code tag : Byte) (args : List Byte) :
    BySignaller (holding 12 (code :: tag :: args) s) (sent 12 (code :: tag :: args)) code args :=
  ⟨processes_holding h code tag args 12 (by decide),
    ⟨0, by show (s.tm.tables.node[0]).inService = true; rw [ht.1],
      by show (s.tm.tables.node[0]).address = 12; rw [ht.1],
      by show (s.tm.tables.node[0]).role = .signaller; rw [ht.1]⟩, ht.2⟩

/-- The maintenance terminal 90 of the tables. -/
theorem by_maintenance {s : State} (h : s.supply = true ∧ s.resetHeld = false ∧ s.lnu.restarting = false)
    (ht : s.tm.tables.node[1] = { inService := true, address := 90, role := .maintenance })
    (code tag : Byte) (args : List Byte) :
    ByMaintenance (holding 90 (code :: tag :: args) s) (sent 90 (code :: tag :: args)) code args :=
  ⟨processes_holding h code tag args 90 (by decide), .inr
    ⟨1, by show (s.tm.tables.node[1]).inService = true; rw [ht],
      by show (s.tm.tables.node[1]).address = 90; rw [ht],
      by show (s.tm.tables.node[1]).role = .maintenance; rw [ht]⟩⟩

theorem by_either {s : State} (h : s.supply = true ∧ s.resetHeld = false ∧ s.lnu.restarting = false)
    (ht : s.tm.tables.node[1] = { inService := true, address := 90, role := .maintenance })
    (code tag : Byte) (args : List Byte) :
    ByEither (holding 90 (code :: tag :: args) s) (sent 90 (code :: tag :: args)) code args :=
  have ⟨h1, h2⟩ := by_maintenance h ht code tag args
  ⟨h1, h2.elim .inl fun h => .inr (.inr h)⟩

/-! ## The hypotheses of the statements are met: the lines and the loop -/

set_option linter.unusedSimpArgs false

/-- A part on whose port A seven replies wait behind one under way. -/
def crowded : State :=
  { ready with lnu := { ready.lnu with portA :=
      { forward := [], insertion := List.replicate 7 (.reply [] false), run := 0, sending := some (.forwarded []) } } }

/-- A save run under way. -/
def saving : State :=
  { ready with tm := { ready.tm with saveRun := .running, saveImage := imageOf tables } }

theorem witness_ColdStartsAndStops :
    State.reset.supply = true ∧ Running ready ∧
    (crowded.lnu.setPort .a { crowded.lnu.portA with sending := some (.inserted (.reply [] true)) }).portA.sending =
      some (.inserted (.reply [] true)) ∧
    ByMaintenance (holding 90 [14, 1] crowded) (sent 90 [14, 1]) 14 [] ∧
    (holding 90 [14, 1] crowded).crossing.state = .outOfUse ∧
    7 ≤ (((holding 90 [14, 1] crowded).lnu.port .a).insertion.filter fun t => !t.isStatus).length ∧
    { ready with supply := false }.supply = false ∧ ¬ Running { ready with supply := false } ∧
    ¬ Running { ready with resetHeld := true } ∧ (Instr.poll 5).elapsed = some 5 ∧
    (Instr.contactChange 5 3 .up true).elapsed = some 5 := by
  simp only [ByMaintenance, Processes, Running, HasRole, MayGive]
  decide +kernel

theorem witness_ColdStartsAndStops_poll :
    ∀ b d closed, Instr.poll 5 ≠ .contactChange 5 b d closed := by
  intro b d closed h
  cases h

theorem witness_OutputsShowTheRecords :
    let lit : State := { ready with lamp := { ready.lamp with
      duty := some 87, lamps := ready.lamp.lamps.set 0 { LampRecord.cold with mode := .steady } } }
    lit.lamp.duty = some 87 ∧ lampOn lit 0 = true ∧ lampOn ready 11 = false ∧ Running lit ∧
    ¬ Running { lit with supply := false } := by
  simp only [Running]
  decide +kernel

/-- The part at a cold start, with an image in the store. -/
def starting (store : List Word) : State := { State.reset with store := store }

theorem readStore_whole (store : List Word) (h : store.length = 426) : readStore true store = store := by
  simp only [readStore, if_true, Config.imageWords]
  refine List.ext_getElem (by simp [h]) fun i h1 h2 => ?_
  simp [List.getD_eq_getElem?_getD, List.getElem?_eq_getElem h2]

theorem witness_LoadingCompletes_images :
    (imageOf tables).length = 426 ∧ imagePasses (imageOf tables) = true ∧ loadImage (imageOf tables) = tables ∧
    (imageOf Tables.blank).length = 426 ∧ imagePasses (imageOf Tables.blank) = true ∧
    loadImage (imageOf Tables.blank) = Tables.blank ∧ imagePasses silentStore = false := by
  decide +kernel

theorem witness_LoadingCompletes :
    let s (ts : Tables) := starting (imageOf ts)
    (Running (s tables) ∧ (s tables).loading = true ∧ imagePasses (readStore true (s tables).store) = true ∧
      validate (loadImage (readStore true (s tables).store)) = .passed figures) ∧
    (Running (s Tables.blank) ∧ (s Tables.blank).loading = true ∧
      imagePasses (readStore true (s Tables.blank).store) = true ∧
      validate (loadImage (readStore true (s Tables.blank).store)) = .failed { table := 0, index := 0 }) ∧
    imagePasses (readStore true State.reset.store) = false := by
  have ⟨h1, h2, h3, h4, h5, h6, h7⟩ := witness_LoadingCompletes_images
  refine ⟨⟨⟨rfl, rfl⟩, rfl, ?_, ?_⟩, ⟨⟨rfl, rfl⟩, rfl, ?_, ?_⟩, ?_⟩
  · rw [show (starting (imageOf tables)).store = imageOf tables from rfl, readStore_whole _ h1, h2]
  · rw [show (starting (imageOf tables)).store = imageOf tables from rfl, readStore_whole _ h1, h3,
      test_figures_of_the_worked_example]
  · rw [show (starting (imageOf Tables.blank)).store = imageOf Tables.blank from rfl, readStore_whole _ h4, h5]
  · rw [show (starting (imageOf Tables.blank)).store = imageOf Tables.blank from rfl, readStore_whole _ h4, h6]
    decide +kernel
  · rw [show State.reset.store = silentStore from rfl, readStore_whole _ (by decide +kernel), h7]

/-- R187: another length word, another format word and another sum are each caught. -/
theorem test_image_checks :
    let image := imageOf tables
    image.length = 426 ∧ imagePasses image = true ∧ imagePasses (image.set 1 0) = false ∧
    imagePasses ((image.set 0 427).set 425 (image.getD 425 0 - 1)) = false ∧
    imagePasses (image.set 300 (image.getD 300 0 + 1)) = false := by decide +kernel

theorem witness_LoadingCompletes_strike :
    let struck : State := { ready with approaches := ready.approaches.set 0 { ApproachRecord.cold with state := .struck } }
    ready.tm.tables.approach[0].inService = true ∧ ready.approaches[0].state ≠ .struck ∧
    struck.approaches[0].state = .struck ∧ ready.tm.tables.approach[3].inService = false := by
  decide +kernel

theorem witness_TelegramsAreFramedAndChecked :
    (255 < 256 ∧ [254, 1, 0x1D, (0x4C : Byte)].length ≤ 60 ∧ (List.replicate 60 (0 : Byte)).length ≤ 60) ∧
    readTelegram (frameOf 30 12 3 []) = some
      { destination := 30, source := 12, kind := 3, payload := [], frame := frameOf 30 12 3 [] } := by
  decide +kernel

theorem witness_TelegramsAreFramedAndChecked_change :
    let frame := frameOf 30 12 3 [1, 0]
    (readTelegram frame).isSome = true ∧ 0 < frame.length ∧ frame[0]? ≠ some 31 ∧
    7 < frame.length ∧ frame[7]? ≠ some 0 := by
  decide +kernel

theorem witness_TelegramsAreDisposedOf :
    let t (d s k : Nat) (p : List Byte) : Telegram :=
      { destination := d, source := s, kind := k, payload := p, frame := frameOf d s k p }
    let acted (s : State) (address : Nat) := s.tm.valid = true ∧
      ∃ i : Fin 16, s.tm.tables.dpt[i].inService = true ∧ s.tm.tables.dpt[i].address = address
    Running ready ∧ readTelegram [] = none ∧
    readTelegram (frameOf 12 30 4 []) = some (t 12 30 4 []) ∧ answeringAddress ready = some 30 ∧
    readTelegram (frameOf 30 12 4 []) = some (t 30 12 4 []) ∧
    readTelegram (frameOf 12 90 4 []) = some (t 12 90 4 []) ∧
    readTelegram (frameOf 255 41 1 [254, 1, 0x1D, 0x4C]) = some (t 255 41 1 [254, 1, 0x1D, 0x4C]) ∧ acted ready 41 ∧
    readTelegram (frameOf 255 48 2 [254, 0]) = some (t 255 48 2 [254, 0]) ∧ acted ready 48 ∧
    readTelegram (frameOf 255 49 2 [254, 0]) = some (t 255 49 2 [254, 0]) ∧ ¬ acted ready 49 ∧
    readTelegram (frameOf 255 41 1 [254]) = some (t 255 41 1 [254]) := by
  simp only [Running]
  decide +kernel

/-- A part whose processor is busy, with `n` commands waiting. -/
def waiting (n : Nat) : State :=
  { holding 90 [1, 0] ready with lnu := { (holding 90 [1, 0] ready).lnu with
      queue := List.replicate n (sent 12 [1, 0]) } }

theorem witness_CommandsQueueForTheProcessor :
    Running (waiting 7) ∧
    readTelegram (frameOf 30 12 3 [1, 0]) = some
      { destination := 30, source := 12, kind := 3, payload := [1, 0], frame := frameOf 30 12 3 [1, 0] } ∧
    answeringAddress (waiting 7) = some 30 ∧ (waiting 7).lnu.queue.length < 8 ∧ (waiting 7).lnu.processor ≠ none ∧
    ready.lnu.queue = [] ∧ ready.lnu.processor = none ∧ 8 ≤ (waiting 8).lnu.queue.length ∧
    (waiting 1).lnu.queue = sent 12 [1, 0] :: [] := by
  simp only [Running]
  decide +kernel

/-- A part whose port A sends, with telegrams waiting to be repeated and to be inserted. -/
def sending (forward : List (List Byte)) (insertion : List Inserted) (run : Nat) : State :=
  { ready with lnu := { ready.lnu with portA :=
      { forward := forward, insertion := insertion, run := run, sending := some (.forwarded []) } } }

theorem witness_ArbiterChooses :
    let s := sending [[1], [2]] [.reply [] false] 3
    let full := sending [[1]] [.reply [] false] 4
    let status := sending [] [.status [] true true] 0
    Running s ∧ (s.lnu.port .a).sending = some (.forwarded []) ∧
    ((sending [] [] 0).lnu.port .a).insertion = [] ∧ ((sending [[1]] [] 0).lnu.port .a).forward = [[1]] ∧
    (s.lnu.port .a).forward = [[1], [2]] ∧ (s.lnu.port .a).insertion ≠ [] ∧ (s.lnu.port .a).run < 4 ∧
    (full.lnu.port .a).insertion = [.reply [] false] ∧ 4 ≤ (full.lnu.port .a).run ∧
    (Inserted.reply [] false).isStatus = false ∧
    Port.a = status.tm.tables.params.signallerPort ∧ (status.lnu.port .a).forward = [] ∧
    (status.lnu.port .a).insertion = [.status [] true true] ∧ Port.b ≠ ready.tm.tables.params.signallerPort := by
  simp only [Running]
  decide +kernel

theorem witness_ArbiterChooses_sending :
    ∀ frame, Sending.forwarded [] ≠ .inserted (.reply frame true) := by
  intro frame h
  cases h

theorem witness_TelegramsArePlaced :
    let s := sending (List.replicate 3 [1]) [.status [] false false] 0
    4 ≤ ((sending (List.replicate 4 [1]) [] 0).lnu.port .a).forward.length ∧
    (s.lnu.port .a).forward.length < 4 ∧ (s.lnu.port .a).sending = some (.forwarded []) ∧
    ready.lnu.portA = .cold ∧ (sent 12 [1, 9]).payload = [1, 9] ∧ answeringAddress ready = some 30 ∧
    7 ≤ ((crowded.lnu.port .a).insertion.filter fun t => !t.isStatus).length ∧
    ((s.lnu.port .a).insertion.filter fun t => !t.isStatus).length < 7 ∧
    (Inserted.status [] true false).isStatus = true ∧ (ready.lnu.port .a).insertion = [] ∧
    (ready.lnu.port .a).forward = [] ∧ (ready.lnu.port .a).sending = none ∧
    Port.b ≠ ready.tm.tables.params.signallerPort ∧ Port.a = ready.tm.tables.params.signallerPort := by
  decide +kernel

/-! ## The hypotheses of the statements are met: the commands -/

theorem witness_GeneralChecksRefuse :
    Processes (holding 90 [3, 0] ready) (sent 90 [3, 0]) 3 [] ∧ Command.fromCode 3 = some .faultAccept ∧
    ¬ MayGive (holding 90 [3, 0] ready) 90 .signaller ∧
    (let s := holding 12 [3, 0] { ready with tm := { ready.tm with valid := false } }
     Processes s (sent 12 [3, 0]) 3 [] ∧ MayGive s 12 .signaller ∧ s.tm.valid = false) ∧
    Command.faultAccept.cls = .signaller ∧
    Processes (holding 12 [3, 0, 0] ready) (sent 12 [3, 0, 0]) 3 [0] ∧
    MayGive (holding 12 [3, 0, 0] ready) 12 .signaller ∧ ready.tm.valid = true ∧
    Command.faultAccept.lengthFits ([(0 : Byte)].length + 2) = false ∧
    Processes (holding 90 [21, 0] ready) (sent 90 [21, 0]) 21 [] ∧ 20 < (21 : Byte).toNat ∧
    Processes (holding 90 [0, 0] ready) (sent 90 [0, 0]) 0 [] ∧
    Running (holding 90 [1] ready) ∧ (holding 90 [1] ready).lnu.processor = some (sent 90 [1]) ∧
    (holding 90 [1] ready).lnu.restarting = false ∧ (sent 90 [1]).payload.length < 2 ∧
    (sent 254 [1, 0]).source = 254 := by
  simp only [Processes, Running, MayGive, HasRole]
  and_intros <;> decide +kernel

/-- 9.7, 11.2: TABLE_WRITE is code 11, of the maintenance class, from 4 bytes up. -/
theorem witness_GeneralChecksRefuse_table :
    Command.fromCode (10 + 1) = some .tableWrite ∧ Command.tableWrite.cls = .maintenance ∧
    Command.tableWrite.lengthFits 3 = false ∧ Command.tableWrite.lengthFits 5 = true ∧
    Command.fromCode 21 = none := by decide

theorem witness_ReadsReturnWhatStands :
    let s (payload : List Byte) := holding 90 payload ready
    ByEither (holding 12 [1, 0] ready) (sent 12 [1, 0]) 1 [] ∧ HasRole (holding 12 [1, 0] ready) 12 .signaller ∧
    ByEither (s [1, 0]) (sent 90 [1, 0]) 1 [] ∧ ¬ HasRole (s [1, 0]) 90 .signaller ∧ ready.tm.valid = true ∧
    (1 ≤ (4 : Byte).toNat ∧ (4 : Byte).toNat ≤ 4) ∧
    ByEither (s [2, 0, 31, 4]) (sent 90 [2, 0, 31, 4]) 2 [31, 4] ∧ (31 : Byte).toNat < 32 ∧
    ByEither (s [10, 0, 0, 15, 4]) (sent 90 [10, 0, 0, 15, 4]) 10 [flagByte false, 15, 4] ∧ (15 : Byte).toNat < 16 ∧
    ready.report.bank0.state ≠ .empty ∧
    ByMaintenance (s [18, 0, 23, 4]) (sent 90 [18, 0, 23, 4]) 18 [23, 4] ∧ (23 : Byte).toNat < 24 ∧
    ByMaintenance (s [12, 0, 10, 25, 1]) (sent 90 [12, 0, 10, 25, 1]) 12 [10, 25, 1] ∧
    TableId.fromId 10 = some .reportMask ∧ (25 : Byte).toNat < TableId.reportMask.entries := by
  simp only [ByEither, ByMaintenance, Processes, Running, MayGive, HasRole]
  and_intros <;> decide +kernel

theorem witness_ReadsReturnWhatStands_refused :
    let s (payload : List Byte) := holding 90 payload ready
    ByEither (s [2, 0, 32, 1]) (sent 90 [2, 0, 32, 1]) 2 [32, 1] ∧ 32 ≤ (32 : Byte).toNat ∧
    ByEither (s [2, 0, 0, 5]) (sent 90 [2, 0, 0, 5]) 2 [0, 5] ∧ 4 < (5 : Byte).toNat ∧
    ByEither (s [10, 0, 2, 0, 1]) (sent 90 [10, 0, 2, 0, 1]) 10 [2, 0, 1] ∧ 2 ≤ (2 : Byte).toNat ∧
    ByEither (s [10, 0, 1, 15, 1]) (sent 90 [10, 0, 1, 15, 1]) 10 [1, 15, 1] ∧ ready.report.bank1.state = .empty ∧
    ByMaintenance (s [18, 0, 24, 1]) (sent 90 [18, 0, 24, 1]) 18 [24, 1] ∧ 24 ≤ (24 : Byte).toNat ∧
    ByMaintenance (s [12, 0, 11, 0, 1]) (sent 90 [12, 0, 11, 0, 1]) 12 [11, 0, 1] ∧ 11 ≤ (11 : Byte).toNat ∧
    ByMaintenance (s [12, 0, 10, 26, 1]) (sent 90 [12, 0, 10, 26, 1]) 12 [10, 26, 1] ∧
    TableId.fromId 10 = some .reportMask ∧ TableId.reportMask.entries ≤ (26 : Byte).toNat := by
  simp only [ByEither, ByMaintenance, Processes, Running, MayGive, HasRole]
  and_intros <;> decide +kernel

theorem witness_FaultsAreAccepted :
    Processes (holding 90 [3, 0] ready) (sent 90 [3, 0]) 3 [] ∧ ¬ HasRole (holding 90 [3, 0] ready) 90 .signaller ∧
    (let s := holding 12 [3, 0] { ready with tm := { ready.tm with valid := false } }
     Processes s (sent 12 [3, 0]) 3 [] ∧ HasRole s 12 .signaller ∧ s.tm.valid = false) ∧
    Processes (holding 12 [3, 0] ready) (sent 12 [3, 0]) 3 [] ∧ HasRole (holding 12 [3, 0] ready) 12 .signaller ∧
    ready.tm.valid = true := by
  simp only [Processes, Running, HasRole]
  and_intros <;> decide +kernel

theorem witness_CloseRequestAndRestore :
    let s (arg : Byte) (c : CrossingState) := holding 12 [4, 0, arg] (inState c ready)
    BySignaller (s 2 .isOpen) (sent 12 [4, 0, 2]) 4 [2] ∧ 1 < (2 : Byte).toNat ∧
    BySignaller (s 1 .outOfUse) (sent 12 [4, 0, 1]) 4 [1] ∧ (s 1 .outOfUse).crossing.state = .outOfUse ∧
    BySignaller (s 0 .isOpen) (sent 12 [4, 0, 0]) 4 [0] ∧ (0 : Byte) = flagByte false ∧
    (s 0 .isOpen).crossing.closureRequest = false ∧ (s 0 .isOpen).crossing.state ≠ .outOfUse ∧
    BySignaller (s 1 .isOpen) (sent 12 [4, 0, 1]) 4 [1] ∧ (1 : Byte) = flagByte true ∧
    (s 1 .isOpen).crossing.closureRequest ≠ true := by
  simp only [BySignaller, Processes, Running, HasRole]
  and_intros <;> decide +kernel

/-- A state with one fault record. -/
def withFault (code : FaultCode) (state : RecordState) (s : State) : State :=
  { s with faults := { s.faults with records :=
      [{ code := code, subject := none, state := state, firstTime := 0, lastTime := 0, occurrences := 1, detail := none }] } }

/-- Every barrier proved at an end. -/
def barriersAt (down up : Bool) (s : State) : State :=
  { s with barriers := Vector.replicate 4 { BarrierRecord.cold with provedDown := down, provedUp := up } }

theorem witness_CloseRequestAndRestore_restore :
    let s (t : State) := holding 12 [5, 0] (inState .failed t)
    let alarmed := withFault .batteryCritical .acceptedActive ready
    BySignaller (holding 12 [5, 0] ready) (sent 12 [5, 0]) 5 [] ∧ ready.crossing.state ≠ .failed ∧
    BySignaller (s alarmed) (sent 12 [5, 0]) 5 [] ∧ (s alarmed).crossing.state = .failed ∧ AlarmHeld (s alarmed) ∧
    ¬ AlarmHeld (s (barriersAt true false ready)) ∧ AllProved .down (s (barriersAt true false ready)) ∧
    BySignaller (s (barriersAt true false ready)) (sent 12 [5, 0]) 5 [] ∧
    ¬ AlarmHeld (s ready) ∧ ¬ AllProved .down (s ready) ∧ BySignaller (s ready) (sent 12 [5, 0]) 5 [] := by
  simp only [BySignaller, Processes, Running, HasRole, AlarmHeld, AllProved]
  and_intros <;> decide +kernel

theorem witness_CrossingLeavesAndReturnsToUse :
    let s (c : CrossingState) := holding 12 [6, 0] (inState c ready)
    BySignaller (s .failed) (sent 12 [6, 0]) 6 [] ∧ (s .failed).crossing.state = .failed ∧
    BySignaller (s .isOpen) (sent 12 [6, 0]) 6 [] ∧ (s .isOpen).crossing.state = .isOpen ∧
    (∀ i : Fin 4, (s .isOpen).tm.tables.approach[i].inService = true → (s .isOpen).approaches[i].state = .idle) ∧
    BySignaller (s .closed) (sent 12 [6, 0]) 6 [] ∧ (s .closed).crossing.state = .closed := by
  simp only [BySignaller, Processes, Running, HasRole]
  and_intros <;> decide +kernel

/-- Both sections clear, so that no approach strikes at set-up. -/
def cleared (s : State) : State :=
  { s with sections := Vector.replicate 8 { state := .clear, count := some 0, raised := false } }

theorem witness_CrossingLeavesAndReturnsToUse_return :
    let s (t : State) := holding 12 [7, 0] t
    let after (t : State) := setUpApproaches (validationPassed figures ((s t).advance 5))
    let bad : State := { ready with tm := { ready.tm with tables := Tables.blank } }
    Processes (s ready) (sent 12 [7, 0]) 7 [] ∧ HasRole (s ready) 12 .signaller ∧ NothingRuns ready ∧
    ready.crossing.state = .outOfUse ∧ ¬ NothingRuns saving ∧ (inState .isOpen ready).crossing.state ≠ .outOfUse ∧
    validate bad.tm.tables = .failed { table := 0, index := 0 } ∧
    validate ready.tm.tables = .passed figures ∧
    AlarmHeld (after (withFault .batteryCritical .active ready)) ∧
    ¬ AlarmHeld (after ready) ∧ ClosureDemand (after ready) ∧
    ¬ AlarmHeld (after (cleared ready)) ∧ ¬ ClosureDemand (after (cleared ready)) ∧
    ¬ AllProved .up (after (cleared ready)) ∧
    ¬ AlarmHeld (after (cleared (barriersAt false true ready))) ∧
    ¬ ClosureDemand (after (cleared (barriersAt false true ready))) ∧
    AllProved .up (after (cleared (barriersAt false true ready))) := by
  simp only [Processes, Running, HasRole, NothingRuns, AlarmHeld, ClosureDemand, SectionFree, AllProved]
  and_intros <;> decide +kernel

theorem witness_CrossingLeavesAndReturnsToUse_setUp :
    let outcome (first : StrikeCause) (i : Fin 4) : Option StrikeCause := if i = 0 then some first else none
    let busy : State := { cleared ready with
      sections := (cleared ready).sections.set 0 { state := .occupied, count := some 1, raised := false } }
    let disturbed (s : State) : Prop := s.sections[0].state = .disturbed ∨ s.sections[1].state = .disturbed
    (ready.tm.tables.approach[0].inService = true ∧ ready.tm.tables.approach[0].approachSection = (0 : Fin 8).val ∧
      ready.tm.tables.approach[0].islandSection = (1 : Fin 8).val) ∧
    (∀ i : Fin 4, ready.tm.tables.approach[i].inService = false → outcome .disturbed i = none) ∧
    (∀ i : Fin 4, ready.tm.tables.approach[i].inService = true → i = 0) ∧
    (disturbed ready ∧ outcome .disturbed 0 = some .disturbed) ∧
    (¬ disturbed busy ∧ ¬ SectionFree busy.sections[0] ∧ outcome .untimeable 0 = some .untimeable) ∧
    (¬ disturbed (cleared ready) ∧ SectionFree (cleared ready).sections[0]) := by
  simp only [SectionFree]
  and_intros <;> decide +kernel

theorem witness_CrossingLeavesAndReturnsToUse_failed :
    let bad : State := { ready with tm := { ready.tm with tables := { tables with
      approach := tables.approach.set 0 { tables.approach[0] with approachSection := 1 } } } }
    Processes (holding 12 [7, 0] bad) (sent 12 [7, 0]) 7 [] ∧ HasRole (holding 12 [7, 0] bad) 12 .signaller ∧
    NothingRuns bad ∧ bad.crossing.state = .outOfUse ∧
    validate bad.tm.tables = .failed { table := 4, index := 0 } := by
  simp only [Processes, Running, HasRole, NothingRuns]
  and_intros <;> decide +kernel

theorem witness_SectionsAreResetAndApproachesDepart :
    let s (arg : Byte) (t : State) := holding 12 [8, 0, arg] t
    BySignaller (s 8 ready) (sent 12 [8, 0, 8]) 8 [8] ∧ 8 ≤ (8 : Byte).toNat ∧
    BySignaller (s 2 ready) (sent 12 [8, 0, 2]) 8 [2] ∧ ready.tm.tables.sectionTable[2].inService = false ∧
    BySignaller (s 1 ready) (sent 12 [8, 0, 1]) 8 [1] ∧ ready.tm.tables.sectionTable[1].inService = true ∧
    ready.sections[1].state = .disturbed ∧ (cleared ready).sections[1].state ≠ .disturbed ∧
    BySignaller (s 1 (cleared ready)) (sent 12 [8, 0, 1]) 8 [1] := by
  simp only [BySignaller, Processes, Running, HasRole]
  and_intros <;> decide +kernel

theorem witness_SectionsAreResetAndApproachesDepart_heads :
    ¬ ∃ b ∈ ready.tm.tables.sectionTable[1].boundaries, ∃ h : b.head < 16,
      ready.heads[b.head].state = .lost ∨ ready.heads[b.head].state = .faulty := by
  decide +kernel

theorem witness_SectionsAreResetAndApproachesDepart_depart :
    let s (arg : Byte) (t : State) := holding 12 [9, 0, arg] t
    let halted : State := { inState .isOpen ready with
      approaches := ready.approaches.set 0 { ApproachRecord.cold with state := .deferred } }
    BySignaller (s 4 ready) (sent 12 [9, 0, 4]) 9 [4] ∧ 4 ≤ (4 : Byte).toNat ∧
    BySignaller (s 3 ready) (sent 12 [9, 0, 3]) 9 [3] ∧ ready.tm.tables.approach[3].inService = false ∧
    BySignaller (s 0 ready) (sent 12 [9, 0, 0]) 9 [0] ∧ ready.tm.tables.approach[0].inService = true ∧
    ready.approaches[0].state ≠ .deferred ∧
    BySignaller (s 0 halted) (sent 12 [9, 0, 0]) 9 [0] ∧ halted.approaches[0].state = .deferred := by
  simp only [BySignaller, Processes, Running, HasRole]
  and_intros <;> decide +kernel

theorem witness_TableIsWritten :
    let s (p : List Byte) (t : State) := holding 90 (11 :: 0 :: p) t
    ByMaintenance (s [10, 25, 1] (inState .closed ready)) (sent 90 [11, 0, 10, 25, 1]) 11 [10, 25, 1] ∧
    (inState .closed ready).crossing.state ≠ .outOfUse ∧ saving.tm.saveRun = .running ∧
    ready.crossing.state = .outOfUse ∧ ready.tm.saveRun ≠ .running ∧ ready.cal.run ≠ .running ∧
    ByMaintenance (s [11, 0, 1] ready) (sent 90 [11, 0, 11, 0, 1]) 11 [11, 0, 1] ∧ 11 ≤ (11 : Byte).toNat ∧
    ByMaintenance (s [10, 26, 1] ready) (sent 90 [11, 0, 10, 26, 1]) 11 [10, 26, 1] ∧
    TableId.fromId 10 = some .reportMask ∧ TableId.reportMask.entries ≤ (26 : Byte).toNat ∧
    ByMaintenance (s [10, 24, 1, 1, 1] ready) (sent 90 [11, 0, 10, 24, 1, 1, 1]) 11 [10, 24, 1, 1, 1] ∧
    (∀ e ∈ [[(1 : Byte)], [1], [1]], e.length = TableId.reportMask.entryBytes) ∧
    [(1 : Byte), 1, 1] = [[(1 : Byte)], [1], [1]].flatten ∧ (24 : Byte).toNat < TableId.reportMask.entries := by
  simp only [ByMaintenance, Processes, Running, MayGive, HasRole]
  and_intros <;> decide +kernel

theorem witness_SaveRunsStartAndEnd :
    saving.tm.saveRun = .running ∧ 426 < 427 ∧ saving.tm.saveImage.length = 426 ∧ saving.tm.saveImage[1]? = some 1 ∧
    ready.tm.saveRun ≠ .running ∧ Running saving := by
  simp only [Running]
  decide +kernel

theorem witness_SaveRunsStartAndEnd_start :
    let s (t : State) := holding 90 [13, 0] t
    let bad : State := { ready with tm := { ready.tm with tables := { tables with
      params := { tables.params with batteryEntry := 24 } } } }
    ByMaintenance (s saving) (sent 90 [13, 0]) 13 [] ∧ ¬ NothingRuns (s saving) ∧
    ByMaintenance (s (inState .closed ready)) (sent 90 [13, 0]) 13 [] ∧
    (inState .closed ready).crossing.state ≠ .outOfUse ∧
    ByMaintenance (s bad) (sent 90 [13, 0]) 13 [] ∧ NothingRuns (s bad) ∧ (s bad).crossing.state = .outOfUse ∧
    validate bad.tm.tables = .failed { table := 1, index := 0 } ∧
    ByMaintenance (s ready) (sent 90 [13, 0]) 13 [] ∧ NothingRuns (s ready) ∧ (s ready).crossing.state = .outOfUse ∧
    validate ready.tm.tables = .passed figures := by
  simp only [ByMaintenance, Processes, Running, MayGive, HasRole, NothingRuns]
  and_intros <;> decide +kernel

theorem witness_RestartWaitsForItsReply :
    let busy := sending [] (List.replicate 6 (.reply [] false)) 0
    ByMaintenance (holding 90 [14, 0] (inState .isOpen ready)) (sent 90 [14, 0]) 14 [] ∧
    (inState .isOpen ready).crossing.state ≠ .outOfUse ∧
    ByMaintenance (holding 90 [14, 0] busy) (sent 90 [14, 0]) 14 [] ∧ busy.crossing.state = .outOfUse ∧
    answeringAddress busy = some 30 ∧ (busy.lnu.port .a).sending = some (.forwarded []) ∧
    ((busy.lnu.port .a).insertion.filter fun t => !t.isStatus).length < 7 ∧
    ByMaintenance (holding 90 [14, 0] ready) (sent 90 [14, 0]) 14 [] ∧ (ready.lnu.port .a).sending = none ∧
    (ready.lnu.port .a).forward = [] ∧ (ready.lnu.port .a).insertion = [] ∧ answeringAddress ready = some 30 := by
  simp only [ByMaintenance, Processes, Running, MayGive, HasRole]
  and_intros <;> decide +kernel

theorem witness_CalibrationStartsAndIsCancelled :
    let s (mask : Byte) (t : State) := holding 90 [15, 0, mask] t
    let selected := (List.finRange 4).filter fun i => (15 : Byte).toNat.testBit i.val
    let cancel (t : State) := holding 90 [16, 0] t
    let calibrating : State := { ready with cal := { ready.cal with run := .running } }
    ByMaintenance (s 15 saving) (sent 90 [15, 0, 15]) 15 [15] ∧ ¬ NothingRuns saving ∧
    ByMaintenance (s 0 ready) (sent 90 [15, 0, 0]) 15 [0] ∧ (0 : Byte).toNat = 0 ∧
    ByMaintenance (s 16 ready) (sent 90 [15, 0, 16]) 15 [16] ∧ ¬ (16 : Byte).toNat < 16 ∧
    ByMaintenance (s 15 ready) (sent 90 [15, 0, 15]) 15 [15] ∧ ready.crossing.state = .outOfUse ∧ NothingRuns ready ∧
    (15 : Byte).toNat ≠ 0 ∧ (15 : Byte).toNat < 16 ∧
    (∀ i ∈ selected, ready.tm.tables.barrier[i].inService = true ∧
      ready.tm.tables.barrier[i].angleEntry ≠ ready.tm.tables.barrier[i].currentEntry ∧
      (∃ h : ready.tm.tables.barrier[i].angleEntry < 24,
        ready.tm.tables.scan[ready.tm.tables.barrier[i].angleEntry].inService = true) ∧
      ∃ h : ready.tm.tables.barrier[i].currentEntry < 24,
        ready.tm.tables.scan[ready.tm.tables.barrier[i].currentEntry].inService = true) ∧
    ByMaintenance (cancel ready) (sent 90 [16, 0]) 16 [] ∧ (cancel ready).cal.run ≠ .running ∧
    ByMaintenance (cancel calibrating) (sent 90 [16, 0]) 16 [] ∧ (cancel calibrating).cal.run = .running := by
  simp only [ByMaintenance, Processes, Running, MayGive, HasRole, NothingRuns]
  and_intros <;> decide +kernel

theorem witness_LampTestAndLampTimers_slots :
    let next (n : Nat) (i : Fin 12) : Prop := n ≤ i.val ∧ ready.tm.tables.lamp[i].inService = true
    let lit (ok : Bool) (n : Nat) : LampRecord :=
      { LampRecord.cold with mode := .flash, intervalStart := some 0, intervalOk := ok, unproved := n }
    (next 1 1 ∧ ∀ j, next 1 j → 1 ≤ j) ∧ (∀ i, ¬ next 12 i) ∧
    (LampRecord.cold.mode ≠ .flash ∧ (lit true 0).mode = .flash ∧ ready.tm.tables.lamp[0].phase = .a) ∧
    { LampRecord.cold with mode := .flash }.intervalStart = none ∧
    ((lit true 0).intervalStart ≠ none ∧ (lit true 0).intervalOk = true) ∧
    ((lit false 0).intervalOk = false ∧ (lit false 0).unproved = 0) ∧ (lit false 1).unproved = 1 ∧
    (lit false 2).unproved = 2 := by
  decide +kernel

theorem witness_LampTestAndLampTimers :
    let s (t : State) := holding 90 [17, 0] t
    let unlit : State := { ready with tm := { ready.tm with tables := { tables with lamp := Tables.blank.lamp } } }
    ByMaintenance (s saving) (sent 90 [17, 0]) 17 [] ∧ ¬ NothingRuns saving ∧
    ByMaintenance (s ready) (sent 90 [17, 0]) 17 [] ∧ ready.tm.valid = true ∧ ready.crossing.state = .outOfUse ∧
    NothingRuns ready ∧ ready.tm.tables.lamp[0].inService = true ∧
    (∀ j : Fin 12, j < 0 → ready.tm.tables.lamp[j].inService = false) ∧
    ByMaintenance (s unlit) (sent 90 [17, 0]) 17 [] ∧ (∀ i : Fin 12, unlit.tm.tables.lamp[i].inService = false) := by
  simp only [ByMaintenance, Processes, Running, MayGive, HasRole, NothingRuns]
  and_intros <;> decide +kernel

/-- One passage record. -/
def passage : PassageRecord :=
  { approach := 0, strikeCause := .timed, strikeTime := 0, vEAtStrike := none, islandEntryTime := none,
    releaseTime := 0, achievedWarning := none, shortWarning := false }

/-- The two banks in given states. -/
def banked (b0 b1 : Bank) (s : State) : State := { s with report := { s.report with bank0 := b0, bank1 := b1 } }

theorem witness_BanksAreClosedAndReleased :
    let close (t : State) := holding 90 [19, 0] t
    let release (arg : Byte) (t : State) := holding 90 [20, 0, arg] t
    let first := banked { state := .filling, records := [passage] } { state := .empty, records := [] } ready
    let second := banked { state := .ready, records := [passage] } { state := .filling, records := [passage] } ready
    let third := banked { state := .filling, records := [] } { state := .ready, records := [passage] } ready
    ByMaintenance (close first) (sent 90 [19, 0]) 19 [] ∧ first.report.bank0.state = .filling ∧
    first.report.bank0.records ≠ [] ∧
    ByMaintenance (close second) (sent 90 [19, 0]) 19 [] ∧ second.report.bank0.state ≠ .filling ∧
    second.report.bank1.state = .filling ∧ second.report.bank1.records ≠ [] ∧
    ByMaintenance (close ready) (sent 90 [19, 0]) 19 [] ∧ ready.report.bank0.records = [] ∧
    ready.report.bank1.state ≠ .filling ∧
    Processes (holding 12 [19, 0] ready) (sent 12 [19, 0]) 19 [] ∧
    Processes (holding 12 [20, 0, 0] ready) (sent 12 [20, 0, 0]) 20 [0] ∧
    ¬ MayGive (holding 12 [19, 0] ready) 12 .maintenance ∧
    ByMaintenance (release 2 ready) (sent 90 [20, 0, 2]) 20 [2] ∧ 1 < (2 : Byte).toNat ∧
    ByMaintenance (release 0 ready) (sent 90 [20, 0, 0]) 20 [0] ∧ ready.report.bank0.state ≠ .ready ∧
    ByMaintenance (release 1 ready) (sent 90 [20, 0, 1]) 20 [1] ∧ ready.report.bank1.state ≠ .ready ∧
    ByMaintenance (release 0 second) (sent 90 [20, 0, 0]) 20 [0] ∧ second.report.bank0.state = .ready ∧
    ByMaintenance (release 1 third) (sent 90 [20, 0, 1]) 20 [1] ∧ third.report.bank1.state = .ready := by
  simp only [ByMaintenance, Processes, Running, MayGive, HasRole]
  and_intros <;> decide +kernel

/-! ## The hypotheses of the statements are met: timers and inputs -/

/-- One barrier of four. -/
def withBarrier (i : Fin 4) (r : BarrierRecord) (s : State) : State := { s with barriers := s.barriers.set i r }

/-- One approach of four, in a crossing that is OPEN. -/
def withApproach (r : ApproachRecord) (s : State) : State :=
  { inState .isOpen s with approaches := s.approaches.set 0 r }

/-- An approach ARMED with a deadline. -/
def armed (d : Time) (head : Nat) : ApproachRecord :=
  { ApproachRecord.cold with state := .armed, deadline := some d, deadlineHead := some head }

theorem witness_TrainAndCrossingTimersExpire :
    Running ready ∧ ready.tm.valid = true ∧ ready.tm.tables.dpt[7].inService = true ∧
    ready.heads[7].state ≠ .lost ∧
    reached (ready.now + 2000) (after ready.heads[7].lastSeen ready.tm.tables.params.headTimeout) = true ∧
    (withApproach (armed 5 0) ready).approaches[0].state = .armed ∧
    (withApproach (armed 5 0) ready).approaches[0].deadline = some 5 ∧ reached (ready.now + 5) 5 = true := by
  simp only [Running]
  decide +kernel

/-- A crossing record in a state. -/
def withCrossing (c : CrossingRecord) (s : State) : State := { s with crossing := c }

theorem witness_TrainAndCrossingTimersExpire_crossing :
    let c (st : CrossingState) (p : Program) : CrossingRecord := { CrossingRecord.cold with state := st, program := p }
    let w (p : Program) : CrossingRecord :=
      { c .closing p with step := some 3, stepWait := .time, waitEnd := some 5 }
    let since : CrossingRecord := { c .closed .none with closedSince := some 0 }
    Running ready ∧ reached (ready.now + 5) 5 = true ∧
    (w .closing).stepWait = .time ∧ (w .closing).waitEnd = some 5 ∧ (w .closing).step = some 3 ∧
    (w .closing).program = .closing ∧ (w .opening).program = .opening ∧
    { c .closed .none with permitLapse := some 5 }.permitLapse = some (5 : Time) ∧
    { c .closed .none with openDelayEnd := some 5 }.openDelayEnd = some (5 : Time) ∧ (c .closed .none).state = .closed ∧
    { c .failed .none with exitDelayEnd := some 5 }.exitDelayEnd = some (5 : Time) ∧ (c .failed .none).state = .failed ∧
    (withCrossing since ready).crossing.closedSince = some 0 ∧
    (withCrossing since ready).crossing.longReported = false ∧
    (300000 : Time) = after 0 (withCrossing since ready).tm.tables.params.longClosure ∧
    reached (ready.now + 300000) 300000 = true := by
  simp only [Running]
  decide +kernel

theorem witness_LampTestAndLampTimers_timers :
    let s : State := { ready with lamp := { ready.lamp with
      phase := some .a, phaseEnd := some 5, darkEnd := ⟨some 5, some 5⟩
      test := { ready.lamp.test with lamp := some 11, slotEnd := some 5 } } }
    Running s ∧ reached (s.now + 5) 5 = true ∧ s.lamp.phase = some .a ∧ s.lamp.phaseEnd = some 5 ∧
    s.lamp.darkEnd.get .north = some 5 ∧ s.lamp.darkEnd.get .south = some 5 ∧ s.lamp.test.lamp = some 11 ∧
    s.lamp.test.slotEnd = some 5 := by
  simp only [Running]
  decide +kernel

/-- A barrier under an order, in a phase that ends at 5. -/
def moving (d : BarrierEnd) (phase : BarrierPhase) : BarrierRecord :=
  { BarrierRecord.cold with target := some d, phase := phase, phaseEnd := some 5 }

/-- Barrier 0 being calibrated, at a stage, driven since 0. -/
def calBarrier (stage : CalStage) : CalBarrier :=
  { barrier := 0, stage := stage, since := 0, driveStart := some 0, limit := some 5, codes := [], upCode := 0,
    downCode := 0, travelDown := 0, peakCurrent := 0 }

/-- A calibration under way. -/
def calibrating (c : CalBarrier) : State :=
  { ready with cal := { run := .running, current := some c, remaining := [], allPassed := true } }

theorem witness_BarrierTimersExpire :
    let s (r : BarrierRecord) := withBarrier 3 r ready
    let down : BarrierRecord := { moving .down .reverse with provedDown := true }
    let trip : BarrierRecord := { moving .up .tripped with provedUp := true }
    Running (s down) ∧ reached (ready.now + 5) 5 = true ∧
    (s (moving .down .start)).barriers[3].phase = .start ∧ (s (moving .down .start)).barriers[3].phaseEnd = some 5 ∧
    (s (moving .down .start)).barriers[3].target = some .down ∧
    (s down).barriers[3].phase = .reverse ∧ (s down).barriers[3].provedAt .down = true ∧
    (moving .down .reverse).provedAt .down = false ∧
    trip.phase = .tripped ∧ trip.provedAt .up = true ∧ (moving .up .tripped).provedAt .up = false ∧
    { moving .down .run with travelEnd := some 5 }.travelEnd = some (5 : Time) ∧
    { moving .down .run with disagreeEnd := some 5 }.disagreeEnd = some (5 : Time) ∧
    (calibrating (calBarrier .lower)).cal.current = some (calBarrier .lower) ∧
    (calBarrier .lower).limit = some 5 := by
  simp only [Running]
  decide +kernel

theorem witness_BarrierTimersExpire_travel :
    ∀ d, { moving .down .run with travelEnd := some 5 }.target = some d →
      { moving .down .run with travelEnd := some 5 }.provedAt d = false := by
  intro d h
  cases h
  rfl

theorem witness_ReportTimersTheLinkAndTheQuietRate :
    let s : State := { ready with
      scan := { ready.scan with quietEnd := some 5 }
      report := { ready.report with statusDue := some 5, linkEnd := some 5 } }
    Running s ∧ reached (s.now + 5) 5 = true ∧ s.scan.quietEnd = some 5 ∧ s.report.statusDue = some 5 ∧
    s.report.linkEnd = some 5 ∧ ready.tm.valid = true ∧ HasRole ready 12 .signaller ∧
    ¬ (ready.tm.valid = true ∧ HasRole ready 90 .signaller) := by
  simp only [Running, HasRole]
  decide +kernel

/-- A timer one millisecond from its end is not due; one that does not run has no end. -/
theorem witness_WhatIsNoEventDoesNothing_timers :
    (∀ e, some (6 : Time) = some e → reached (ready.now + 5) e = false) ∧
    (∀ e, (none : Option Time) = some e → reached (ready.now + 5) e = false) ∧
    (∀ e, some (after ready.heads[0].lastSeen ready.tm.tables.params.headTimeout) = some e →
      reached (ready.now + 5) e = false) ∧
    (∀ e, ((withCrossing { CrossingRecord.cold with closedSince := some 0 } ready).crossing.closedSince.map fun c =>
      after c ready.tm.tables.params.longClosure) = some e → reached (ready.now + 5) e = false) := by
  refine ⟨?_, ?_, ?_, ?_⟩ <;> · intro e h; cases h <;> decide +kernel

theorem witness_WhatIsNoEventDoesNothing :
    let other := holding 12 [1, 0] ready
    Running ready ∧ ready.tm.saveRun ≠ .running ∧ ready.loading = false ∧ (ready.lnu.port .a).sending = none ∧
    ready.lnu.passed = [] ∧ ready.lnu.processor = none ∧ { ready.lnu with restarting := true }.restarting = true ∧
    other.lnu.processor = some (sent 12 [1, 0]) ∧
    Command.fromCode (read8 (sent 12 [1, 0]).payload 0) ≠ some .faultRead := by
  simp only [Running]
  decide +kernel

theorem witness_ContactsMoveTheBarrier :
    let s (r : BarrierRecord) := withBarrier 2 r ready
    let settle (d : BarrierEnd) (from_ : SettleFrom) : BarrierRecord :=
      { moving d .settle with settleFrom := some from_ }
    Running ready ∧ (ready.contacts[2].at_ .up = false ∧ ready.contacts[2].at_ .down ≠ true) ∧
    { ready with loading := true }.loading = true ∧ Tables.blank.barrier[2].inService = false ∧
    ready.loading = false ∧ ready.tm.tables.barrier[2].inService = true ∧ ready.cal.current = none ∧
    (s (moving .down .brake)).barriers[2].target = some .down ∧ (moving .down .brake).phase = .brake ∧
    (settle .down .run).phase = .settle ∧ ready.lamp.redProved.get .north = false ∧
    (settle .up .brake).settleFrom = some .brake ∧ (settle .up .brake).openLoopOnly = false ∧
    (settle .up .start).settleFrom ≠ some .brake ∧
    { ready with contacts := Vector.replicate 4 { up := true, down := true } }.contacts[2].at_ .up ≠ false ∧
    (moving .down .brake).target ≠ some .up ∧ (moving .down .held).phase = .held := by
  simp only [Running]
  decide +kernel

theorem witness_ContactsMoveTheBarrier_calibration :
    let s : State := calibrating (calBarrier .lower)
    Running s ∧ s.contacts[0].at_ .down ≠ true ∧ s.loading = false ∧ s.tm.tables.barrier[0].inService = true ∧
    s.cal.current = some (calBarrier .lower) ∧ (calBarrier .lower).barrier = 0 ∧
    { s with contacts := Vector.replicate 4 { up := true, down := true } }.contacts[0].at_ .down ≠ false := by
  simp only [Running]
  decide +kernel

theorem witness_StrobesCycleTheScanList :
    let s (position : Option (Fin 24)) (start : Option Time) : State :=
      { ready with scan := { ready.scan with nextStrobe := some 2, position := position, blockStart := start } }
    let served (i : Fin 24) : Prop := ready.tm.tables.scan[i].inService = true
    let above (position : Option (Fin 24)) (i : Fin 24) : Prop := ∀ p, position = some p → p < i
    Running (s none none) ∧ (s none none).scan.nextStrobe = some 2 ∧ reached (ready.now + 2) 2 = true ∧
    (s none none).scan.blockStart = none ∧ (s (some 17) (some 0)).scan.position = some 17 ∧
    (s (some 17) (some 0)).scan.blockStart = some 0 ∧
    ready.tm.tables.scan[17].channel < 24 ∧ ready.tm.tables.scan[23].channel < 24 ∧
    (served 10 ∧ above (some 8) 10 ∧ ∀ j, served j → above (some 8) j → 10 ≤ j) ∧
    (served 0 ∧ above none 0 ∧ ∀ j, served j → above none j → 0 ≤ j) ∧
    (served 0 ∧ (∀ j, served j → ¬ above (some 17) j) ∧ ∀ j, served j → 0 ≤ j) ∧
    ∀ j : Fin 24, ¬ Tables.blank.scan[j].inService = true := by
  simp only [Running]
  decide +kernel

/-- A part that has a telegram of head 0 passed on to its Head Monitor. -/
def observing (r : HeadRecord) (kind : ObservedKind) (payload : List Byte) : State :=
  { ready with
    heads := ready.heads.set 0 r
    lnu := { ready.lnu with passed := [{ kind := kind, source := 41, payload := payload, arrival := 0 }] } }

/-- What it was passed. -/
def observed (kind : ObservedKind) (payload : List Byte) : Observed :=
  { kind := kind, source := 41, payload := payload, arrival := 0 }

/-- A head with its last count 255. -/
def head (state : HeadState) (wasFaulty : Bool) : HeadRecord :=
  { state := state, lastCount := some 255, lastSeen := 0, wasFaulty := wasFaulty }

theorem witness_HeadsFollowTelegrams :
    let s (r : HeadRecord) (count order hi lo : Byte) := observing r .wheel [count, order, hi, lo]
    Running (s (head .live false) 0 1 0 1) ∧
    (s (head .live false) 0 1 0 1).lnu.passed = observed .wheel [0, 1, 0, 1] :: [] ∧
    actedOn (observed .wheel [0, 1, 0, 1]) (s (head .live false) 0 1 0 1) = some 0 ∧
    (s (head .live false) 0 1 0 1).heads[0] = head .live false ∧
    ¬ ((0 : Byte).toNat * 256 + (1 : Byte).toNat = 0 ∨ ((1 : Byte) ≠ 1 ∧ (1 : Byte) ≠ 2)) ∧
    (0 : Byte) = 255 + 1 ∧ (1 : Byte) ≠ 255 + 1 ∧
    (s (head .unseen false) 0 1 0 1).heads[0].state = .unseen ∧
    (s (head .faulty false) 0 1 0 1).heads[0].state = .faulty ∧
    (s (head .lost false) 0 1 0 1).heads[0] = head .lost false ∧
    (s (head .lost true) 0 1 0 1).heads[0] = head .lost true ∧
    (0 : Byte).toNat * 256 + (0 : Byte).toNat = 0 ∧ ((3 : Byte) ≠ 1 ∧ (3 : Byte) ≠ 2) := by
  simp only [Running]
  decide +kernel

theorem witness_HeadsFollowTelegrams_health :
    let s (r : HeadRecord) (count condition : Byte) := observing r .health [count, condition]
    Running (s (head .live false) 255 0) ∧
    (s (head .live false) 255 0).lnu.passed = observed .health [255, 0] :: [] ∧
    actedOn (observed .health [255, 0]) (s (head .live false) 255 0) = some 0 ∧
    (s (head .live false) 255 0).heads[0] = head .live false ∧ (head .live false).lastCount = some 255 ∧
    (head .live false).lastCount ≠ some 254 ∧ (s (head .unseen false) 255 2).heads[0].state = .unseen ∧
    (s (head .faulty false) 255 0).heads[0].state = .faulty ∧
    (s (head .lost false) 255 0).heads[0] = head .lost false ∧
    (s (head .lost true) 255 0).heads[0] = head .lost true ∧ ((3 : Byte) ≠ 0 ∧ (3 : Byte) ≠ 2) := by
  simp only [Running]
  decide +kernel

/-! ## The hypotheses of the statements are met: what the blocks make of an event -/

/-- A section in a state. -/
def withSection (r : SectionRecord) : State := { ready with sections := ready.sections.set 0 r }

theorem witness_SectionsCountWheels :
    let enter : WheelEvent := { head := 0, direction := .toward, interval := 7500, arrival := 0 }
    let leave : WheelEvent := { enter with direction := .away }
    let e := ready.tm.tables.sectionTable[0]
    let occupied (n : Nat) : SectionRecord := { state := .occupied, count := some n, raised := false }
    let restoring (n : Nat) : SectionRecord := { state := .restoring, count := some n, raised := true }
    ready.tm.tables.sectionTable[2].inService = false ∧
    (∀ b ∈ ready.tm.tables.sectionTable[1].boundaries, b.head ≠ enter.head.val) ∧ e.inService = true ∧
    e.boundaries.find? (·.head == enter.head.val) = some { head := 0, entering := .toward } ∧
    Direction.toward = enter.direction ∧ Direction.toward ≠ leave.direction ∧
    (withSection { state := .clear, count := some 0, raised := false }).sections[0].state = .clear ∧
    (withSection (occupied 253)).sections[0] = occupied 253 ∧ (withSection (occupied 254)).sections[0] = occupied 254 ∧
    (withSection (restoring 253)).sections[0] = restoring 253 ∧
    (withSection (restoring 254)).sections[0] = restoring 254 ∧
    (withSection (occupied 1)).sections[0] = occupied 1 ∧ (withSection (occupied 2)).sections[0] = occupied 2 ∧
    (withSection (restoring 0)).sections[0] = restoring 0 ∧ (withSection (restoring 1)).sections[0] = restoring 1 ∧
    (withSection (restoring 2)).sections[0] = restoring 2 ∧ ready.sections[0].state = .disturbed := by
  decide +kernel

theorem witness_MeasuredWheelIsJudged :
    let e := ready.tm.tables.approach[0]
    let last : TimingHead := { head := 5, distance := 1100, haltSide := false }
    let lost : State := { ready with heads := ready.heads.set 5 (head .lost false) }
    let restoring := withSection { state := .restoring, count := some 0, raised := true }
    let g (v : Nat) : GroupContext := { GroupContext.cold with wheelsUsed := 1, vE := some v }
    let halt : TimingHead := { head := 1, distance := 1200, haltSide := true }
    let halted : State := { ready with tm := { ready.tm with tables := { tables with
      approach := tables.approach.set 0 { tables.approach[0] with timingHeads := [halt, last] } } } }
    last.head < 16 ∧ e.timingHeads.getLast? = some last ∧ e.timingHeads[2]? = some last ∧ 2 + 1 = e.timingHeads.length ∧
    8000 < 8001 ∧ 8000 ≤ 8000 ∧ lost.heads[5].state = .lost ∧
    ¬ (ready.heads[5].state = .lost ∨ ready.heads[5].state = .faulty) ∧
    sectionState restoring e.approachSection = some .restoring ∧
    sectionState ready e.approachSection ≠ some .restoring ∧ (g 299).vE = some 299 ∧ 299 < e.vCreep ∧
    e.vCreep ≤ 300 ∧ halted.tm.tables.approach[0].timingHeads[0]? = some halt ∧
    halted.tm.tables.approach[0].timingHeads.getLast? = some last ∧ halt.haltSide = true ∧ 1500 ≤ e.vHalt ∧
    e.vHalt < 1501 ∧ ready.tm.derived = some figures := by
  decide +kernel

theorem witness_MeasuredWheelIsJudged_deadline :
    let r := (withApproach (armed 50 1) ready).approaches[0]
    (ready.approaches[0].deadline = none) ∧ r.deadline = some 50 ∧ r.deadlineHead = some 1 ∧
    (∃ n, r.deadlineHead = some n ∧ n < 2) ∧ (∃ d0, r.deadline = some d0 ∧ reached 49 d0 = false) ∧
    ¬ (r.deadline = none ∨ r.deadlineHead = none ∨ ∃ n, r.deadlineHead = some n ∧ n < 1) ∧
    ¬ (∃ d0, r.deadline = some d0 ∧ reached 50 d0 = false) ∧
    reached ready.now 49 = false ∧ reached ready.now 0 = true := by
  refine ⟨by decide +kernel, by decide +kernel, by decide +kernel, ⟨1, by decide +kernel, by decide⟩,
    ⟨50, by decide +kernel, by decide +kernel⟩, ?_, ?_, by decide +kernel, by decide +kernel⟩
  · rintro (h | h | ⟨n, h, hn⟩)
    · cases h
    · cases h
    · cases h
      exact absurd hn (by decide)
  · rintro ⟨d, h, hd⟩
    cases h
    exact absurd hd (by decide)

theorem witness_StrikesAndReleases :
    let r : ApproachRecord := { ApproachRecord.cold with
      state := .struck, strikeCause := some .timed, strikeTime := some 0, islandEntryTime := some 23199 }
    let b (st : BankState) (n : Nat) : Bank := { state := st, records := List.replicate n passage }
    (withApproach r ready).approaches[0].state = .struck ∧ ready.approaches[0].state ≠ .struck ∧
    (withApproach r ready).tm.derived = some figures ∧ (withApproach r ready).approaches[0].strikeCause = some .timed ∧
    (withApproach r ready).approaches[0].strikeTime = some 0 ∧
    (banked (b .ready 16) (b .ready 16) ready).report.bank0.state ≠ .filling ∧
    (banked (b .ready 16) (b .ready 16) ready).report.bank1.state ≠ .filling ∧
    (banked (b .filling 14) (b .empty 0) ready).report.bank0.state = .filling ∧
    (banked (b .filling 14) (b .empty 0) ready).report.bank0.records.length < 15 ∧
    15 ≤ (banked (b .filling 15) (b .empty 0) ready).report.bank0.records.length ∧
    (banked (b .ready 16) (b .filling 14) ready).report.bank1.state = .filling ∧
    (banked (b .ready 16) (b .filling 14) ready).report.bank1.records.length < 15 ∧
    (banked (b .empty 0) (b .filling 15) ready).report.bank0.state ≠ .filling ∧
    (banked (b .empty 0) (b .filling 15) ready).report.bank1.state = .filling ∧
    15 ≤ (banked (b .empty 0) (b .filling 15) ready).report.bank1.records.length := by
  decide +kernel

/-- A fault record of HEAD_LOST. -/
def faultOf (i : Nat) (state : RecordState) : FaultRecord :=
  { code := .headLost, subject := some i, state := state, firstTime := 0, lastTime := 0, occurrences := 255,
    detail := none }

/-- A fault table of `n` records, the first in a state. -/
def table (n : Nat) (state : RecordState) : FaultRecorder :=
  { records := faultOf 0 state :: (List.range (n - 1)).map fun i => faultOf (i + 1) .active, dropped := false }

theorem witness_FaultReportsUpdateTheTable :
    let isIt (i : Nat) (r : FaultRecord) : Bool := r.code = .headLost ∧ r.subject = some i
    (table 1 .latched).records.find? (isIt 0) = some (faultOf 0 .latched) ∧
    (table 1 .active).records.find? (isIt 0) = some (faultOf 0 .active) ∧
    (table 1 .acceptedActive).records.find? (isIt 0) = some (faultOf 0 .acceptedActive) ∧
    (table 31 .active).records.find? (isIt 99) = none ∧ (table 31 .active).records.length < 32 ∧
    (table 32 .active).records.find? (isIt 99) = none ∧ 32 ≤ (table 32 .active).records.length := by
  decide +kernel

theorem witness_NewRecordsDisplaceAndAreMarked :
    32 ≤ (table 32 .latched).records.length ∧ (table 32 .latched).records[0]? = some (faultOf 0 .latched) ∧
    (∀ r ∈ (table 32 .latched).records, r.state = .latched → (faultOf 0 .latched).code.cls.rank ≤ r.code.cls.rank) ∧
    (∀ r ∈ (table 32 .active).records, r.state ≠ .latched) ∧ FaultCode.cls .headLost ≠ .alarm ∧
    FaultCode.cls .batteryCritical = .alarm ∧ (table 32 .active).records[0]? = some (faultOf 0 .active) ∧
    (faultOf 0 .active).code.cls ≠ .alarm := by
  decide +kernel

theorem witness_NewRecordsDisplaceAndAreMarked_oldest (j : Nat) (r : FaultRecord) (P : Prop) :
    j < 0 → (table 32 .active).records[j]? = some r → P := by
  intro h
  omega

theorem witness_OrdersAndTheGate :
    let s (r : BarrierRecord) := withBarrier 0 r ready
    let proved : BarrierRecord := { BarrierRecord.cold with provedDown := true }
    let at0 : State := { ready with tm := { ready.tm with tables := { tables with
      barrier := tables.barrier.set 0 { tables.barrier[0] with startMs := 0 } } } }
    let lit : State := { ready with lamp := { ready.lamp with redProved := ⟨true, true⟩ } }
    Tables.blank.barrier[0].inService = false ∧ ready.tm.tables.barrier[0].inService = true ∧
    (s (moving .down .run)).barriers[0].target = some .down ∧ (moving .down .run).phase ≠ .stalled ∧
    (moving .down .run).target ≠ some .up ∧ (moving .down .run).phase = .run ∧
    (moving .down .reverse).phase = .reverse ∧ (moving .down .reverse).target ≠ some .up ∧
    (moving .down .stalled).phase = .stalled ∧ BarrierRecord.cold.target ≠ some .down ∧
    ¬ (BarrierRecord.cold.phase = .start ∨ BarrierRecord.cold.phase = .run ∨ BarrierRecord.cold.phase = .brake) ∧
    BarrierRecord.cold.phase ≠ .reverse ∧ proved.provedAt .down = true ∧ BarrierRecord.cold.provedAt .down = false ∧
    ready.lamp.redProved.get .north = false ∧ lit.lamp.redProved.get .north = true ∧
    0 < ready.tm.tables.barrier[0].startMs ∧ at0.tm.tables.barrier[0].startMs = 0 ∧ ready.cal.current = none ∧
    ready.tm.tables.barrier[0].roadSide = .north ∧ (moving .down .held).phase = .held ∧
    (moving .up .run).target ≠ some .down := by
  decide +kernel

theorem witness_BarrierFiguresAndTrips :
    let e := tables.barrier[0]
    let x (flag : Bool) (cls : ResultClass) : ScanResult :=
      { code := 3400, cls := cls, overrange := flag, startTime := 0, endTime := 0 }
    let s (n : Nat) := withBarrier 0 { moving .down .run with retries := n } ready
    e.angleEntry < 24 ∧ e.downCode + 400 ≤ e.upCode ∧ (x false .inRange).overrange = false ∧
    24 ≤ { e with angleEntry := 24 }.angleEntry ∧ { e with upCode := 999 }.upCode < e.downCode + 400 ∧
    (x true .high).overrange = true ∧ e.inService = true ∧
    { moving .down .start with position := some 100 }.position = some 100 ∧
    (moving .down .start).openLoopOnly = false ∧ 100 ≤ e.brakePos ∧ 1000 - e.brakePos ≤ 900 ∧ ¬ 101 ≤ e.brakePos ∧
    ready.cal.current = none ∧ (s 2).barriers[0].phase = .run ∧ (x false .high).cls = .high ∧
    (s 2).barriers[0].retries < 3 ∧ 3 ≤ (s 3).barriers[0].retries ∧
    ¬ ((x false .inRange).cls = .high ∨ (x false .inRange).overrange = true) := by
  decide +kernel

theorem witness_LampAndBatteryResults :
    let x (code : Nat) (cls : ResultClass) (start : Time) (stop : Time) : ScanResult :=
      { code := code, cls := cls, overrange := false, startTime := start, endTime := stop }
    let flash : LampRecord := { LampRecord.cold with mode := .flash, intervalStart := some 10, intervalEnd := some 20 }
    let v (code : Nat) : Nat := code * ready.tm.tables.params.batterySpan / 4095
    { LampRecord.cold with mode := .steady, modeSince := 10 }.mode = .steady ∧
    reached (x 0 .inRange 10 12).startTime 10 = true ∧ reached (x 0 .inRange 9 12).startTime 10 = false ∧
    (LampRecord.cold.unproved = 0 ∧ { LampRecord.cold with unproved := 1 }.unproved = 1 ∧
      { LampRecord.cold with unproved := 2 }.unproved = 2) ∧
    (x 0 .inRange 10 12).cls = .inRange ∧ (x 0 .low 10 12).cls ≠ .inRange ∧ flash.mode = .flash ∧
    flash.intervalStart = some 10 ∧ flash.intervalEnd = some 20 ∧ reached 20 20 = true ∧ reached 19 20 = false ∧
    reached 10 10 = true ∧ flash.intervalOk ≠ true ∧ LampRecord.cold.mode = .dark ∧
    reached 0 LampRecord.cold.modeSince = true ∧ (x 0 .high 10 12).cls = .high ∧ LampRecord.cold.stuckOn = false ∧
    { LampRecord.cold with stuckOn := true }.stuckOn = true ∧ ready.tm.valid = true ∧ 0 < v 2375 ∧
    ready.scan.batteryCritical = false ∧ ready.scan.batteryLow = false ∧ ready.tm.tables.params.batteryLow ≤ v 2375 ∧
    ready.tm.tables.params.batteryCritical ≤ v 2375 ∧ v 2375 ≤ ready.tm.tables.params.batteryLow + 200 ∧
    ready.tm.tables.params.batteryLow + 200 < v 2376 ∧ v 2300 < ready.tm.tables.params.batteryLow ∧
    ready.tm.tables.params.batteryCritical ≤ v 2300 ∧ v 2000 < ready.tm.tables.params.batteryCritical ∧
    0 < v 2000 := by
  decide +kernel

/-- The crossing CLOSED, with approach 0 in a state and every section clear. -/
def shut (r : ApproachRecord) : State := inState .closed (cleared (withApproach r ready))

theorem witness_PermitAndFailure :
    let delayed : State := { shut .cold with crossing := { (shut .cold).crossing with openDelayEnd := some 5 } }
    let noticed (c : CrossingState) : State := inState c { ready with handed := { ready.handed with alarm := true } }
    let exits (n : Nat) : State := { noticed .closed with tm := { ready.tm with tables := { tables with
      params := { tables.params with exitDelayFailed := n } } } }
    (shut .cold).crossing.state = .closed ∧ (shut .cold).tm.derived = some figures ∧
    ClosureDemand (shut { ApproachRecord.cold with state := .struck }) ∧ ¬ ClosureDemand (shut .cold) ∧
    ¬ ClosureDemand (shut (armed 18299 0)) ∧ ¬ ClosureDemand (shut (armed 18300 0)) ∧
    figures.rOpen + ready.tm.tables.params.minOpen = 18300 ∧
    ((18299 : Time) - (shut .cold).now).toInt < 18300 ∧ ¬ ((18300 : Time) - (shut .cold).now).toInt < 18300 ∧
    ((18300 : Time) - (shut .cold).now).toNat < 2 ^ 31 ∧ delayed.crossing.openDelayEnd = some 5 ∧
    (shut .cold).crossing.openDelayEnd = none ∧ 0 < (shut .cold).tm.tables.params.openDelay ∧
    Tables.blank.params.openDelay = 0 ∧
    (noticed .failed).handed.alarm = true ∧ (noticed .failed).crossing.state = .failed ∧
    (noticed .closed).crossing.state ≠ .failed ∧ (noticed .closed).crossing.state ≠ .outOfUse ∧
    0 < (exits 1).tm.tables.params.exitDelayFailed ∧ (exits 0).tm.tables.params.exitDelayFailed = 0 := by
  simp only [ClosureDemand, SectionFree]
  decide +kernel

/-- Approach 0 is the only one in service, so it alone can be ARMED there; with it IDLE none is. -/
theorem witness_PermitAndFailure_armed (r : ApproachRecord) (i : Fin 4) :
    (shut r).tm.tables.approach[i].inService = true ↔ i = 0 := by
  revert i
  show ∀ i : Fin 4, tables.approach[i].inService = true ↔ i = 0
  decide +kernel

theorem witness_CalibrationStages :
    let c (stage : CalStage) (up down travel : Nat) : CalBarrier :=
      { calBarrier stage with upCode := up, downCode := down, travelDown := travel }
    let x (flag : Bool) (cls : ResultClass) : ScanResult :=
      { code := 3400, cls := cls, overrange := flag, startTime := 0, endTime := 0 }
    let s : State := { calibrating (c .raise 1000 600 2000) with now := 20000 }
    (calibrating (calBarrier .seekUp)).cal.current = some (calBarrier .seekUp) ∧ (calBarrier .seekUp).stage = .seekUp ∧
    (calBarrier .lower).stage = .lower ∧ (calBarrier .lower).driveStart = some 0 ∧
    (c .raise 999 600 2000).upCode < (c .raise 999 600 2000).downCode + 400 ∧
    s.cal.current = some (c .raise 1000 600 2000) ∧ 600 + 400 ≤ (c .raise 1000 600 2000).upCode ∧
    (2000 ≤ (c .raise 1000 600 2000).travelDown ∧ (s.now - 0).toNat = 20000) ∧
    ¬ (c .raise 1000 600 1999).travelDown ≥ 2000 ∧
    reached (x false .inRange).startTime (calBarrier .readUp).since = true ∧ (calBarrier .readUp).stage = .readUp ∧
    (x true .high).overrange = true ∧ (x false .inRange).overrange = false ∧
    { calBarrier .readUp with codes := [1, 2] }.codes.length < 3 ∧
    3 ≤ { calBarrier .readDown with codes := [1, 2, 3] }.codes.length ∧ ready.contacts[0].down = false ∧
    { ready with contacts := Vector.replicate 4 { up := true, down := true } }.contacts[0].down = true ∧
    (x false .high).cls = .high ∧ (x false .inRange).cls ≠ .high := by
  decide +kernel

theorem witness_CalibrationStages_next :
    let s (left : List (Fin 4)) (contacts : Contacts) : State := { ready with
      contacts := ready.contacts.set 1 contacts
      cal := { run := .running, current := none, remaining := left, allPassed := true } }
    (s [] ⟨false, false⟩).cal.remaining = [] ∧ (s [1, 2] ⟨true, false⟩).cal.remaining = 1 :: [2] ∧
    (s [1, 2] ⟨true, false⟩).contacts[1].up = true ∧ (s [1] ⟨false, true⟩).contacts[1].up = false := by
  decide +kernel

theorem witness_EveryEventEndsSettled :
    Running ready ∧ (Instr.statusDueExpiry 5).elapsed ≠ none ∧
    exec (.statusDueExpiry 5) ready = .next (outcome (.statusDueExpiry 5) ready) := by
  simp only [Running]
  exact ⟨by decide +kernel, by decide +kernel, rfl⟩

theorem witness_StatusIsProduced :
    let s : State := { ready with handed := { ready.handed with status := true } }
    let told : State := { ready with report := { ready.report with lastStatus := some (statusContent ready) } }
    ready.tm.tables.node[0].inService = true ∧ ready.tm.tables.node[0].role = .signaller ∧
    (∀ j : Fin 4, j < 0 → ¬ (ready.tm.tables.node[j].inService = true ∧ ready.tm.tables.node[j].role = .signaller)) ∧
    (∀ i : Fin 4, ¬ (Tables.blank.node[i].inService = true ∧ Tables.blank.node[i].role = .signaller)) ∧
    s.tm.valid = true ∧ s.handed.status = true ∧ State.reset.tm.valid = false ∧ told.handed.status = false ∧
    told.report.lastStatus = some { statusContent told with vBat := (statusContent ready).vBat } ∧
    (65535 : Nat) < 65536 ∧ (statusContent ready).vBat = none := by
  decide +kernel

theorem witness_EveryEventKeepsTheRest :
    (Command.completion 5 0 .poll).elapsed ≠ none ∧
    beginsCold (Command.completion 5 0 .poll) ready = false ∧
    exec (Command.completion 5 0 .poll) ready = .next (outcome (Command.completion 5 0 .poll) ready) :=
  ⟨by decide, by decide +kernel, rfl⟩

theorem witness_EveryEventKeepsTheRest_expiry :
    (Instr.waitExpiry 5).elapsed ≠ none ∧ beginsCold (.waitExpiry 5) ready = false ∧
    exec (.waitExpiry 5) ready = .next (outcome (.waitExpiry 5) ready) := by
  exact ⟨by decide, by decide +kernel, rfl⟩

theorem witness_EntriesAreStoredClamped :
    let gap (g n : Nat) : Nat := (g - n) + (n - g)
    let codes : List Nat := [1, 2, 4, 8]
    (4 ∈ codes ∧ ∀ g ∈ codes, gap 4 6 < gap g 6 ∨ (gap 4 6 = gap g 6 ∧ 4 ≤ g)) ∧
    (1 ∈ codes ∧ ∀ g ∈ codes, gap 1 0 < gap g 0 ∨ (gap 1 0 = gap g 0 ∧ 1 ≤ g)) ∧
    (FaultCode.all.map fun c => (c.number, decide (c.cls = .alarm))).head? = some (0, decide (FaultCode.headLost.cls = .alarm)) ∧
    (∃ c : FaultCode, c.number = 15 ∧ c.cls = .alarm) ∧ ¬ ∃ c : FaultCode, c.number = 2 ∧ c.cls = .alarm :=
  ⟨by decide, by decide, by decide, ⟨.barrierStall, by decide, by decide⟩, by rintro ⟨c, h⟩; cases c <;> revert h <;> decide⟩

/-- R105, 11.6: clamp_duty 80 in an entry with overdrive_duty 100 caps it; road side 2 is clamped to 1. -/
theorem test_barrier_entry_is_clamped :
    let b : List Byte := [1, 0, 2, 6, 10, 60, 100, 1, 44, 80, 0, 100, 30, 50, 1, 20, 3, 212, 13, 72, 2, 128, 27, 88, 31, 64, 0, 0]
    let r := storeEntry .barrier 0 b tables
    r.clamped = true ∧ r.value.barrier[0].overdriveDuty = 80 ∧ r.value.barrier[0].roadSide = .south ∧
    r.value.barrier[0].startMs = 300 ∧ r.value.barrier[0].upCode = 3400 ∧ r.value.barrier[0].travelUp = 8000 := by
  decide +kernel

theorem witness_TablesReadBackAndLoadBack :
    let written : List Byte := [2, 0, 9]
    let stored := (storeEntry .node 3 written Tables.blank).value
    3 < TableId.node.entries ∧ written.length = TableId.node.entryBytes ∧
    (tableEntries .node stored)[3]? = some [0, 1, 0] := by
  decide +kernel

theorem witness_TablesReadBackAndLoadBack_images :
    (List.replicate 426 (0xFFFF : Word)).length = 426 ∧
    ∀ e ∈ [[(2 : Byte), 0, 9]], e.length = TableId.node.entryBytes := by
  decide +kernel

/-! ## The invariants hold of states that a step leaves -/

/-- The part in service, a POLL at the front of its queue. -/
def polled : State := { ready with pending := [.poll 5] }

theorem step_polled : step polled = .next (outcome (.poll 5) ready) := rfl

theorem witness_ColdStartHasTheInvariants : exec (.powerUp 0) ready = .next (outcome (.powerUp 0) ready) := rfl

theorem witness_InUseIsKept : InUse polled where
  program := by decide +kernel
  valid := by decide +kernel
  figures := by decide +kernel
  loading := by intro h; cases h
  calibration := by decide +kernel
  calibrating := by decide +kernel
  lampTest := by decide +kernel
  lampTested := by decide +kernel
  save := by decide +kernel
  alone := by decide +kernel

theorem witness_DemandKeepsTheCrossingClosed : ClosureSafe polled := fun _ => .inr (.inr (.inr rfl))

theorem witness_GateIsKept : Gated polled := by
  intro i
  have hr : polled.barriers[i] = .cold := by revert i; decide +kernel
  constructor
  · intro d duty h
    rw [hr] at h
    cases h
  · intro h
    rw [hr] at h
    cases h
  · intro _ _
    rw [hr]
    decide
  · intro _ _ h
    rw [hr] at h
    cases h
  · intro _ _
    rw [hr]
    decide

theorem witness_DisturbanceStaysStruck : Struck polled := by
  intro i
  have hr : polled.approaches[i].state = .idle := by revert i; decide +kernel
  constructor
  · intro h
    exact absurd rfl h
  · exact fun _ => hr
  · intro h
    rw [hr] at h
    cases h

theorem witness_BoundsAndAlarmRecordsAreKept : Bounded polled where
  portA := ⟨by decide +kernel, by decide +kernel, by decide +kernel, by decide +kernel, by decide +kernel⟩
  portB := ⟨by decide +kernel, by decide +kernel, by decide +kernel, by decide +kernel, by decide +kernel⟩
  queue := ⟨by decide +kernel, by decide +kernel, by decide +kernel⟩
  faults := ⟨by decide +kernel, by decide +kernel, by decide +kernel, by intro r h; cases h⟩
  bank0 := ⟨by decide +kernel, by decide +kernel, by decide +kernel, by decide +kernel⟩
  bank1 := ⟨by decide +kernel, by decide +kernel, by decide +kernel, by decide +kernel⟩
  filling := by decide +kernel

/-! ## The hypotheses of the statements are met: sections, wheels and approaches -/

/-- Section 0 in one state and every other clear. -/
def sectionZero (r : SectionRecord) : State := { cleared ready with sections := (cleared ready).sections.set 0 r }

/-- A section occupied, restoring or DISTURBED. -/
def taken (state : SectionState) (count : Option Nat) : SectionRecord := { state := state, count := count, raised := false }

theorem witness_SectionsAreDisturbedAndReported :
    let bounded (head : Fin 16) (i : Fin 8) : Prop := ready.tm.tables.sectionTable[i].inService = true ∧
      ∃ b ∈ ready.tm.tables.sectionTable[i].boundaries, b.head = head.val
    let before := cleared ready
    let s := sectionZero (taken .occupied (some 1))
    (bounded 2 0 ∧ bounded 2 1 ∧ before.sections[0].state ≠ .disturbed) ∧ ¬ bounded 2 2 ∧
    (∀ i, ¬ bounded 15 i) ∧ ready.sections[0].state = .disturbed ∧
    (s.tm.tables.sectionTable[0].inService = true ∧ before.sections[0].state ≠ s.sections[0].state) ∧
    ∀ i : Fin 8, before.sections[i].state = (cleared ready).sections[i].state := by
  decide +kernel

/-- A wheel leaving a CLEAR section, section 0 at its TOWARD head: the sections it leaves, and which becomes DISTURBED. -/
theorem witness_SectionsAreDisturbedAndReported_wheel :
    let w : WheelEvent := { head := 0, direction := .away, interval := 7500, arrival := 0 }
    let s := cleared ready
    let next (i : Fin 8) : SectionRecord := (sectionWheel w s).sections[i]
    let entering (i : Fin 8) : Bool := (s.tm.tables.sectionTable[i].boundaries.find? (·.head == w.head.val)).any
      (·.entering == w.direction)
    (([] : List Nat) = ((List.finRange 8).filter fun i =>
      (s.tm.tables.sectionTable[i].inService && decide (s.sections[i].state ≠ (next i).state)) && entering i).map (·.val)) ∧
    ((next 0).state = .disturbed ∧ s.sections[0].state ≠ .disturbed) ∧ (next 1).state ≠ .disturbed := by
  decide +kernel

/-- R21: a wheel at a boundary of sections 0 and 2 names section 2 among those it entered only where it is in service. -/
theorem test_entered_names_sections_in_service :
    let entry (serves : Bool) : SectionEntry :=
      { tables.sectionTable[0] with inService := serves, boundaries := [{ head := 0, entering := .toward }] }
    let s (serves : Bool) : State := { cleared ready with tm := { ready.tm with
      tables := { tables with sectionTable := tables.sectionTable.set 2 (entry serves) } } }
    let moved (serves : Bool) : State := { s serves with
      sections := Vector.replicate 8 { state := .occupied, count := some 1, raised := false } }
    let w : WheelEvent := { head := 0, direction := .toward, interval := 7500, arrival := 0 }
    sectionsEntered w (s false) (moved false) = [0] ∧ sectionsEntered w (s true) (moved true) = [0, 2] := by
  decide +kernel

theorem witness_WheelsAreMeasuredInGroups :
    let w (interval : Nat) (arrival : Time) : WheelEvent :=
      { head := 1, direction := .toward, interval := interval, arrival := arrival }
    let g (used : Nat) (v : Option Nat) (entered : Bool) : GroupContext :=
      { groupHead := some 1, tFirst := 0, wheelsUsed := used, vE := v, lastWheelTime := 0, overspeedEntered := entered }
    let s (g : GroupContext) := withApproach { ApproachRecord.cold with group := g } ready
    let v (interval : Nat) := ready.tm.tables.dpt[1].spacing * 100000 / interval
    (s (g 3 none false)).approaches[0].group.groupHead = some 1 ∧
    ((w 1875 4000).arrival - (g 3 none false).lastWheelTime).toNat ≤ ready.tm.tables.params.groupGap ∧
    ¬ ((w 1875 4001).arrival - (g 3 none false).lastWheelTime).toNat ≤ ready.tm.tables.params.groupGap ∧
    GroupContext.cold.groupHead ≠ some 1 ∧ 4 ≤ (g 4 none false).wheelsUsed ∧ (g 3 none false).wheelsUsed < 4 ∧
    (v 1875 ≤ 8000 ∧ (g 3 none false).vE = none) ∧ ¬ v 1874 ≤ 8000 ∧
    ((g 3 (some 8000) false).vE = some 8000 ∧ ¬ 8000 < v 1875) ∧
    v 4545 ≤ ready.tm.tables.approach[0].vLine ∧ ready.tm.tables.approach[0].vLine < v 4544 ∧
    (g 3 none true).overspeedEntered = true ∧ (g 3 none false).overspeedEntered = false ∧
    (withApproach { ApproachRecord.cold with state := .struck } ready).approaches[0].state = .struck ∧
    (s (g 3 none false)).approaches[0].state ≠ .struck ∧
    (ready.tm.tables.approach[0].inService = true ∧ (s (g 3 none false)).crossing.state ≠ .outOfUse ∧
      ready.tm.tables.approach[0].timingHeads.findIdx? (·.head == (1 : Fin 16).val) = some 1) ∧
    (ready.crossing.state = .outOfUse ∧ ready.tm.tables.approach[3].inService = false) ∧
    ∀ h ∈ ready.tm.tables.approach[0].timingHeads, h.head ≠ (2 : Fin 16).val := by
  decide +kernel

theorem witness_ApproachesTakeSectionReports :
    let e := ready.tm.tables.approach[0]
    let wheel (head : Fin 16) : ReportCause := .wheel head .toward 7 [0]
    let busy : State := { withApproach { ApproachRecord.cold with state := .tracking } (cleared ready) with
      sections := (cleared ready).sections.set 0 (taken .occupied (some 1)) }
    let free : State := withApproach { ApproachRecord.cold with state := .tracking } (cleared ready)
    let idle : State := withApproach .cold (cleared ready)
    let struck (seen : Bool) : State :=
      withApproach { ApproachRecord.cold with state := .struck, islandSeen := seen } (cleared ready)
    let crossed : State := { cleared ready with
      sections := (cleared ready).sections.set 1 (taken .occupied (some 1)) }
    let lost : State := { free with sections := free.sections.set 1 (taken .disturbed none) }
    (e.approachSection = (0 : Fin 8).val ∧ e.islandSection = (1 : Fin 8).val ∧
      ready.tm.tables.sectionTable[0].inService = true ∧ ready.tm.tables.sectionTable[1].inService = true) ∧
    (free.approaches[0].state ≠ .struck ∧ idle.approaches[0].state = .idle ∧ (struck false).approaches[0].state = .struck) ∧
    (lost.sections[1].state = .disturbed ∧ free.sections[1].state ≠ .disturbed ∧ ¬ busy.sections[0].state = .disturbed) ∧
    (SectionFree free.sections[0] ∧ ¬ SectionFree busy.sections[0]) ∧
    ((∀ h ∈ e.timingHeads, h.head ≠ (2 : Fin 16).val) ∧ ∃ h ∈ e.timingHeads, h.head = (0 : Fin 16).val) ∧
    wheel 2 = .wheel 2 .toward 7 [0] ∧ (SectionFree (struck false).sections[1] ∧ ¬ SectionFree crossed.sections[1]) ∧
    (struck false).approaches[0].islandSeen = false ∧ (struck true).approaches[0].islandSeen = true ∧
    (busy.sections[0].state ≠ (struck true).sections[0].state ∧ SectionFree (struck true).sections[0] ∧
      SectionFree (struck true).sections[1]) ∧
    (ready.tm.tables.approach[0].inService = true ∧ free.crossing.state ≠ .outOfUse) ∧
    ready.tm.tables.approach[1].inService = false := by
  simp only [SectionFree]
  decide +kernel

/-! ## The hypotheses of the statements are met: barriers, lamps, the Sequencer -/

theorem witness_AngleResultsMoveTheBarrier :
    let e := tables.barrier[0]
    let x (code : Nat) (flag : Bool) : ScanResult :=
      { code := code, cls := .inRange, overrange := flag, startTime := 0, endTime := 0 }
    let p (code : Nat) (flag : Bool) := positionOf e (some (x code flag))
    let run (only : Bool) : BarrierRecord := { moving .down .run with
      position := some 500, openLoopOnly := only, runOrigin := some 1000, runStart := some 0 }
    let s (r : BarrierRecord) := withBarrier 0 r ready
    let proved : BarrierRecord := { moving .down .settle with position := some 20 }
    let open_ : Tables := { tables with
      barrier := tables.barrier.set 0 { tables.barrier[0] with closedLoop := true } }
    ready.cal.current = none ∧ e.inService = true ∧ Tables.blank.barrier[0].inService = false ∧
    (x 880 true).overrange = true ∧ BarrierRecord.cold.feedbackLost = false ∧ (x 880 false).overrange = false ∧
    { BarrierRecord.cold with feedbackLost := true }.feedbackLost = true ∧ BarrierRecord.cold.target = none ∧
    (run false).target = some .down ∧ p 880 true = none ∧ (run false).position ≠ none ∧ (run false).phase = .run ∧
    (moving .down .brake).position = none ∧
    (let gated : BarrierRecord := { moving .down .held with position := some 9, underway := true }
     gated.position ≠ none ∧ gated.phase ≠ .run ∧ gated.phase ≠ .brake ∧ gated.underway = true) ∧
    ((moving .down .held).phase ≠ .run ∧ (moving .down .held).phase ≠ .brake ∧ (moving .down .held).underway = false) ∧
    p 880 false = some 100 ∧ 100 ≤ e.brakePos ∧ p 883 false = some 101 ∧ ¬ 101 ≤ e.brakePos ∧
    open_.barrier[0].closedLoop = true ∧ (run false).runOrigin = some 1000 ∧ (run false).runStart = some 0 ∧
    (run true).openLoopOnly = true ∧ (moving .down .run).runOrigin = none ∧
    (s proved).barriers[0].phase = .settle ∧ ready.contacts[0].down = false ∧
    (provingOf e { up := false, down := true } (some 20)).1 = true ∧
    (provingOf e { up := false, down := true } (some 21)).1 = false ∧ (moving .down .atEnd).phase = .atEnd ∧
    (let c : Contacts := { up := false, down := true }
     c.down = true ∧ { BarrierRecord.cold with position := some 201 }.position = some 201 ∧ (200 : Nat) < 201 ∧
     ¬ (200 : Nat) < 200 ∧ ¬ (c.up = true ∧ c.down = true)) ∧
    { BarrierRecord.cold with disagreeing := true }.disagreeing = true ∧ BarrierRecord.cold.disagreeing = false ∧
    ((calibrating (calBarrier .raise)).cal.current = some (calBarrier .raise) ∧ (calBarrier .raise).barrier = 0) := by
  decide +kernel

/-- R109, 6.3: a lower movement held by the gate is under way still, and runs open loop once it has lost its position. -/
theorem test_position_lost_while_gated :
    let gated : BarrierRecord := ({ BarrierRecord.cold with target := some .down }.toStart tables.barrier[0] 0 .down true).held
    let lost := ({ gated with position := none }).steer tables.barrier[0] 5 (some 500)
    gated.phase = .held ∧ lost.openLoopOnly = true ∧
    ({ lost with position := some 500 }.toStart tables.barrier[0] 9 .down true).openLoopOnly = true ∧
    ({ BarrierRecord.cold.held with target := some .down }.steer tables.barrier[0] 5 (some 500)).openLoopOnly = false := by
  decide +kernel

theorem witness_AspectAndSoundAreTaken_redProved :
    let lit : State := { ready with lamp := { ready.lamp with
      aspect := .red, lamps := ready.lamp.lamps.set 0 { LampRecord.cold with proved := true } } }
    let shown : State := { ready with lamp := { ready.lamp with redProved := ⟨true, true⟩ } }
    let lost : State := { ready with lamp := { ready.lamp with aspect := .red, redProved := ⟨true, true⟩ } }
    let has (s : State) : Prop := ∃ i : Fin 12, s.tm.tables.lamp[i].inService = true ∧ s.tm.tables.lamp[i].colour = .red ∧
      s.tm.tables.lamp[i].roadSide = .north ∧ s.lamp.lamps[i].proved = true
    (has lit ∧ lit.lamp.redProved.get .north = false) ∧ (¬ has ready ∧ ready.lamp.redProved.get .north = false) ∧
    (¬ has lost ∧ lost.lamp.redProved.get .north = true ∧ lost.lamp.aspect = .red) ∧
    (¬ has shown ∧ shown.lamp.redProved.get .north = true ∧ shown.lamp.aspect ≠ .red) ∧
    LampMode.dark = ready.lamp.lamps[0].mode ∧ LampMode.flash ≠ ready.lamp.lamps[0].mode := by
  decide +kernel

theorem witness_AspectAndSoundAreTaken :
    let red : State := { ready with lamp := { ready.lamp with aspect := .red, sound := true } }
    let handed (a : Aspect) (sound : Bool) : State :=
      { ready with crossing := { ready.crossing with aspect := a, sound := sound } }
    let counted (n : Nat) : State := { red with lamp := { red.lamp with
      audible := red.lamp.audible.set 1 { soundSince := 10, unproved := n } } }
    let x (start : Time) (cls : ResultClass) : ScanResult :=
      { code := 0, cls := cls, overrange := false, startTime := start, endTime := 12 }
    let table (i : Fin 12) := ready.tm.tables.lamp[i]
    ((table 0).inService = true ∧ (table 0).colour = .red ∧ (table 0).phase = .a ∧ (table 1).phase = .b) ∧
    ((table 2).inService = true ∧ (table 2).colour = .amber) ∧ (table 11).inService = false ∧
    ready.lamp.lamps[0].mode = .dark ∧ red.lamp.aspect = .red ∧ ready.lamp.redProved.get .north = false ∧
    (handed .dark false).crossing.aspect = (handed .dark false).lamp.aspect ∧
    (handed .red false).crossing.aspect ≠ (handed .red false).lamp.aspect ∧
    (handed .dark true).crossing.sound ≠ (handed .dark true).lamp.sound ∧
    (counted 0).lamp.sound = true ∧ reached (x 10 .low).startTime (counted 0).lamp.audible[1].soundSince = true ∧
    reached (x 9 .low).startTime (counted 0).lamp.audible[1].soundSince = false ∧
    ((x 10 .inRange).cls = .inRange ∧ (x 10 .inRange).overrange = false) ∧ (x 10 .low).cls ≠ .inRange ∧
    (counted 0).lamp.audible[1].unproved = 0 ∧ (counted 1).lamp.audible[1].unproved = 1 ∧
    2 ≤ (counted 2).lamp.audible[1].unproved := by
  decide +kernel

theorem witness_ProgramStepsRun :
    let k (kind : StepKind) : ProgramStep := ⟨kind, 40⟩
    let lit : State := { ready with lamp := { ready.lamp with redProved := ⟨true, true⟩ } }
    let red (s : State) : Prop := ∀ i : Fin 4, s.tm.tables.barrier[i].inService = true →
      s.tm.tables.barrier[i].role = .entry → s.lamp.redProved.get s.tm.tables.barrier[i].roadSide = true
    let run := ready.tm.tables.closing.toList.takeWhile fun k => decide (k.kind ≠ .finish)
    (∀ kind ∈ StepKind.all, (k kind).kind = kind) ∧ red lit ∧ ¬ red ready ∧
    AllProved .down (barriersAt true false ready) ∧ ¬ AllProved .down ready ∧
    AllProved .up (barriersAt false true ready) ∧ ¬ AllProved .up ready ∧
    runSteps 12 (ready.tm.tables.closing.toList.drop 11) ready = (ready, true) ∧
    (runSteps 1 (ready.tm.tables.closing.toList.drop 0) ready).2 = false ∧
    (runSteps 1 (ready.tm.tables.opening.toList.drop 0) ready).2 = false ∧
    runSteps 12 (ready.tm.tables.opening.toList.drop 11) ready = (ready, true) ∧
    run[5]? = some ⟨.lowerEntry, 0⟩ ∧ ∀ j : Fin 5, (run[j.val]?).all (fun k =>
      decide (k.kind ≠ .lowerEntry ∧ k.kind ≠ .lowerExit)) = true := by
  simp only [AllProved]
  decide +kernel

theorem witness_SequencerTakesWhatIsHandedOn :
    let s (c : CrossingState) (p : Program) (wait : StepWait) (n : Nat) : State := { cleared ready with
      crossing := { CrossingRecord.cold with state := c, program := p, stepWait := wait, step := some n } }
    let demands (t : State) : State := { t with crossing := { t.crossing with closureRequest := true } }
    let up := barriersAt false true (s .opening .opening .allUp 4)
    let down := barriersAt true false (s .closing .closing .allDown 9)
    let waits := s .closing .closing .redProved 6
    let lit : State := { waits with lamp := { waits.lamp with redProved := ⟨true, true⟩ } }
    let moved : State := { s .closed .none .none 1 with approaches := ready.approaches.set 0 (armed 5 0) }
    { ready with handed := { ready.handed with alarm := true } }.handed.alarm = true ∧ ready.handed.alarm = false ∧
    ((s .isOpen .none .none 1).crossing.state = .isOpen ∧ ClosureDemand (demands (s .isOpen .none .none 1)) ∧
      ¬ ClosureDemand (s .isOpen .none .none 1)) ∧
    (ClosureDemand (demands up) ∧ up.crossing.state = .opening ∧ ¬ ClosureDemand up ∧
      up.crossing.stepWait = .allUp ∧ AllProved .up up ∧ up.crossing.program = .opening ∧ up.crossing.step = some 4) ∧
    (down.crossing.stepWait = .allDown ∧ AllProved .down down ∧ ¬ AllProved .up down ∧ down.crossing.program = .closing) ∧
    (waits.crossing.stepWait = .redProved ∧ waits.crossing.step = some 6 ∧
      waits.tm.tables.closing.toList[6 - 1]? = some ⟨.lowerEntry, 0⟩ ∧ waits.lamp.redProved.north = false ∧
      ∀ i : Fin 4, lit.lamp.redProved.get lit.tm.tables.barrier[i].roadSide = true) ∧
    (ClosureDemand (demands (s .closed .none .none 1)) ∧ ¬ ClosureDemand (s .closed .none .none 1) ∧
      (moved.approaches.toList.map fun a => (a.deadline, a.deadlineHead)) ≠
        ((s .closed .none .none 1).approaches.toList.map fun a => (a.deadline, a.deadlineHead))) ∧
    ((s .failed .none .none 1).crossing.state = .failed ∧ ready.crossing.state = .outOfUse) := by
  unfold AllProved ClosureDemand SectionFree
  and_intros <;> decide +kernel

theorem witness_FlagChangesReachTheBlocks :
    let testing : State := { ready with lamp := { ready.lamp with test := { ready.lamp.test with run := .running } } }
    (State.reset.loading = true ∧ ready.loading = false) ∧ State.reset.tm.valid = false ∧ ready.tm.valid = true ∧ testing.lamp.test.run = .running ∧
    ready.lamp.test.run ≠ .running ∧
    (withFault .headLost .active ready).faults.records.map (·.code) = [.headLost] ∧ FaultBounds ready.faults :=
  ⟨by decide +kernel, by decide +kernel, by decide +kernel, by decide +kernel, by decide +kernel, by decide +kernel,
    by decide +kernel, by decide +kernel, by decide +kernel, by intro r h; cases h⟩

/-! ## The hypotheses of the statements are met: valid tables -/

theorem witness_TablesAreValidated_fit :
    (∀ i, NodeFits tables i) ∧ (∀ i, DptFits tables i) ∧ (∀ i, SectionFits tables i) ∧
    (∀ i, BarrierFits tables i) ∧ (∀ i, LampFits tables i) ∧ SideHasRed tables .north ∧ SideHasRed tables .south ∧
    AudibleFits tables ∧ (∀ i, ScanFits tables i) ∧ BatteryFits tables ∧
    scanServedBelow tables 24 * tables.params.scanStrobe ≤ 200 ∧
    (∃ i : Fin 4, tables.node[i].inService = true ∧ tables.node[i].role = .maintenance) := by
  simp only [NodeFits, DptFits, SectionFits, BarrierFits, LampFits, SideHasRed, AudibleFits, ScanFits, BatteryFits,
    NamesScan, UsedByBarrier, UsedByLamp]
  and_intros <;> decide +kernel

theorem witness_TablesAreValidated_approach : ∀ i, ApproachFits tables i := by
  intro i
  match i with
  | 0 =>
    intro _
    refine ⟨by unfold NamesSection; decide +kernel, by unfold NamesSection; decide +kernel, by decide +kernel,
      by decide +kernel, by decide +kernel, ?_, ?_, ?_⟩
    · intro k a b ha hb
      match k with
      | 0 => cases ha; cases hb; decide
      | 1 => cases ha; cases hb; decide
      | k + 2 => cases hb
    · intro t ht
      cases ht
      rfl
    · exact ⟨{ head := 0, distance := 2400, haltSide := false }, by decide +kernel, by decide +kernel⟩
  | 1 | 2 | 3 =>
    intro h
    cases h

theorem witness_TablesAreValidated :
    let node : Tables := { tables with node := tables.node.set 1 { tables.node[1] with address := 30 } }
    let noTerminal : Tables := { tables with node := tables.node.set 1 { tables.node[1] with role := .signaller } }
    let dpt : Tables := { tables with dpt := tables.dpt.set 7 { tables.dpt[7] with address := 30 } }
    let sec : Tables := { tables with dpt := tables.dpt.set 3 { tables.dpt[3] with role := .timingOnly } }
    let bar : Tables := { tables with barrier := tables.barrier.set 3 { tables.barrier[3] with upCode := 999 } }
    let lamp : Tables := { tables with lamp := tables.lamp.set 5 { tables.lamp[5] with scanEntry := 3 } }
    let north : Tables := { tables with lamp := tables.lamp.map fun l => { l with roadSide := .north } }
    let south : Tables := { tables with lamp := tables.lamp.map fun l => { l with roadSide := .south } }
    let sound : Tables := { tables with params := { tables.params with audibleEntry1 := 1 } }
    let scan : Tables := { tables with
      scan := tables.scan.set 17 { tables.scan[17] with lowThreshold := tables.scan[17].highThreshold + 1 } }
    let slow : Tables := { tables with params := { tables.params with scanStrobe := 20 } }
    let battery : Tables := { tables with params := { tables.params with batteryLow := 10800 } }
    (¬ NodeFits node 1 ∧ NodeFits node 0) ∧
    (¬ ∃ i : Fin 4, noTerminal.node[i].inService = true ∧ noTerminal.node[i].role = .maintenance) ∧
    (¬ DptFits dpt 7 ∧ ∀ j : Fin 16, j < 7 → DptFits dpt j) ∧ (¬ SectionFits sec 1 ∧ SectionFits sec 0) ∧
    (¬ BarrierFits bar 3 ∧ ∀ j : Fin 4, j < 3 → BarrierFits bar j) ∧
    (¬ LampFits lamp 5 ∧ ∀ j : Fin 12, j < 5 → LampFits lamp j) ∧
    (SideHasRed north .north ∧ ¬ SideHasRed north .south) ∧ ¬ SideHasRed south .north ∧ ¬ AudibleFits sound ∧
    (¬ ScanFits scan 17 ∧ ∀ j : Fin 24, j < 17 → ScanFits scan j) ∧
    (¬ scanServedBelow slow 24 * slow.params.scanStrobe ≤ 200 ∧ slow.scan[11].inService = true ∧
      scanServedBelow slow 11 = 200 / slow.params.scanStrobe) ∧
    ¬ BatteryFits battery := by
  simp only [NodeFits, DptFits, SectionFits, BarrierFits, LampFits, SideHasRed, AudibleFits, ScanFits, BatteryFits,
    NamesScan, UsedByBarrier, UsedByLamp]
  and_intros <;> decide +kernel

theorem witness_TablesAreValidated_bad_approach :
    let bad : Tables := { tables with
      approach := tables.approach.set 0 { tables.approach[0] with approachSection := 1 } }
    ¬ ApproachFits bad 0 ∧ validate bad = .failed { table := 4, index := 0 } := by
  refine ⟨?_, by decide +kernel⟩
  intro h
  have h := (h rfl).1
  unfold NamesSection at h
  revert h
  decide +kernel

theorem witness_TablesAreValidated_figures :
    let largest (travel : BarrierEntry → Nat) (n : Nat) : Prop :=
      (∀ i : Fin 4, tables.barrier[i].inService = true → travel tables.barrier[i] ≤ n) ∧
      ((∃ i : Fin 4, tables.barrier[i].inService = true ∧ travel tables.barrier[i] = n) ∨
        ((∀ i : Fin 4, ¬ tables.barrier[i].inService = true) ∧ n = 0))
    largest (·.travelDown) 7200 ∧ largest (·.travelUp) 7300 ∧
    tables.approach[0].timingHeads.getLast? = some { head := 5, distance := 1100, haltSide := false } ∧
    figures.tReq[0] ≤ 1100 * 100000 / tables.approach[0].vFinal ∧
    [checkNode tables, checkDpt tables, checkSection tables, checkApproach tables, closingBroken tables.closing.toList
      |>.map (fun i => { table := 5, index := i }), checkBarrier tables, checkLamp tables, checkScan tables].all
      (·.isNone) = true := by
  decide +kernel

/-- A run of steps holds one of a kind at an index. -/
theorem stepAt_iff (run : List ProgramStep) (i : Nat) (p : ProgramStep → Prop) [DecidablePred p] :
    (∃ k : ProgramStep, run[i]? = some k ∧ p k) ↔ (run[i]?).any (fun k => decide (p k)) = true := by
  cases run[i]? <;> simp

/-- No step of a kind stands after an index. -/
theorem noneAfter_iff (run : List ProgramStep) (q : Nat) (p : ProgramStep → Prop) :
    (∀ j, q < j → ¬ ∃ k : ProgramStep, run[j]? = some k ∧ p k) ↔ ∀ k ∈ run.drop (q + 1), ¬ p k := by
  constructor
  · intro h k hk hp
    obtain ⟨n, hn⟩ := List.mem_iff_getElem?.mp hk
    rw [List.getElem?_drop] at hn
    exact h (q + 1 + n) (by omega) ⟨k, hn, hp⟩
  · rintro h j hj ⟨k, hk, hp⟩
    refine h k (List.mem_iff_getElem?.mpr ⟨j - (q + 1), ?_⟩) hp
    rw [List.getElem?_drop, show q + 1 + (j - (q + 1)) = j by omega]
    exact hk

/-- No step of a kind stands at all. -/
theorem noneAt_iff (run : List ProgramStep) (p : ProgramStep → Prop) :
    (∀ i : Nat, ¬ ∃ k : ProgramStep, run[i]? = some k ∧ p k) ↔ ∀ k ∈ run, ¬ p k :=
  ⟨fun h k hk hp => let ⟨n, hn⟩ := List.mem_iff_getElem?.mp hk; h n ⟨k, hn, hp⟩,
    fun h _ ⟨k, hk, hp⟩ => h k (List.mem_iff_getElem?.mpr ⟨_, hk⟩) hp⟩

theorem witness_ProgramsAreValidated :
    let closing := tables.closing.toList.takeWhile fun k => decide (k.kind ≠ .finish)
    let opening := tables.opening.toList.takeWhile fun k => decide (k.kind ≠ .finish)
    let lower (k : StepKind) : Prop := k = .lowerEntry ∨ k = .lowerExit
    let raise (k : StepKind) : Prop := k = .raiseEntry ∨ k = .raiseExit
    ((∃ k : ProgramStep, closing[5]? = some k ∧ k.kind = .lowerEntry) ∧ (∃ k : ProgramStep, closing[7]? = some k ∧ k.kind = .lowerExit) ∧
      (∀ i : Nat, ¬ ∃ k : ProgramStep, closing[i]? = some k ∧ raise k.kind) ∧ (∀ i : Nat, ¬ ∃ k : ProgramStep, closing[i]? = some k ∧ k.kind = .dark) ∧
      (∀ j, 3 < j → ¬ ∃ k : ProgramStep, closing[j]? = some k ∧ k.kind = .amber) ∧
      (∀ j, j < 5 → ¬ ∃ k : ProgramStep, closing[j]? = some k ∧ lower k.kind) ∧
      (∀ j, 7 < j → ¬ ∃ k : ProgramStep, closing[j]? = some k ∧ lower k.kind) ∧ (∃ k : ProgramStep, closing[3]? = some k ∧ k.kind = .red) ∧
      (∀ j, 3 < j → ¬ ∃ k : ProgramStep, closing[j]? = some k ∧ k.kind = .red) ∧
      2000 ≤ (((closing.take 5).drop 4).map fun k => if k.kind = .wait then k.count * 100 else 0).sum ∧
      ∃ k : ProgramStep, closing[8]? = some k ∧ k.kind = .waitDown) ∧
    ((∃ k : ProgramStep, opening[1]? = some k ∧ k.kind = .raiseEntry) ∧ (∃ k : ProgramStep, opening[2]? = some k ∧ k.kind = .raiseExit) ∧
      (∀ i : Nat, ¬ ∃ k : ProgramStep, opening[i]? = some k ∧ lower k.kind) ∧ (∀ j, 2 < j → ¬ ∃ k : ProgramStep, opening[j]? = some k ∧ raise k.kind) ∧
      (∃ k : ProgramStep, opening[3]? = some k ∧ k.kind = .waitUp) ∧
      ∀ j, j < 3 → ¬ ∃ k : ProgramStep, opening[j]? = some k ∧ (k.kind = .dark ∨ k.kind = .amber)) := by
  simp only [noneAfter_iff, noneAt_iff]
  simp only [stepAt_iff]
  decide +kernel

/-- Programs that break the conditions, each at the index the condition reports. -/
theorem witness_ProgramsAreValidated_broken :
    let close (steps : List ProgramStep) := closingBroken (steps ++ [⟨.finish, 0⟩])
    let ends : List ProgramStep := [⟨.lowerEntry, 0⟩, ⟨.lowerExit, 0⟩, ⟨.waitDown, 0⟩]
    let red (n : Nat) : List ProgramStep := [⟨.red, 0⟩, ⟨.wait, n⟩]
    close [] = some 0 ∧ close (⟨.raiseEntry, 0⟩ :: ends) = some 0 ∧ close (red 20 ++ ends ++ [⟨.dark, 0⟩]) = some 5 ∧
    close (⟨.amber, 0⟩ :: red 20 ++ ends) = none ∧ close (red 20 ++ ⟨.amber, 0⟩ :: ends) = some 2 ∧
    close ends = some 0 ∧ close (red 19 ++ ends) = some 2 ∧ close (red 20 ++ ends.take 2) = some 4 ∧
    openingBroken [⟨.raiseEntry, 0⟩] = some 1 ∧
    openingBroken [⟨.raiseEntry, 0⟩, ⟨.raiseExit, 0⟩, ⟨.lowerExit, 0⟩] = some 2 ∧
    openingBroken [⟨.waitUp, 0⟩, ⟨.raiseEntry, 0⟩, ⟨.raiseExit, 0⟩] = some 3 ∧
    openingBroken [⟨.raiseEntry, 0⟩, ⟨.dark, 0⟩, ⟨.raiseExit, 0⟩, ⟨.waitUp, 0⟩] = some 1 := by
  decide +kernel

/-- The invariant of the ALARM records holds of the part in service. -/
theorem witness_BoundsAndAlarmRecordsAreKept_alarms : AlarmsRecorded polled where
  critical := by intro h; cases h
  stalled := by
    intro i h
    have hr : polled.barriers[i].phase = .idle := by revert i; decide +kernel
    rw [hr] at h
    cases h
  timeout := by
    intro i h
    have hr : polled.barriers[i].phase = .idle := by revert i; decide +kernel
    rw [hr] at h
    cases h
  disagree := by
    intro i h
    have hr : polled.barriers[i].disagreeing = false := by revert i; decide +kernel
    rw [hr] at h
    cases h
  dark := by intro side h; cases h
  invalid := by intro _ h; cases h

/-! ## Further clauses -/

theorem witness_HeadsFollowTelegrams_unacted :
    let s (payload : List Byte) := observing (head .live false) .wheel payload
    let h (payload : List Byte) := observing (head .live false) .health payload
    let cleared (u : State) : State := { u with tm := { u.tm with valid := false } }
    let strange : State := { s [0, 1, 0, 1] with
      tm := { (s [0, 1, 0, 1]).tm with tables := { tables with
        dpt := tables.dpt.map fun e => { e with inService := false } } } }
    (Running (cleared (s [0, 1, 0, 1])) ∧ (cleared (s [0, 1, 0, 1])).lnu.passed = observed .wheel [0, 1, 0, 1] :: [] ∧
      (cleared (s [0, 1, 0, 1])).tm.valid = false ∧ (observed .wheel [0, 1, 0]).payload.length ≠ 4 ∧
      ∀ i : Fin 16, strange.tm.tables.dpt[i].inService = false) ∧
    (Running (cleared (h [255, 0])) ∧ (cleared (h [255, 0])).lnu.passed = observed .health [255, 0] :: [] ∧
      (cleared (h [255, 0])).tm.valid = false ∧ (observed .health [255]).payload.length ≠ 2) := by
  simp only [Running]
  decide +kernel

theorem witness_LampAndBatteryResults_closed :
    { LampRecord.cold with mode := .flash }.mode = .flash ∧
    { LampRecord.cold with mode := .flash }.intervalStart = none ∧
    { LampRecord.cold with mode := .flash }.intervalEnd = none := by decide

theorem witness_LampAndBatteryResults_held :
    let v (code : Nat) : Nat := code * ready.tm.tables.params.batterySpan / 4095
    let held : State := { ready with scan := { ready.scan with batteryLow := true, batteryCritical := true } }
    let low : State := { ready with scan := { ready.scan with batteryLow := true } }
    v 0 = 0 ∧ (held.scan.batteryLow = true ∧ held.scan.batteryCritical = true ∧ v 0 < 10800 ∧ v 0 < 11400) ∧
    (ready.tm.tables.params.batteryCritical + 200 < v 2253 ∧ v 2252 ≤ ready.tm.tables.params.batteryCritical + 200) ∧
    (low.scan.batteryLow = true ∧ low.scan.batteryCritical = false ∧
      v 2211 < ready.tm.tables.params.batteryCritical ∧ ready.tm.tables.params.batteryCritical ≤ v 2212) ∧
    (ready.tm.tables.params.batteryLow + 200 < v 2376 ∧ ready.scan.batteryLow = false) := by
  decide +kernel

theorem witness_CalibrationStages_early :
    reached (0 : Time) { calBarrier .readUp with since := 1 }.since = false ∧
    reached (1 : Time) { calBarrier .readUp with since := 1 }.since = true := by
  decide +kernel

theorem witness_ReportTimersTheLinkAndTheQuietRate_rate :
    let quiet : State := { inState .isOpen ready with scan := { ready.scan with rate := .quiet } }
    let wheel (s : State) : State := { s with handed := { s.handed with wheel := true } }
    let calmIn (u : State) : Prop := u.crossing.state = .isOpen ∧
      ∀ i : Fin 4, u.tm.tables.approach[i].inService = true → u.approaches[i].state = .idle
    (wheel quiet).handed.wheel = true ∧ quiet.scan.rate = .quiet ∧ calmIn quiet ∧
    (calmIn (wheel quiet) ∧ ¬ calmIn ready ∧ ready.scan.rate = .normal) ∧
    quiet.crossing.state ≠ ready.crossing.state ∧ quiet.handed.wheel = false ∧
    ¬ calmIn (withApproach (armed 5 0) ready) := by
  decide +kernel
end Sys2Proof.Tests
end

section
/-! SUPPORT. The end of an event of a running part, and the one equation by which a condition ends. -/

namespace Sys2Proof.Machine

set_option Elab.async false

theorem State.alive_of_running {s : State} (h : Running s) : s.alive = true := by
  simp [State.alive, h.1, h.2]

/-- A running part takes every event: time goes by, the event does its work, and the event ends. -/
theorem event_of_running {s : State} (h : Running s) (dt : Time) (work : State → State) :
    event dt work s = finish (s.advance dt) (work (s.advance dt)) := by
  simp [event, State.alive_of_running h]

/-- A command that is an event ends with what its work makes of the part. -/
theorem next_event {s : State} (h : Running s) (dt : Time) {work : State → State} {u : State}
    (hw : work (s.advance dt) = u) :
    (.next (event dt work s) : Host.Outcome State Fault Refusal) = .next (finish (s.advance dt) u) := by
  rw [event_of_running h, hw]

/-- The fault table after a condition has ended (R142). -/
def FaultRecorder.ended (f : FaultRecorder) (c : FaultCode) (i : Option Nat) : FaultRecorder :=
  match findRecord f.records c i with
  | some r =>
    match r.state with
    | .active => { f with records := updateRecord f.records c i fun r => { r with state := .latched } }
    | .acceptedActive => { f with records := f.records.filter fun r => !r.isFor c i }
    | .latched => f
  | none => f

/-- The end of a condition reads and changes the fault table alone. -/
theorem conditionEnd_eq (c : FaultCode) (i : Option Nat) (s : State) :
    conditionEnd c i s = { s with faults := s.faults.ended c i } := by
  unfold conditionEnd FaultRecorder.ended
  cases findRecord s.faults.records c i with
  | none => rfl
  | some r => cases hr : r.state <;> simp [hr]

end Sys2Proof.Machine
end

section
/-! What becomes of a received frame (R161, R162). -/

namespace Sys2Proof.Machine

set_option Elab.async false

theorem readTelegram_frame {frame : List Byte} {t : Telegram} (h : readTelegram frame = some t) :
    t.frame = frame := by
  unfold readTelegram at h
  split at h
  · dsimp only at h
    split at h
    · rw [← Option.some.inj h]
    · cases h
  · cases h

theorem exec_telegramReception {s : State} (h : Running s) (dt : Time) (port : Port) (frame : List Byte) :
    exec (.telegramReception dt port frame) s =
      .next (finish (s.advance dt) (receive port frame (s.advance dt))) :=
  congrArg Host.Outcome.next (event_of_running h dt _)

theorem receive_of_none {frame : List Byte} (h : readTelegram frame = none) (port : Port) (s : State) :
    receive port frame s = s := by
  simp only [receive, h]

theorem receive_of_some {frame : List Byte} {t : Telegram} (h : readTelegram frame = some t) (port : Port)
    (s : State) : receive port frame s = dispose port t s := by
  simp only [receive, h]

/-! ## The four cases of R162 -/

theorem dispose_own {s : State} {t : Telegram} (hs : answeringAddress s = some t.source) (port : Port) :
    dispose port t s = s := by
  simp only [dispose, disposition, hs, if_true]

theorem dispose_consumed {s : State} {t : Telegram} (hs : answeringAddress s ≠ some t.source)
    (hd : answeringAddress s = some t.destination) (port : Port) : dispose port t s = consume port t s := by
  simp only [dispose, disposition, if_neg hs, if_pos hd]

theorem dispose_toAll {s : State} {t : Telegram} (hs : answeringAddress s ≠ some t.source)
    (hd : answeringAddress s ≠ some t.destination) (ha : t.destination = Config.allAddress) (port : Port) :
    dispose port t s = forwardTo (otherPort port) t.frame (observe t s) := by
  simp only [dispose, disposition, if_neg hs, if_neg hd, if_pos ha]

theorem dispose_other {s : State} {t : Telegram} (hs : answeringAddress s ≠ some t.source)
    (hd : answeringAddress s ≠ some t.destination) (ha : t.destination ≠ Config.allAddress) (port : Port) :
    dispose port t s = forwardTo (otherPort port) t.frame s := by
  simp only [dispose, disposition, if_neg hs, if_neg hd, if_neg ha]

theorem consume_noCommand {t : Telegram} (hk : t.kind ≠ kindCommand) (port : Port) (s : State) :
    consume port t s = linkRefresh t.source s := by
  simp only [consume, if_neg hk]

/-! ## Which telegrams are acted on (R1) -/

/-- The payload length of a wheel and of a health telegram (R5). -/
def ObservedKind.payloadLength : ObservedKind → Nat
  | .wheel => 4
  | .health => 2

theorem headOf_isSome_iff (ts : Tables) (source : Nat) :
    (headOf ts source).isSome = true ↔
      ∃ i : Fin 16, ts.dpt[i].inService = true ∧ ts.dpt[i].address = source := by
  simp [headOf, List.find?_isSome]

theorem actedOn_eq (o : Observed) (s : State) :
    actedOn o s = if s.tm.valid && o.payload.length == o.kind.payloadLength then
      headOf s.tm.tables o.source else none := by
  obtain ⟨kind, source, payload, arrival⟩ := o
  cases kind <;> rfl

/-- The conditions of R1: valid tables, the payload length of the kind, and an in-service entry for the source. -/
theorem actedOn_isSome_iff (o : Observed) (s : State) :
    (actedOn o s).isSome = true ↔ s.tm.valid = true ∧ o.payload.length = o.kind.payloadLength ∧
      ∃ i : Fin 16, s.tm.tables.dpt[i].inService = true ∧ s.tm.tables.dpt[i].address = o.source := by
  rw [← headOf_isSome_iff, ← and_assoc, ← beq_iff_eq (a := o.payload.length), ← Bool.and_eq_true, actedOn_eq]
  split
  next h => exact (and_iff_right h).symm
  next h => simp only [h, Option.isSome_none, Bool.false_eq_true, false_and]

theorem actedOn_isNone {o : Observed} {s : State}
    (h : ¬ (s.tm.valid = true ∧ o.payload.length = o.kind.payloadLength ∧
      ∃ i : Fin 16, s.tm.tables.dpt[i].inService = true ∧ s.tm.tables.dpt[i].address = o.source)) :
    actedOn o s = none := by
  rwa [← actedOn_isSome_iff, Option.not_isSome_iff_eq_none] at h

/-- The kind of a telegram that the Head Monitor observes has its code. -/
theorem observedKind_eq_some_iff (kind : Nat) (k : ObservedKind) :
    observedKind kind = some k ↔ kind = match k with | .wheel => 1 | .health => 2 := by
  unfold observedKind kindWheel kindHealth
  cases k <;> grind

theorem observe_acted {t : Telegram} {s : State} {k : ObservedKind} (hk : observedKind t.kind = some k)
    (ha : (actedOn { kind := k, source := t.source, payload := t.payload, arrival := s.now } s).isSome = true) :
    observe t s = { s with lnu := { s.lnu with passed := s.lnu.passed ++
      [{ kind := k, source := t.source, payload := t.payload, arrival := s.now }] } } := by
  simp only [observe, hk, ha, if_true]

theorem observe_notActed {t : Telegram} {s : State}
    (h : ∀ k, observedKind t.kind = some k →
      actedOn { kind := k, source := t.source, payload := t.payload, arrival := s.now } s = none) :
    observe t s = s := by
  unfold observe
  cases hk : observedKind t.kind with
  | none => rfl
  | some k => simp [h k hk]

/-- Settles O7: R161 and the cases of R162, with R1 for a telegram to 255. -/
theorem telegramsAreDisposedOf : Obligations.TelegramsAreDisposedOf := by
  intro s dt port frame hrun
  refine ⟨fun hnone => ?_, fun t ht => ?_⟩
  · rw [exec_telegramReception hrun, receive_of_none hnone]
  rw [exec_telegramReception hrun, receive_of_some ht]
  have hframe := readTelegram_frame ht
  refine ⟨fun hs => ?_, fun hs hd hk => ?_, fun hs hd ha => ?_, fun hs hd ha => ?_⟩
  · rw [dispose_own (s := s.advance dt) hs]
  · rw [dispose_consumed (s := s.advance dt) hs hd, consume_noCommand hk]
  · rw [dispose_other (s := s.advance dt) hs hd ha, hframe]
  · rw [dispose_toAll (s := s.advance dt) hs hd ha, hframe]
    refine ⟨fun hk hacted => ?_, fun hk hacted => ?_, fun hw hh => ?_⟩
    · rw [observe_acted (s := s.advance dt) (k := .wheel) ((observedKind_eq_some_iff ..).2 hk) ((actedOn_isSome_iff ..).2 hacted)]
      rfl
    · rw [observe_acted (s := s.advance dt) (k := .health) ((observedKind_eq_some_iff ..).2 hk) ((actedOn_isSome_iff ..).2 hacted)]
      rfl
    · rw [observe_notActed]
      intro k hk
      have hkind := (observedKind_eq_some_iff ..).1 hk
      cases k with
      | wheel => exact actedOn_isNone fun hacted => hw ⟨hkind, hacted⟩
      | health => exact actedOn_isNone fun hacted => hh ⟨hkind, hacted⟩

end Sys2Proof.Machine
end

section
/-! SUPPORT. The rows of 1.4: what the Head Monitor makes of a telegram passed to it, by the state of its head. -/

namespace Sys2Proof.Machine

set_option Elab.async false

/-! ## The front telegram of the list -/

theorem takePassed_acted {kind : ObservedKind} {s : State} {o : Observed} {rest : List Observed} {i : Fin 16}
    (hp : s.lnu.passed = o :: rest) (hk : o.kind = kind) (ha : actedOn o s = some i)
    (act : Fin 16 → Observed → State → State) :
    takePassed kind act s = act i o { s with lnu := { s.lnu with passed := rest } } := by
  have ha' : actedOn o { s with lnu := { s.lnu with passed := rest } } = some i := ha
  simp only [takePassed, hp, if_pos hk, ha']

theorem takePassed_notActed {kind : ObservedKind} {s : State} {o : Observed} {rest : List Observed}
    (hp : s.lnu.passed = o :: rest) (hk : o.kind = kind) (ha : actedOn o s = none)
    (act : Fin 16 → Observed → State → State) :
    takePassed kind act s = { s with lnu := { s.lnu with passed := rest } } := by
  have ha' : actedOn o { s with lnu := { s.lnu with passed := rest } } = none := ha
  simp only [takePassed, hp, if_pos hk, ha']

theorem takePassed_otherKind {kind : ObservedKind} {s : State} {o : Observed} {rest : List Observed}
    (hp : s.lnu.passed = o :: rest) (hk : o.kind ≠ kind) (act : Fin 16 → Observed → State → State) :
    takePassed kind act s = s := by
  simp only [takePassed, hp, if_neg hk]

theorem exec_wheelTelegram {s : State} (h : Running s) (dt : Time) :
    exec (.wheelTelegram dt) s =
      .next (finish (s.advance dt) (takePassed .wheel wheelTelegramFor (s.advance dt))) :=
  congrArg Host.Outcome.next (event_of_running h dt _)

theorem exec_healthTelegram {s : State} (h : Running s) (dt : Time) :
    exec (.healthTelegram dt) s =
      .next (finish (s.advance dt) (takePassed .health healthTelegramFor (s.advance dt))) :=
  congrArg Host.Outcome.next (event_of_running h dt _)

/-! ## The wheel event of a payload (R4, R5) -/

theorem byte_eq_ofNat_iff (b : Byte) (n : Nat) (hn : n < 256) : b = BitVec.ofNat 8 n ↔ b.toNat = n := by
  rw [BitVec.toNat_eq, BitVec.toNat_ofNat, Nat.mod_eq_of_lt (by simpa using hn)]

theorem sensorOrder_isNone_iff (order : Byte) : sensorOrder order.toNat = none ↔ order ≠ 1 ∧ order ≠ 2 := by
  have h1 := byte_eq_ofNat_iff order 1 (by decide)
  have h2 := byte_eq_ofNat_iff order 2 (by decide)
  unfold sensorOrder
  grind

/-- A code that names a sensor order names the first-sensor order exactly where it is 1. -/
theorem sensorOrder_eq_iff {order : Byte} {x : SensorOrder} (h : sensorOrder order.toNat = some x)
    (sense : SensorOrder) : x = sense ↔ ((order = 1) ↔ sense = .s1First) := by
  have h1 := byte_eq_ofNat_iff order 1 (by decide)
  unfold sensorOrder at h
  cases x <;> cases sense <;> grind

theorem wheelEventOf_bad (e : DptEntry) (i : Fin 16) (count order hi lo : Byte) (arrival : Time)
    (h : hi.toNat * 256 + lo.toNat = 0 ∨ (order ≠ 1 ∧ order ≠ 2)) :
    wheelEventOf e i [count, order, hi, lo] arrival = none := by
  have hint : read16 [count, order, hi, lo] 2 = hi.toNat * 256 + lo.toNat := rfl
  have hord : read8 [count, order, hi, lo] 1 = order.toNat := rfl
  unfold wheelEventOf
  rw [hint, hord]
  rcases h with h | h
  · cases sensorOrder order.toNat <;> simp [h]
  · rw [(sensorOrder_isNone_iff order).2 h]

theorem wheelEventOf_good (e : DptEntry) (i : Fin 16) (count order hi lo : Byte) (arrival : Time)
    (h : ¬ (hi.toNat * 256 + lo.toNat = 0 ∨ (order ≠ 1 ∧ order ≠ 2))) :
    wheelEventOf e i [count, order, hi, lo] arrival =
      some { head := i, interval := hi.toNat * 256 + lo.toNat, arrival := arrival
             direction := if (order = 1) ↔ e.towardSense = .s1First then .toward else .away } := by
  have hint : read16 [count, order, hi, lo] 2 = hi.toNat * 256 + lo.toNat := rfl
  have hord : read8 [count, order, hi, lo] 1 = order.toNat := rfl
  rw [not_or, ← sensorOrder_isNone_iff] at h
  unfold wheelEventOf
  rw [hint, hord]
  cases ho : sensorOrder order.toNat with
  | none => exact absurd ho h.2
  | some x => simp only [if_neg h.1, sensorOrder_eq_iff ho]

/-! ## A wheel telegram, by the state of the head (R5 to R7, R9, R10) -/

/-- The head takes the count of a telegram, with a state. -/
def adoptsCount (i : Fin 16) (o : Observed) (state : HeadState) (s : State) : State :=
  s.setHead i (s.heads[i].adopt (o.payload.getD 0 0) o.arrival state)

section
variable {i : Fin 16} {o : Observed} {s : State}

theorem wheelTelegramFor_unseen {w : WheelEvent} (hr : s.heads[i].state = .unseen)
    (hw : wheelEventOf (s.dptEntry i) i o.payload o.arrival = some w) :
    wheelTelegramFor i o s = ordinaryWheel w (adoptsCount i o .live s) := by
  simp only [wheelTelegramFor, hr, hw, adoptsCount]

theorem wheelTelegramFor_bad (hr : s.heads[i].state = .unseen ∨ s.heads[i].state = .live)
    (hw : wheelEventOf (s.dptEntry i) i o.payload o.arrival = none) :
    wheelTelegramFor i o s = countSkip i (disturbSections i (adoptsCount i o .live s)) := by
  rcases hr with hr | hr <;> simp only [wheelTelegramFor, hr, hw, adoptsCount]

theorem wheelTelegramFor_next {w : WheelEvent} {last : Byte} (hr : s.heads[i].state = .live)
    (hl : s.heads[i].lastCount = some last) (hc : o.payload.getD 0 0 = last + 1)
    (hw : wheelEventOf (s.dptEntry i) i o.payload o.arrival = some w) :
    wheelTelegramFor i o s = ordinaryWheel w (adoptsCount i o .live s) := by
  simp only [wheelTelegramFor, hr, hw, hl, if_pos hc, adoptsCount]

theorem wheelTelegramFor_repeated {w : WheelEvent} {last : Byte} (hr : s.heads[i].state = .live)
    (hl : s.heads[i].lastCount = some last) (hc : o.payload.getD 0 0 = last)
    (hw : wheelEventOf (s.dptEntry i) i o.payload o.arrival = some w) :
    wheelTelegramFor i o s = s := by
  have hne : o.payload.getD 0 0 ≠ last + 1 := by
    rw [hc]
    bv_omega
  simp only [wheelTelegramFor, hr, hw, hl, if_neg hne, if_pos hc]

theorem wheelTelegramFor_skipped {w : WheelEvent} {last : Byte} (hr : s.heads[i].state = .live)
    (hl : s.heads[i].lastCount = some last) (hn : o.payload.getD 0 0 ≠ last + 1) (hc : o.payload.getD 0 0 ≠ last)
    (hw : wheelEventOf (s.dptEntry i) i o.payload o.arrival = some w) :
    wheelTelegramFor i o s =
      wheelToApproach w (countSkip i (disturbSections i (adoptsCount i o .live s))) := by
  simp only [wheelTelegramFor, hr, hw, hl, if_neg hn, if_neg hc, adoptsCount]

theorem wheelTelegramFor_faulty (hr : s.heads[i].state = .faulty) :
    wheelTelegramFor i o s = s.setHead i { s.heads[i] with lastSeen := o.arrival } := by
  simp only [wheelTelegramFor, hr]

theorem wheelTelegramFor_lostFaulty (hr : s.heads[i].state = .lost) (hf : s.heads[i].wasFaulty = true) :
    wheelTelegramFor i o s = endLost i (adoptsCount i o .faulty s) := by
  simp only [wheelTelegramFor, hr, if_pos hf, adoptsCount]

theorem wheelTelegramFor_lost {w : WheelEvent} (hr : s.heads[i].state = .lost)
    (hf : s.heads[i].wasFaulty = false)
    (hw : wheelEventOf (s.dptEntry i) i o.payload o.arrival = some w) :
    wheelTelegramFor i o s = wheelToApproach w (endLost i (adoptsCount i o .live s)) := by
  simp only [wheelTelegramFor, hr, hw, hf, Bool.false_eq_true, if_false, adoptsCount]

theorem wheelTelegramFor_lostBad (hr : s.heads[i].state = .lost) (hf : s.heads[i].wasFaulty = false)
    (hw : wheelEventOf (s.dptEntry i) i o.payload o.arrival = none) :
    wheelTelegramFor i o s = countSkip i (disturbSections i (endLost i (adoptsCount i o .live s))) := by
  simp only [wheelTelegramFor, hr, hw, hf, Bool.false_eq_true, if_false, adoptsCount]

/-! ## A health telegram, by the state of the head (R6, R8 to R10) -/

theorem healthTelegramFor_unseen (hr : s.heads[i].state = .unseen) :
    healthTelegramFor i o s =
      applyCondition i (healthCondition (read8 o.payload 1)) false (adoptsCount i o .live s) := by
  simp only [healthTelegramFor, hr, adoptsCount]

theorem healthTelegramFor_inOrder (hr : s.heads[i].state = .live)
    (hl : s.heads[i].lastCount = some (o.payload.getD 0 0)) :
    healthTelegramFor i o s =
      applyCondition i (healthCondition (read8 o.payload 1)) false (adoptsCount i o .live s) := by
  simp only [healthTelegramFor, hr, bne_eq_false_iff_eq.2 hl, adoptsCount]

theorem healthTelegramFor_skip (hr : s.heads[i].state = .live)
    (hl : s.heads[i].lastCount ≠ some (o.payload.getD 0 0)) :
    healthTelegramFor i o s =
      applyCondition i (healthCondition (read8 o.payload 1)) true (adoptsCount i o .live s) := by
  simp only [healthTelegramFor, hr, bne_iff_ne.2 hl, adoptsCount]

theorem healthTelegramFor_lost (hr : s.heads[i].state = .lost) (hf : s.heads[i].wasFaulty = false) :
    healthTelegramFor i o s =
      applyCondition i (healthCondition (read8 o.payload 1)) false (endLost i (adoptsCount i o .live s)) := by
  simp only [healthTelegramFor, hr, hf, Bool.false_eq_true, if_false, adoptsCount]

theorem healthTelegramFor_faultyNormal (hr : s.heads[i].state = .faulty)
    (hc : healthCondition (read8 o.payload 1) = .normal) :
    healthTelegramFor i o s = conditionEnd .headFault (some i.val) (adoptsCount i o .live s) := by
  simp only [healthTelegramFor, hr, if_pos hc, adoptsCount]

theorem healthTelegramFor_faultyStays (hr : s.heads[i].state = .faulty)
    (hc : healthCondition (read8 o.payload 1) ≠ .normal) :
    healthTelegramFor i o s = adoptsCount i o .faulty s := by
  simp only [healthTelegramFor, hr, if_neg hc, adoptsCount]

theorem healthTelegramFor_lostFaultyNormal (hr : s.heads[i].state = .lost) (hf : s.heads[i].wasFaulty = true)
    (hc : healthCondition (read8 o.payload 1) = .normal) :
    healthTelegramFor i o s =
      conditionEnd .headFault (some i.val) (endLost i (adoptsCount i o .live s)) := by
  simp only [healthTelegramFor, hr, if_pos hf, if_pos hc, adoptsCount]

theorem healthTelegramFor_lostFaultyStays (hr : s.heads[i].state = .lost) (hf : s.heads[i].wasFaulty = true)
    (hc : healthCondition (read8 o.payload 1) ≠ .normal) :
    healthTelegramFor i o s = endLost i (adoptsCount i o .faulty s) := by
  simp only [healthTelegramFor, hr, if_pos hf, if_neg hc, adoptsCount]

end

/-! ## The condition of a health telegram (R5, R8) -/

theorem healthCondition_normal_iff (b : Byte) : healthCondition b.toNat = .normal ↔ b = 0 := by
  have h0 := byte_eq_ofNat_iff b 0 (by decide)
  unfold healthCondition
  grind

theorem healthCondition_fault_iff (b : Byte) : healthCondition b.toNat = .sensorFault ↔ b = 2 := by
  have h2 := byte_eq_ofNat_iff b 2 (by decide)
  unfold healthCondition
  grind

theorem healthCondition_disturbed {b : Byte} (h0 : b ≠ 0) (h2 : b ≠ 2) :
    healthCondition b.toNat = .sensorDisturbed := by
  cases h : healthCondition b.toNat with
  | normal => exact absurd ((healthCondition_normal_iff b).1 h) h0
  | sensorDisturbed => rfl
  | sensorFault => exact absurd ((healthCondition_fault_iff b).1 h) h2

/-- The head becomes FAULTY, and HEAD_FAULT active (R8). -/
def failsHead (i : Fin 16) (s : State) : State :=
  conditionPresent .headFault (some i.val) (s.setHead i { s.heads[i] with state := .faulty })

section
variable (i : Fin 16) (s : State)

theorem applyCondition_normal : applyCondition i .normal false s = s := by
  simp only [applyCondition, Bool.false_eq_true, if_false, bne_self_eq_false, Bool.or_self]

theorem applyCondition_disturbed : applyCondition i .sensorDisturbed false s = disturbSections i s := by
  simp only [applyCondition, Bool.false_eq_true, if_false, Bool.false_or, bne_iff_ne, ne_eq, reduceCtorEq,
    not_false_eq_true, if_true]

theorem applyCondition_fault :
    applyCondition i .sensorFault false s = failsHead i (disturbSections i s) := by
  simp only [applyCondition, failsHead, Bool.false_eq_true, if_false, Bool.false_or, bne_iff_ne, ne_eq,
    reduceCtorEq, not_false_eq_true, if_true]

theorem applyCondition_skipped {c : HealthCondition} (hc : c ≠ .sensorFault) :
    applyCondition i c true s = disturbSections i (countSkip i s) := by
  cases c with
  | normal | sensorDisturbed => simp only [applyCondition, if_true, Bool.true_or]
  | sensorFault => exact absurd rfl hc

theorem applyCondition_skippedFault :
    applyCondition i .sensorFault true s = failsHead i (disturbSections i (countSkip i s)) := by
  simp only [applyCondition, failsHead, if_true, Bool.true_or]

/-- A disturb request moves no head record. -/
theorem disturbSections_heads : (disturbSections i s).heads = s.heads :=
  (disturbSections_frame i s).heads (by decide)

theorem countSkip_heads : (countSkip i s).heads = s.heads := (countSkip_frame i s).heads (by decide)

theorem endLost_heads : (endLost i s).heads = s.heads := (endLost_frame i s).heads (by decide)

end

/-- What SENSOR_FAULT makes of a head that has just adopted a count, written with the record it then has. -/
theorem failsHead_eq {i : Fin 16} {o : Observed} {s u : State}
    (hu : u.heads = (adoptsCount i o .live s).heads) :
    failsHead i u = conditionPresent .headFault (some i.val) { u with heads := u.heads.set i {
      state := .faulty, lastCount := some (o.payload.getD 0 0), lastSeen := o.arrival, wasFaulty := false } } := by
  have hrec : u.heads[i] = s.heads[i].adopt (o.payload.getD 0 0) o.arrival .live := by
    simp only [hu, adoptsCount, State.setHead_self]
  simp only [failsHead, hrec, HeadRecord.adopt, State.setHead]

/-! ## The steps, for the front telegram -/

section
variable {s : State} {dt : Time} {o : Observed} {rest : List Observed} {i : Fin 16} (hrun : Running s)
  (hp : s.lnu.passed = o :: rest)
include hrun hp

theorem exec_wheelTelegram_acted (hk : o.kind = .wheel) (ha : actedOn o s = some i) :
    exec (.wheelTelegram dt) s = .next (finish (s.advance dt)
      (wheelTelegramFor i o { s.advance dt with lnu := { s.lnu with passed := rest } })) := by
  rw [exec_wheelTelegram hrun]
  exact congrArg _ (congrArg _ (takePassed_acted (s := s.advance dt) hp hk ha _))

theorem exec_healthTelegram_acted (hk : o.kind = .health) (ha : actedOn o s = some i) :
    exec (.healthTelegram dt) s = .next (finish (s.advance dt)
      (healthTelegramFor i o { s.advance dt with lnu := { s.lnu with passed := rest } })) := by
  rw [exec_healthTelegram hrun]
  exact congrArg _ (congrArg _ (takePassed_acted (s := s.advance dt) hp hk ha _))

end

theorem healthCondition_ne {b : Byte} {n : Byte} {c : HealthCondition} (hiff : healthCondition b.toNat = c ↔ b = n)
    (h : b ≠ n) : healthCondition b.toNat ≠ c := fun hc => h (hiff.1 hc)

/-- Settles O29: the rows of 1.4, one lemma for each row. -/
theorem headsFollowTelegrams : Obligations.HeadsFollowTelegrams := by
  refine ⟨?wheel, ?notActed, ?health⟩
  case wheel =>
    intro s dt ⟨kind, source, payload, arrival⟩ rest i count order hi lo hrun hp hk hpay ha t r interval bad sets
      live w skip ends
    subst hpay
    have hends {u : State} (h : wheelTelegramFor i _ t = u) : ends u :=
      h ▸ exec_wheelTelegram_acted hrun hp hk ha
    have hgood (h : ¬ bad) := wheelEventOf_good (t.dptEntry i) i count order hi lo arrival h
    have hbad (h : bad) := wheelEventOf_bad (t.dptEntry i) i count order hi lo arrival h
    exact
      ⟨fun hr hb => hends (wheelTelegramFor_unseen hr (hgood hb)),
       fun last hr hl hb =>
        ⟨fun hc => hends (wheelTelegramFor_next hr hl hc (hgood hb)),
         fun hc => hends (wheelTelegramFor_repeated hr hl hc (hgood hb)),
         fun hn hc => hends (wheelTelegramFor_skipped hr hl hn hc (hgood hb))⟩,
       fun hr => hends (wheelTelegramFor_faulty hr),
       fun hr hf hb => hends (wheelTelegramFor_lost hr hf (hgood hb)),
       fun hr hf => hends (wheelTelegramFor_lostFaulty hr hf),
       fun hr hb => hends (wheelTelegramFor_bad hr (hbad hb)),
       fun hr hf hb => hends (wheelTelegramFor_lostBad hr hf (hbad hb))⟩
  case notActed =>
    intro s dt o rest hrun hp t acted
    have hother {k : ObservedKind} (hk : o.kind = k) {k' : ObservedKind} (hne : k ≠ k') := hk.trans_ne hne
    refine ⟨fun hk hn => ?_, fun hk hn => ?_, fun hk => ?_, fun hk => ?_⟩
    · have hn' : actedOn o s = none := actedOn_isNone (by rw [hk]; exact hn)
      rw [exec_wheelTelegram hrun, takePassed_notActed (s := s.advance dt) hp hk hn']
      rfl
    · have hn' : actedOn o s = none := actedOn_isNone (by rw [hk]; exact hn)
      rw [exec_healthTelegram hrun, takePassed_notActed (s := s.advance dt) hp hk hn']
      rfl
    · rw [exec_wheelTelegram hrun, takePassed_otherKind (s := s.advance dt) hp (hother hk (by decide))]
    · rw [exec_healthTelegram hrun, takePassed_otherKind (s := s.advance dt) hp (hother hk (by decide))]
  case health =>
    intro s dt ⟨kind, source, payload, arrival⟩ rest i count condition hrun hp hk hpay ha t r becomes found mended
      skipped failed ends inOrder skip
    subst hpay
    have hends {u : State} (h : healthTelegramFor i _ t = u) : ends u :=
      h ▸ exec_healthTelegram_acted hrun hp hk ha
    have hnormal (h : condition = 0) := (healthCondition_normal_iff condition).2 h
    have hfault (h : condition = 2) := (healthCondition_fault_iff condition).2 h
    have hstays (h : condition ≠ 0) := healthCondition_ne (healthCondition_normal_iff condition) h
    have hfailed {u : State} (hu : u.heads = (becomes .live).heads) : failsHead i u = failed u :=
      failsHead_eq (o := ⟨kind, source, [count, condition], arrival⟩) (s := t) hu
    have hinOrder (h : inOrder) : healthTelegramFor i ⟨kind, source, [count, condition], arrival⟩ t =
        applyCondition i (healthCondition condition.toNat) false (becomes .live) := by
      rcases h with hr | ⟨hr, hl⟩
      · exact healthTelegramFor_unseen hr
      · exact healthTelegramFor_inOrder hr hl
    have hskip (h : skip) : healthTelegramFor i ⟨kind, source, [count, condition], arrival⟩ t =
        applyCondition i (healthCondition condition.toNat) true (becomes .live) :=
      healthTelegramFor_skip h.1 h.2
    have hlost (hr : r.state = .lost) (hf : r.wasFaulty = false) :
        healthTelegramFor i ⟨kind, source, [count, condition], arrival⟩ t =
          applyCondition i (healthCondition condition.toNat) false (found (becomes .live)) :=
      healthTelegramFor_lost hr hf
    have hheads := disturbSections_heads i
    refine ⟨fun ho hc => hends ?_, fun ho hc => hends ?_, fun ho hc hc' => hends ?_, fun hs hc => hends ?_,
      fun hs hc => hends ?_, fun hr hc => hends (healthTelegramFor_faultyNormal hr (hnormal hc)),
      fun hr hc => hends (healthTelegramFor_faultyStays hr (hstays hc)), fun hr hf hc => hends ?_,
      fun hr hf hc => hends ?_, fun hr hf hc hc' => hends ?_,
      fun hr hf hc => hends (healthTelegramFor_lostFaultyNormal hr hf (hnormal hc)),
      fun hr hf hc => hends (healthTelegramFor_lostFaultyStays hr hf (hstays hc))⟩
    · rw [hinOrder ho, hnormal hc, applyCondition_normal]
    · rw [hinOrder ho, hfault hc, applyCondition_fault, hfailed (hheads _)]
    · rw [hinOrder ho, healthCondition_disturbed hc hc', applyCondition_disturbed]
    · rw [hskip hs, applyCondition_skipped _ _ (healthCondition_ne (healthCondition_fault_iff _) hc)]
      rfl
    · rw [hskip hs, hfault hc, applyCondition_skippedFault]
      exact hfailed ((hheads _).trans (countSkip_heads i _))
    · rw [hlost hr hf, hnormal hc, applyCondition_normal]
    · rw [hlost hr hf, hfault hc, applyCondition_fault]
      exact hfailed ((hheads _).trans (endLost_heads i _))
    · rw [hlost hr hf, healthCondition_disturbed hc hc', applyCondition_disturbed]

end Sys2Proof.Machine
end

section
/-! SUPPORT. The expiries of the train side and of the crossing: what each does as its timer has come to its end. -/

namespace Sys2Proof.Machine

set_option Elab.async false

/-! ## The train side (R11, R48, R49) -/

theorem headSilent_expired {i : Fin 16} {s : State} (hv : s.tm.valid = true)
    (hs : s.tm.tables.dpt[i].inService = true) (hl : s.heads[i].state ≠ .lost)
    (he : reached s.now (after s.heads[i].lastSeen s.tm.tables.params.headTimeout) = true) :
    headSilent i s = conditionPresent .headLost (some i.val) (disturbSections i
      (s.setHead i { s.heads[i] with state := .lost, wasFaulty := s.heads[i].state == .faulty })) := by
  have hc : (s.tm.valid && (s.dptEntry i).inService && s.heads[i].state != .lost &&
      reached s.now (after s.heads[i].lastSeen s.params.headTimeout)) = true := by
    simp only [State.dptEntry, State.params, hv, hs, bne_iff_ne.2 hl, he, Bool.and_true]
  simp only [headSilent, hc, if_true]

/-- An approach not yet STRUCK strikes; only UNTIMEABLE enters an event (R49). -/
theorem strike_eq {i : Fin 4} {cause : StrikeCause} {s : State} (hs : s.approaches[i].state ≠ .struck)
    (hc : cause ≠ .untimeable) :
    strike i cause s = s.setApproach i (s.approaches[i].strike cause s.now
      (!sectionFree s (s.approachEntry i).islandSection)) := by
  simp only [strike, if_neg hs, if_neg hc]

theorem due_some (t e : Time) : due t (some e) = reached t e := rfl

theorem deadlineEnds_reached {i : Fin 4} {s : State} {d : Time} (ha : s.approaches[i].state = .armed)
    (hd : s.approaches[i].deadline = some d) (hr : reached s.now d = true) :
    deadlineEnds i s = s.setApproach i (s.approaches[i].strike .timed s.now
      (!sectionFree s (s.approachEntry i).islandSection)) := by
  have hc : (decide (s.approaches[i].state = .armed) && due s.now s.approaches[i].deadline) = true := by
    simp only [ha, hd, due_some, hr, decide_true, Bool.and_true]
  rw [deadlineEnds, if_pos hc, strike_eq (by rw [ha]; decide) (by decide)]

/-! ## The crossing (R65, R73, R74, R77, R79) -/

section
variable {s : State} {e : Time} (hr : reached s.now e = true)
include hr

theorem waitEnds_reached (hw : s.crossing.stepWait = .time) (he : s.crossing.waitEnd = some e) :
    waitEnds s = moveOn s := by
  simp only [waitEnds, hw, he, due_some, hr, decide_true, Bool.and_true, if_true]

theorem permitLapses_reached (hc : s.crossing.state = .closed) (he : s.crossing.permitLapse = some e) :
    permitLapses s = s.setCrossing { s.crossing with openDelayEnd := none, permitLapse := none } := by
  simp only [permitLapses, hc, he, due_some, hr, decide_true, Bool.and_true, if_true]

theorem openDelayEnds_reached (hc : s.crossing.state = .closed) (he : s.crossing.openDelayEnd = some e) :
    openDelayEnds s = enterOpening s := by
  simp only [openDelayEnds, hc, he, due_some, hr, decide_true, Bool.and_true, if_true]

theorem exitDelayEnds_reached (hc : s.crossing.state = .failed) (he : s.crossing.exitDelayEnd = some e) :
    exitDelayEnds s = orderExits s := by
  simp only [exitDelayEnds, hc, he, due_some, hr, decide_true, Bool.and_true, if_true]

theorem longClosureEnds_reached {since : Time} (hs : s.crossing.closedSince = some since)
    (hl : s.crossing.longReported = false) (he : e = after since s.tm.tables.params.longClosure) :
    longClosureEnds s =
      conditionPresent .longClosure none (s.setCrossing { s.crossing with longReported := true }) := by
  subst he
  have hr' : reached s.now (after since s.params.longClosure) = true := hr
  simp only [longClosureEnds, hs, hl, hr', Bool.not_false, Bool.and_true, if_true]

end

theorem moveOn_closing {s : State} {n : Nat} (hn : s.crossing.step = some n)
    (hp : s.crossing.program = .closing) :
    moveOn s = runClosing (n + 1) (s.setCrossing { s.crossing with stepWait := .none, waitEnd := none }) := by
  simp only [moveOn, hn, hp, State.setCrossing_crossing]

theorem moveOn_opening {s : State} {n : Nat} (hn : s.crossing.step = some n)
    (hp : s.crossing.program = .opening) :
    moveOn s = runOpening (n + 1) (s.setCrossing { s.crossing with stepWait := .none, waitEnd := none }) := by
  simp only [moveOn, hn, hp, State.setCrossing_crossing]

/-- The end of a condition and a new crossing record, in either order. -/
theorem conditionEnd_setCrossing (c : FaultCode) (i : Option Nat) (x : CrossingRecord) (s : State) :
    conditionEnd c i (s.setCrossing x) = (conditionEnd c i s).setCrossing x := by
  rw [conditionEnd_eq, conditionEnd_eq]
  rfl

/-- Settles O22: each expiry by the lemma of its timer. -/
theorem trainAndCrossingTimersExpire : Obligations.TrainAndCrossingTimersExpire := by
  refine ⟨fun s dt hrun => ⟨fun i hv hs hl he => ?_, fun i d ha hd he => ?_⟩, fun s dt e hrun he => ?_⟩
  · exact next_event hrun dt (headSilent_expired (s := s.advance dt) hv hs hl he)
  · exact next_event hrun dt (deadlineEnds_reached (s := s.advance dt) ha hd he)
  intro t ends
  refine ⟨fun n hw hwe hn => ⟨fun hp => ?_, fun hp => ?_⟩, fun hc hl => ?_, fun hc hd => ?_, fun hc hd => ?_,
    fun since hs hl hsince => ?_⟩
  · exact next_event hrun dt ((waitEnds_reached (s := t) he hw hwe).trans (moveOn_closing (s := t) hn hp))
  · exact next_event hrun dt ((waitEnds_reached (s := t) he hw hwe).trans (moveOn_opening (s := t) hn hp))
  · exact next_event hrun dt (permitLapses_reached (s := t) he hc hl)
  · refine next_event hrun dt ((openDelayEnds_reached (s := t) he hc hd).trans ?_)
    rw [enterOpening, conditionEnd_setCrossing]
    rfl
  · exact next_event hrun dt (exitDelayEnds_reached (s := t) he hc hd)
  · exact next_event hrun dt (longClosureEnds_reached (s := t) he hs hl hsince)

end Sys2Proof.Machine
end

section
/-! SUPPORT. The part at the beginning of a cold start: its values (R187), and the invariants that hold of it. -/

namespace Sys2Proof.Machine

set_option Elab.async false

/-! ## The records that reset puts in each table of records -/

section
variable (i : Nat)

@[simp] theorem reset_heads (h : i < 16) : State.reset.heads[i] = .cold := Vector.getElem_replicate h
@[simp] theorem reset_sections (h : i < 8) : State.reset.sections[i] = .cold := Vector.getElem_replicate h
@[simp] theorem reset_approaches (h : i < 4) : State.reset.approaches[i] = .cold := Vector.getElem_replicate h
@[simp] theorem reset_barriers (h : i < 4) : State.reset.barriers[i] = .cold := Vector.getElem_replicate h
@[simp] theorem reset_lamps (h : i < 12) : State.reset.lamp.lamps[i] = .cold := Vector.getElem_replicate h
@[simp] theorem reset_audible (h : i < 2) : State.reset.lamp.audible[i] = { soundSince := 0, unproved := 0 } :=
  Vector.getElem_replicate h
@[simp] theorem reset_results (h : i < 24) : State.reset.scan.results[i] = none := Vector.getElem_replicate h
@[simp] theorem reset_node (h : i < 4) :
    State.reset.tm.tables.node[i] = { inService := false, address := 1, role := .signaller } :=
  Vector.getElem_replicate h
@[simp] theorem reset_closing (h : i < 12) :
    State.reset.tm.tables.closing[i] = { kind := .finish, count := 0 } := Vector.getElem_replicate h
@[simp] theorem reset_opening (h : i < 12) :
    State.reset.tm.tables.opening[i] = { kind := .finish, count := 0 } := Vector.getElem_replicate h
@[simp] theorem reset_reportMask (h : i < 26) : State.reset.tm.tables.reportMask[i] = false :=
  Vector.getElem_replicate h

end

/-- Settles O2: block by block. -/
theorem coldStartValues : Obligations.ColdStartValues := by
  refine ⟨rfl, rfl, fun i => reset_heads i i.isLt, fun i => reset_sections i i.isLt, fun i => ?_,
    by decide, fun i => ?_, ⟨rfl, rfl, rfl, rfl, rfl, rfl, fun i => reset_audible i i.isLt⟩, fun i => ?_, rfl,
    ⟨rfl, rfl, rfl, rfl, rfl, rfl, fun i => reset_results i i.isLt⟩, ⟨rfl, rfl⟩, by decide,
    fun p => by cases p <;> rfl, ⟨rfl, rfl, rfl, rfl⟩,
    ⟨rfl, rfl, rfl, fun i => reset_node i i.isLt, rfl, rfl, rfl, rfl, fun i => ?_, fun i => reset_reportMask i i.isLt⟩,
    rfl⟩
  · simp [ApproachRecord.cold, GroupContext.cold]
  · simp [LampRecord.cold]
  · simp [BarrierRecord.cold]
  · simp

/-! ## The invariants -/

/-- A state that agrees with reset in every block of the part: it may differ in what lies outside, the lines and the
commands waiting. -/
structure Cold (u : State) : Prop where
  loading : u.loading = true
  tm : u.tm = .cold
  lnu : u.lnu = .cold
  sections : u.sections = Vector.replicate 8 .cold
  approaches : u.approaches = Vector.replicate 4 .cold
  crossing : u.crossing = .cold
  lamp : u.lamp = .cold
  barriers : u.barriers = Vector.replicate 4 .cold
  cal : u.cal = .cold
  scan : u.scan = .cold
  faults : u.faults = { records := [], dropped := false }
  report : u.report = .cold

theorem reset_isCold : Cold State.reset :=
  ⟨rfl, rfl, rfl, rfl, rfl, rfl, rfl, rfl, rfl, rfl, rfl, rfl⟩

theorem coldStart_isCold (written : Nat) (s : State) : Cold (coldStart written s) :=
  ⟨rfl, rfl, rfl, rfl, rfl, rfl, rfl, rfl, rfl, rfl, rfl, rfl⟩

section
variable {u : State} (h : Cold u)
include h

theorem Cold.barrier (i : Fin 4) : u.barriers[i] = .cold := by simp [h.barriers]

theorem Cold.approach (i : Fin 4) : u.approaches[i] = .cold := by simp [h.approaches]

theorem Cold.inUse : InUse u := by
  have htm : u.tm.valid = false ∧ u.tm.saveRun = .idle := by rw [h.tm]; exact ⟨rfl, rfl⟩
  have hx : u.crossing.state = .outOfUse ∧ u.crossing.program = .none := by rw [h.crossing]; exact ⟨rfl, rfl⟩
  have hcal : u.cal.run = .idle ∧ u.cal.current = none := by rw [h.cal]; exact ⟨rfl, rfl⟩
  have htest : u.lamp.test.run = .idle ∧ u.lamp.test.lamp = none := by rw [h.lamp]; exact ⟨rfl, rfl⟩
  have hproc : u.lnu.processor = none := by rw [h.lnu]; rfl
  constructor <;> simp [htm, hx, hcal, htest, hproc, NothingRuns, programOf]

theorem Cold.closureSafe : ClosureSafe u := fun _ => .inr (.inr (.inr (by rw [h.crossing]; rfl)))

theorem Cold.gated : Gated u := by
  intro i
  constructor <;> simp [h.barrier i, BarrierRecord.cold, BarrierPhase.driven]

theorem Cold.struck : Struck u := by
  intro i
  constructor <;> simp [h.approach i, h.crossing, CrossingRecord.cold, ApproachRecord.cold]

theorem Cold.bounded : Bounded u := by
  have hport : PortBounds .cold := by constructor <;> simp [OutPort.cold]
  have hlnu : u.lnu.portA = .cold ∧ u.lnu.portB = .cold := by rw [h.lnu]; exact ⟨rfl, rfl⟩
  constructor
  case portA => exact hlnu.1 ▸ hport
  case portB => exact hlnu.2 ▸ hport
  case queue => constructor <;> simp [h.lnu, LoopNode.cold]
  case faults => constructor <;> simp [h.faults]
  case bank0 => constructor <;> simp [h.report, ReportUnit.cold]
  case bank1 => constructor <;> simp [h.report, ReportUnit.cold]
  case filling => simp [h.report, ReportUnit.cold]

/-- No ALARM condition is present, and loading is under way. -/
theorem Cold.alarmsRecorded : AlarmsRecorded u := by
  constructor
  case critical => simp [h.scan, Scanner.cold]
  case stalled => intro i; simp [h.barrier i, BarrierRecord.cold]
  case timeout => intro i; simp [h.barrier i, BarrierRecord.cold, BarrierPhase.supervised]
  case disagree => intro i; simp [h.barrier i, BarrierRecord.cold]
  case dark => intro side; simp [h.lamp, LampController.cold]
  case invalid => simp [h.loading]

end

/-- Settles O55: both states agree with reset in every block. -/
theorem coldStartHasTheInvariants : Obligations.ColdStartHasTheInvariants := by
  intro s u written hu
  have h : Cold u := by
    rcases hu with rfl | hu
    · exact reset_isCold
    · obtain rfl := Host.Outcome.next.inj hu
      exact coldStart_isCold written _
  exact ⟨h.inUse, h.closureSafe, h.gated, h.struck, h.bounded, h.alarmsRecorded⟩

end Sys2Proof.Machine
end

section
/-! SUPPORT. The frame of every event: its own work, by the frame of that work, and then the end of the event. -/

namespace Sys2Proof.Machine

set_option Elab.async false

theorem advance_frame (dt : Time) (s : State) : Frame [.now] s (s.advance dt) :=
  ⟨fun p hp => by
    cases p with
    | now => exact absurd (by decide) hp
    | _ => simp [Part.same]⟩

/-- An event moves what its work moves, and what the end of any event may move. -/
theorem event_frame {ps : List Part} {dt : Time} {work : State → State} {s : State}
    (h : Frame (ps ++ eventEnd) (s.advance dt) (work (s.advance dt))) :
    Frame (ps ++ eventEnd) s (event dt work s) := by
  have hend {qs : List Part} (hqs : qs ⊆ eventEnd) : qs ⊆ ps ++ eventEnd := List.Subset.trans hqs (List.subset_append_right ..)
  unfold event
  split
  · exact ((advance_frame dt s).mono (hend (by decide))).trans (h.trans ((finish_frame ..).mono (hend (by decide))))
  · exact .refl _ _

/-- The same, for what a command leaves. -/
theorem next_event_frame {ps : List Part} {dt : Time} {work : State → State} {s u : State}
    (hu : (.next (event dt work s) : Host.Outcome State Fault Refusal) = .next u)
    (h : Frame (ps ++ eventEnd) (s.advance dt) (work (s.advance dt))) : Frame (ps ++ eventEnd) s u :=
  Host.Outcome.next.inj hu ▸ event_frame h

/-! ## The loop -/

theorem takePassed_frame {ps : List Part} {kind : ObservedKind} {act : Fin 16 → Observed → State → State}
    (hact : ∀ i o s, Frame ps s (act i o s)) (hps : Part.passed ∈ ps) (s : State) :
    Frame ps s (takePassed kind act s) := by
  have htaken (rest : List Observed) : Frame ps s { s with lnu := { s.lnu with passed := rest } } :=
    (Frame.refl ps s).withLnu (.inr ⟨rfl, rfl⟩) (.inr ⟨rfl, rfl, rfl⟩) (.inr ⟨rfl, rfl⟩) (.inl hps)
  unfold takePassed
  split
  · dsimp only
    split
    · split
      · exact (htaken _).trans (hact ..)
      · exact htaken _
    · exact .refl _ _
  · exact .refl _ _

/-- A transmission that is not the reply to a RESTART leaves its port, and no more. -/
theorem transmissionEnds_frame {port : Port} {s : State}
    (hcold : ∀ frame, (s.lnu.port port).sending ≠ some (.inserted (.reply frame true))) (written : Nat) :
    Frame [.ports, .newFault, .overflow] s (transmissionEnds port written s) := by
  unfold transmissionEnds
  split
  next => exact .refl _ _
  next frame hsending => exact absurd hsending (hcold frame)
  next => exact ((Frame.refl _ _).withLnu).trans (startPort_frame ..)

/-! ## The command processor -/

/-- A command moves what its own work moves, the ports by its reply, and the queue. -/
theorem complete_frame {ps : List Part} {c : Command} {own : QueuedCommand → State → Answered}
    (hown : ∀ q s, Frame (ps ++ eventEnd) s (own q s).state) (hq : Part.queue ∈ ps) (s : State) :
    Frame (ps ++ eventEnd) s (complete c own s) := by
  have hanswered (q : QueuedCommand) (code : ReplyCode) (data : List Byte) (t : State) :
      Frame (ps ++ eventEnd) t (freeProcessor (placeAnswer q code data t)) :=
    ((placeAnswer_frame q code data t).mono
      (List.Subset.trans (l₂ := eventEnd) (by decide) (List.subset_append_right ..))).trans
      ((freeProcessor_frame _).mono (by simpa using .inl hq))
  unfold complete
  split
  · split
    · split
      · exact hanswered ..
      · exact (hown ..).trans (hanswered ..)
    · exact .refl _ _
  · exact .refl _ _

/-- A RESTART whose reply finds room starts nothing cold: the reply is placed, and the processor waits for it. -/
theorem completeRestart_frame {s : State} (hcold : ∀ q, s.lnu.processor = some q → replyFits q.port s = true)
    (written : Nat) : Frame [.queue, .ports, .newFault, .overflow] s (completeRestart written s) := by
  have hanswered (q : QueuedCommand) (code : ReplyCode) :
      Frame [.queue, .ports, .newFault, .overflow] s (freeProcessor (placeAnswer q code [] s)) :=
    ((placeAnswer_frame q code [] s).mono (by decide)).step (freeProcessor_frame _)
  unfold completeRestart
  split
  next q hq =>
    have hproc : s.lnu.processor = some q := by
      unfold completing at hq
      split at hq
      · cases hq
      · exact hq
    split
    · split
      · exact hanswered ..
      · split
        · rw [beginRestart, if_pos (hcold q hproc)]
          exact ((Frame.refl _ _).withLnu).step (placeReply_frame ..)
        · exact hanswered ..
    · exact .refl _ _
  next => exact .refl _ _

/-! ## The setting up of the blocks out of use: no approach acts (R37) -/

/-- A report given out of use moves no approach and no passage bank. -/
theorem approachReports_outOfUse {s : State} (h : s.crossing.state = .outOfUse) (rep : SectionReport) :
    approachReports rep s = s := by
  refine forEach_keeps (P := (· = s)) (fun i t ht => ?_) rfl
  subst ht
  simp [approachActs, h]

theorem handReport_outOfUse_frame {s : State} (h : s.crossing.state = .outOfUse) (cause : ReportCause)
    (before : State) :
    Frame [.crossing, .lamp, .redProved, .handedOn, .barriers, .handed, .faults, .newFault] s
      (handReport cause before s) := by
  simp only [handReport, approachReports_outOfUse h]
  split
  · exact .refl _ _
  · exact (crossingTurn_frame before s).mono (by decide)

theorem setUpSections_outOfUse_frame {s : State} (h : s.crossing.state = .outOfUse) :
    Frame [.sections, .crossing, .lamp, .redProved, .handedOn, .barriers, .handed, .faults, .newFault] s
      (setUpSections s) := by
  have hhand {t : State} (ht : Frame [.sections, .faults, .newFault] s t) :
      Frame [.sections, .crossing, .lamp, .redProved, .handedOn, .barriers, .handed, .faults, .newFault] s
        (handReport .setup s t) :=
    (ht.mono (by decide)).step
      (handReport_outOfUse_frame ((congrArg CrossingRecord.state (ht.crossing (by decide))).trans h) ..)
  unfold setUpSections
  dsimp only
  refine hhand (forEach_next (fun i t => ?_) (Frame.refl _ s).withSections)
  split
  · exact (conditionPresent_quiet_frame (by decide) ..).mono (by decide)
  · exact (conditionEnd_frame ..).mono (by decide)

theorem validationPassed_outOfUse_frame {s : State} (h : s.crossing.state = .outOfUse) (d : Derived) :
    Frame [.flag, .ports, .overflow, .status, .heads, .sections, .crossing, .lamp, .redProved, .handedOn, .barriers,
      .handed, .link, .faults, .newFault] s (validationPassed d s) := by
  have hpassed : Frame [.flag, .faults] s (conditionEnd .tableInvalid none (adoptFigures d s)) :=
    ((adoptFigures_frame d s).mono (by decide)).step (conditionEnd_frame ..)
  have htold := ((hpassed.mono (qs := [.flag, .faults, .ports, .newFault, .overflow, .status, .heads])
    (by decide)).step (produceStatus_frame _)).step (unseenHeads_frame _)
  unfold validationPassed setUpOnValid
  dsimp only
  split
  · exact hpassed.mono (by decide)
  · exact ((htold.mono (by decide)).step (setUpSections_outOfUse_frame
      ((congrArg CrossingRecord.state (htold.crossing (by decide))).trans h))).step (beginSupervision_frame _)

/-! ## The work of each command -/

section
variable (q : QueuedCommand) (s : State)

theorem ownPoll_frame : Frame [.handed] s (ownPoll q s).state := by
  unfold ownPoll
  split
  · exact (Frame.refl _ _).withHanded
  · exact .refl _ _

theorem ownFaultRead_frame : Frame [] s (ownFaultRead q s).state := by
  unfold ownFaultRead
  split_ifs <;> exact .refl _ _

theorem ownPassageRead_frame : Frame [] s (ownPassageRead q s).state := by
  unfold ownPassageRead
  split
  · exact .refl _ _
  · split_ifs <;> exact .refl _ _

theorem ownMeasureRead_frame : Frame [] s (ownMeasureRead q s).state := by
  unfold ownMeasureRead
  split_ifs <;> exact .refl _ _

theorem ownTableRead_frame : Frame [] s (ownTableRead q s).state := by
  unfold ownTableRead
  split
  · exact .refl _ _
  · split_ifs <;> exact .refl _ _

theorem ownFaultAccept_frame : Frame [.faults] s (ownFaultAccept q s).state :=
  (Frame.refl _ _).withFaults

theorem ownCloseRequest_frame : Frame [.crossing, .request] s (ownCloseRequest q s).state := by
  unfold ownCloseRequest
  split
  · exact .refl _ _
  · split_ifs
    · exact .refl _ _
    · exact .refl _ _
    · exact (Frame.refl _ _).setCrossing

theorem ownRestore_frame : Frame [.crossing, .barriers, .faults] s (ownRestore q s).state := by
  unfold ownRestore
  split_ifs
  · exact .refl _ _
  · exact .refl _ _
  · dsimp only [answer]
    exact restored_frame s

theorem ownTakeOutOfUse_frame :
    Frame [.crossing, .request, .barriers, .faults, .approaches] s (ownTakeOutOfUse q s).state := by
  unfold ownTakeOutOfUse
  split
  · dsimp only [answer]
    exact ((sequencerOutOfUse_frame s).mono (by decide)).step (idleApproaches_frame _)
  · exact .refl _ _

theorem ownReturnToUse_frame :
    Frame [.flag, .ports, .overflow, .status, .heads, .sections, .approaches, .crossing, .lamp, .redProved, .handedOn,
      .barriers, .handed, .link, .faults, .newFault] s (ownReturnToUse q s).state := by
  unfold ownReturnToUse
  split
  next => exact .refl _ _
  next hout =>
    split
    · exact .refl _ _
    · split
      · exact .refl _ _
      · dsimp only [answer]
        exact (((validationPassed_outOfUse_frame (by simpa [outOfUse] using hout) _).mono (by decide)).step
          (setUpApproaches_frame _)).step (chooseCrossing_frame _)

theorem ownResetSection_frame :
    Frame [.sections, .approaches, .banks, .crossing, .lamp, .redProved, .handedOn, .barriers, .handed, .faults,
      .newFault] s (ownResetSection q s).state := by
  unfold ownResetSection
  split
  · dsimp only
    split_ifs
    · exact .refl _ _
    · exact .refl _ _
    · exact .refl _ _
    · dsimp only [answer]
      exact resetSectionRecord_frame ..
  · exact .refl _ _

theorem ownDepart_frame : Frame [.approaches, .faults, .newFault] s (ownDepart q s).state := by
  unfold ownDepart
  split
  · dsimp only
    split_ifs
    · exact .refl _ _
    · dsimp only [answer]
      exact strike_frame ..
    · exact .refl _ _
  · exact .refl _ _

theorem ownTableWrite_frame :
    Frame [.tables, .block, .results, .flag, .heads, .lamp, .lampTest, .redProved, .barriers, .battery, .status, .link,
      .faults] s (ownTableWrite q s).state := by
  unfold ownTableWrite
  dsimp only
  split
  · exact .refl _ _
  · split
    · exact .refl _ _
    · split
      · exact .refl _ _
      · split
        · exact .refl _ _
        · split
          · exact .refl _ _
          · dsimp only
            exact writeTable_frame ..

theorem ownSaveTables_frame :
    Frame [.save, .flag, .ports, .overflow, .status, .heads, .sections, .crossing, .lamp, .redProved, .handedOn,
      .barriers, .handed, .link, .faults, .newFault] s (ownSaveTables q s).state := by
  unfold ownSaveTables
  split
  next => exact .refl _ _
  next hout =>
    split
    · exact .refl _ _
    · split
      · exact .refl _ _
      · have hstate : s.crossing.state = .outOfUse := by simpa [outOfUse] using hout
        dsimp only [answer]
        exact ((startSave_frame s).mono (by decide)).step
          (validationPassed_outOfUse_frame (s := startSave s) hstate _)

theorem ownCalibrate_frame : Frame [.cal, .barriers, .faults] s (ownCalibrate q s).state := by
  unfold ownCalibrate
  dsimp only
  split_ifs
  · exact .refl _ _
  · exact .refl _ _
  · exact .refl _ _
  · exact .refl _ _
  · dsimp only [answer]
    exact startCalibration_frame ..

theorem ownCalibrateCancel_frame : Frame [.cal, .barriers] s (ownCalibrateCancel q s).state := by
  unfold ownCalibrateCancel
  split
  · dsimp only [answer]
    exact cancelCalibration_frame s
  · exact .refl _ _

theorem ownLampTest_frame : Frame [.lamp, .lampTest, .faults] s (ownLampTest q s).state := by
  unfold ownLampTest
  split
  · exact .refl _ _
  · split
    · exact .refl _ _
    · split
      · exact .refl _ _
      · dsimp only [answer]
        exact startLampTest_frame s

omit q in
theorem setBank_frame (one : Bool) (b : Bank) : Frame [.banks] s { s with report := s.report.setBank one b } := by
  cases one <;> exact (Frame.refl [.banks] s).withReport

omit q in
theorem makeReady_frame (one : Bool) : Frame [.banks] s { s with report := s.report.makeReady one } :=
  (Frame.refl _ s).withReport (x := s.report.makeReady one) (.inr (by simp)) (.inr (by simp)) (.inr (by simp))
    (.inl (by decide))

theorem ownPassageClose_frame : Frame [.banks] s (ownPassageClose q s).state := by
  unfold ownPassageClose
  split
  · split
    · exact .refl _ _
    · dsimp only [answer]
      exact makeReady_frame s ..
  · exact .refl _ _

theorem ownPassageRelease_frame : Frame [.banks] s (ownPassageRelease q s).state := by
  unfold ownPassageRelease
  split
  · exact .refl _ _
  · split
    · dsimp only [answer, ReportUnit.releaseBank]
      exact setBank_frame s ..
    · exact .refl _ _

end

/-! ## The frame of every event -/

/-- The transmission that completes is not the reply to a RESTART. -/
theorem sending_of_not_beginsCold {dt : Time} {port : Port} {written : Nat} {s : State}
    (h : beginsCold (.transmissionComplete dt port written) s = false) (frame : List Byte) :
    (s.lnu.port port).sending ≠ some (.inserted (.reply frame true)) := by
  intro hs
  simp [beginsCold, hs] at h

/-- The reply of the RESTART in the processor finds room. -/
theorem replyFits_of_not_beginsCold {dt : Time} {written : Nat} {s : State}
    (h : beginsCold (.restart dt written) s = false) (q : QueuedCommand) (hq : s.lnu.processor = some q) :
    replyFits q.port s = true := by
  simpa [beginsCold, hq] using h

/-- Settles O50: for each command the frame of its work. -/
theorem everyEventKeepsTheRest : Obligations.EveryEventKeepsTheRest := by
  intro c s u helapsed hcold hu
  cases c <;> dsimp only [touches]
  case powerUp | resetLineHeld | resetLineRelease | supplyFailure => exact absurd rfl helapsed
  case loadingComplete => exact next_event_frame hu ((completeLoading_frame ..).mono (by decide))
  case telegramReception => exact next_event_frame hu ((receive_frame ..).mono (by decide))
  case wheelTelegram =>
    exact next_event_frame hu
      (takePassed_frame (fun i o t => (wheelTelegramFor_frame i o t).mono (by decide)) (by decide) _)
  case healthTelegram =>
    exact next_event_frame hu
      (takePassed_frame (fun i o t => (healthTelegramFor_frame i o t).mono (by decide)) (by decide) _)
  case transmissionComplete =>
    have hsending := sending_of_not_beginsCold hcold
    exact next_event_frame hu ((transmissionEnds_frame (s := s.advance _) hsending _).mono (by decide))
  case poll => exact next_event_frame hu (complete_frame (fun q t => (ownPoll_frame q t).mono (by decide)) (by decide) _)
  case faultRead =>
    exact next_event_frame hu (complete_frame (fun q t => (ownFaultRead_frame q t).mono (by decide)) (by decide) _)
  case faultAccept =>
    exact next_event_frame hu (complete_frame (fun q t => (ownFaultAccept_frame q t).mono (by decide)) (by decide) _)
  case closeRequest =>
    exact next_event_frame hu (complete_frame (fun q t => (ownCloseRequest_frame q t).mono (by decide)) (by decide) _)
  case restore =>
    exact next_event_frame hu (complete_frame (fun q t => (ownRestore_frame q t).mono (by decide)) (by decide) _)
  case takeOutOfUse =>
    exact next_event_frame hu (complete_frame (fun q t => (ownTakeOutOfUse_frame q t).mono (by decide)) (by decide) _)
  case returnToUse =>
    exact next_event_frame hu (complete_frame (fun q t => (ownReturnToUse_frame q t).mono (by decide)) (by decide) _)
  case resetSection =>
    exact next_event_frame hu (complete_frame (fun q t => (ownResetSection_frame q t).mono (by decide)) (by decide) _)
  case depart =>
    exact next_event_frame hu (complete_frame (fun q t => (ownDepart_frame q t).mono (by decide)) (by decide) _)
  case passageRead =>
    exact next_event_frame hu (complete_frame (fun q t => (ownPassageRead_frame q t).mono (by decide)) (by decide) _)
  case tableWrite =>
    exact next_event_frame hu (complete_frame (fun q t => (ownTableWrite_frame q t).mono (by decide)) (by decide) _)
  case tableRead =>
    exact next_event_frame hu (complete_frame (fun q t => (ownTableRead_frame q t).mono (by decide)) (by decide) _)
  case saveTables =>
    exact next_event_frame hu (complete_frame (fun q t => (ownSaveTables_frame q t).mono (by decide)) (by decide) _)
  case restart =>
    have hfits := replyFits_of_not_beginsCold hcold
    exact next_event_frame hu ((completeRestart_frame (s := s.advance _) hfits _).mono (by decide))
  case calibrate =>
    exact next_event_frame hu (complete_frame (fun q t => (ownCalibrate_frame q t).mono (by decide)) (by decide) _)
  case calibrateCancel =>
    exact next_event_frame hu
      (complete_frame (fun q t => (ownCalibrateCancel_frame q t).mono (by decide)) (by decide) _)
  case lampTest =>
    exact next_event_frame hu (complete_frame (fun q t => (ownLampTest_frame q t).mono (by decide)) (by decide) _)
  case measureRead =>
    exact next_event_frame hu (complete_frame (fun q t => (ownMeasureRead_frame q t).mono (by decide)) (by decide) _)
  case passageClose =>
    exact next_event_frame hu (complete_frame (fun q t => (ownPassageClose_frame q t).mono (by decide)) (by decide) _)
  case passageRelease =>
    exact next_event_frame hu
      (complete_frame (fun q t => (ownPassageRelease_frame q t).mono (by decide)) (by decide) _)
  case unknownCommand => exact next_event_frame hu ((completeUnknown_frame _).mono (by decide))
  case unanswerableCommand => exact next_event_frame hu ((completeUnanswerable_frame _).mono (by decide))
  case headSilenceExpiry => exact next_event_frame hu ((headSilent_frame ..).mono (by decide))
  case deadlineExpiry => exact next_event_frame hu ((deadlineEnds_frame ..).mono (by decide))
  case waitExpiry => exact next_event_frame hu ((waitEnds_frame _).mono (by decide))
  case permitLapse => exact next_event_frame hu ((permitLapses_frame _).mono (by decide))
  case openDelayExpiry => exact next_event_frame hu ((openDelayEnds_frame _).mono (by decide))
  case exitDelayExpiry => exact next_event_frame hu ((exitDelayEnds_frame _).mono (by decide))
  case longClosureExpiry => exact next_event_frame hu ((longClosureEnds_frame _).mono (by decide))
  case halfPeriodExpiry => exact next_event_frame hu ((halfPeriodEnds_frame _).mono (by decide))
  case darkTimerExpiry => exact next_event_frame hu ((darkTimerEnds_frame ..).mono (by decide))
  case lampTestSlotEnd => exact next_event_frame hu ((slotEnds_frame _).mono (by decide))
  case startPhaseExpiry => exact next_event_frame hu ((startPhaseEnds_frame ..).mono (by decide))
  case reversePauseExpiry => exact next_event_frame hu ((pauseEnds_frame ..).mono (by decide))
  case trippedPauseExpiry => exact next_event_frame hu ((pauseEnds_frame ..).mono (by decide))
  case travelExpiry => exact next_event_frame hu ((travelEnds_frame ..).mono (by decide))
  case disagreementTimerExpiry => exact next_event_frame hu ((disagreementEnds_frame ..).mono (by decide))
  case calibrationLimitExpiry => exact next_event_frame hu ((calibrationLimitEnds_frame _).mono (by decide))
  case contactChange =>
    obtain rfl := Host.Outcome.next.inj hu
    split
    · exact event_frame ((contactChanged_frame ..).mono (by decide))
    · exact (setContact_frame ..).mono (by decide)
  case strobe => exact next_event_frame hu ((strobeTaken_frame ..).mono (by decide))
  case quietEndExpiry => exact next_event_frame hu ((quietEnds_frame _).mono (by decide))
  case statusDueExpiry => exact next_event_frame hu ((statusDueEnds_frame _).mono (by decide))
  case linkEndExpiry => exact next_event_frame hu ((linkEnds_frame _).mono (by decide))
  case saveRunComplete => exact next_event_frame hu ((completeSave_frame ..).mono (by decide))

end Sys2Proof.Machine
end

section
/-! SUPPORT. Validation: each check says what its table's entries must fit, in the words of Safety.lean. -/

namespace Sys2Proof.Machine

set_option Elab.async false

/-! ## The first entry that does not fit -/

theorem firstBroken_eq_some {n : Nat} {broken : Fin n → Bool} {i : Fin n} (hi : broken i = true)
    (hlow : ∀ j, j < i → broken j = false) : firstBroken n broken = some i.val := by
  have hfind : (List.finRange n).find? broken = some i := by
    rw [List.find?_eq_some_iff_getElem]
    refine ⟨hi, i.val, by simp, by simp, fun j hj => ?_⟩
    simp [hlow ⟨j, hj.trans i.isLt⟩ hj]
  simp [firstBroken, hfind]

theorem firstBroken_eq_none {n : Nat} {broken : Fin n → Bool} (h : ∀ i, broken i = false) :
    firstBroken n broken = none := by
  simp [firstBroken, List.find?_eq_none, h]

/-- A check reports the first entry of a table that does not fit. -/
def ReportsFirst {n : Nat} (check : Option Failure) (table : Nat) (fits : Fin n → Prop) : Prop :=
  ∀ i : Fin n, (∀ j, j < i → fits j) → ¬ fits i → check = some { table := table, index := i.val }

/-- Of the entries checked one by one, the first broken one is the first that does not fit. -/
theorem firstBroken_of_fits {n : Nat} {broken : Fin n → Bool} {fits : Fin n → Prop}
    (h : ∀ i, broken i = true ↔ ¬ fits i) :
    (∀ i, (∀ j, j < i → fits j) → ¬ fits i → firstBroken n broken = some i.val) ∧
    ((∀ i, fits i) → firstBroken n broken = none) := by
  have hfalse {i : Fin n} (hi : fits i) : broken i = false := by
    simpa using fun hb => (h i).1 hb hi
  exact ⟨fun i hlow hi => firstBroken_eq_some ((h i).2 hi) fun j hj => hfalse (hlow j hj),
    fun hall => firstBroken_eq_none fun i => hfalse (hall i)⟩

theorem failAt_of_fits {n : Nat} {broken : Fin n → Bool} {fits : Fin n → Prop} (t : TableId)
    (h : ∀ i, broken i = true ↔ ¬ fits i) :
    ReportsFirst (failAt t (firstBroken n broken)) t.number fits ∧
    ((∀ i, fits i) → failAt t (firstBroken n broken) = none) := by
  obtain ⟨hsome, hnone⟩ := firstBroken_of_fits h
  refine ⟨fun i hlow hi => ?_, fun hall => ?_⟩
  · rw [hsome i hlow hi]; rfl
  · rw [hnone hall]; rfl

theorem exists_first_misfit {n : Nat} {fits : Fin n → Prop} (h : ¬ ∀ i, fits i) :
    ∃ i, (∀ j, j < i → fits j) ∧ ¬ fits i := by
  obtain ⟨i, hi, hmin⟩ := (wellFounded_lt (α := Fin n)).has_min {i | ¬ fits i} (not_forall.1 h)
  exact ⟨i, fun j hj => by_contra fun hn => hmin j hn hj, hi⟩

/-- A check that reports nothing finds every entry fit. -/
theorem ReportsFirst.fits_of_none {n : Nat} {fits : Fin n → Prop} {check : Option Failure} {table : Nat}
    (h : ReportsFirst check table fits) (hnone : check = none) : ∀ i, fits i := by
  by_contra hall
  obtain ⟨i, hlow, hi⟩ := exists_first_misfit hall
  exact absurd (hnone.symm.trans (h i hlow hi)) (by simp)

/-- Two checks of the same entries agree. -/
theorem ReportsFirst.unique {n : Nat} {fits : Fin n → Prop} {a b : Option Failure} {table : Nat}
    (ha : ReportsFirst a table fits) (ha' : (∀ i, fits i) → a = none)
    (hb : ReportsFirst b table fits) (hb' : (∀ i, fits i) → b = none) : a = b := by
  by_cases hall : ∀ i, fits i
  · rw [ha' hall, hb' hall]
  · obtain ⟨i, hlow, hi⟩ := exists_first_misfit hall
    rw [ha i hlow hi, hb i hlow hi]

/-- A check that goes on to the rest of its table once every entry fits. -/
theorem firstBroken_then {n : Nat} {broken : Fin n → Bool} {fits : Fin n → Prop} (t : TableId) (rest : Option Failure)
    (h : ∀ i, broken i = true ↔ ¬ fits i) :
    ReportsFirst (match firstBroken n broken with
      | some i => failAt t (some i)
      | none => rest) t.number fits ∧
    ((∀ i, fits i) → (match firstBroken n broken with
      | some i => failAt t (some i)
      | none => rest) = rest) := by
  obtain ⟨hsome, hnone⟩ := firstBroken_of_fits h
  refine ⟨fun i hlow hi => ?_, fun hall => ?_⟩
  · rw [hsome i hlow hi]; rfl
  · rw [hnone hall]

/-! ## What the entries refer to -/

theorem any_toList_iff {α : Type} {n : Nat} (v : Vector α n) (p : α → Bool) :
    v.toList.any p = true ↔ ∃ i : Fin n, p v[i] = true := by
  simp only [List.any_eq_true, Vector.mem_toList_iff, Vector.mem_iff_getElem]
  constructor
  · rintro ⟨x, ⟨i, hi, rfl⟩, hp⟩
    exact ⟨⟨i, hi⟩, hp⟩
  · rintro ⟨i, hp⟩
    exact ⟨v[i], ⟨i, i.isLt, rfl⟩, hp⟩

theorem scanServes_iff (ts : Tables) (ref : Nat) : scanServes ts ref = true ↔ NamesScan ts ref := by
  unfold scanServes NamesScan
  by_cases h : ref < 24 <;> simp [h]

theorem barrierUses_iff (ts : Tables) (below ref : Nat) :
    barrierUses ts below ref = true ↔ UsedByBarrier ts below ref := by
  simp [barrierUses, UsedByBarrier, and_assoc]

theorem lampUses_iff (ts : Tables) (below ref : Nat) :
    lampUses ts below ref = true ↔ UsedByLamp ts below ref := by
  simp [lampUses, UsedByLamp, and_assoc]

theorem sectionSuits_iff (ts : Tables) (ref : Nat) (kind : SectionKind) (track : Nat) :
    sectionSuits ts ref kind track = true ↔ NamesSection ts ref kind track := by
  unfold sectionSuits NamesSection
  by_cases h : ref < 8 <;> simp [h, and_assoc]

theorem not_eq_true_iff {b : Bool} {p : Prop} (h : b = true ↔ p) : (!b) = true ↔ ¬ p := by
  simp [← h]

/-- An entry is broken where it is in service and something of it is. -/
theorem served_broken_iff {served broken : Bool} {fits : Prop}
    (h : served = true → (broken = true ↔ ¬ fits)) :
    (served && broken) = true ↔ ¬ (served = true → fits) := by
  cases served <;> simp [h]

/-- An entry is broken where it is in service and does not fit. -/
theorem served_misfit_iff {served fit : Bool} {fits : Prop} (h : fit = true ↔ fits) :
    (served && !fit) = true ↔ ¬ (served = true → fits) :=
  served_broken_iff fun _ => not_eq_true_iff h

/-! ## NODE and DPT (R2, R173) -/

/-- The first entry of NODE that does not fit, and then the MAINTENANCE entry. -/
theorem checkNode_reports (ts : Tables) :
    let maintained := ∃ i : Fin 4, ts.node[i].inService = true ∧ ts.node[i].role = .maintenance
    ReportsFirst (checkNode ts) 0 (NodeFits ts) ∧ ((∀ i, NodeFits ts i) →
      (¬ maintained → checkNode ts = some { table := 0, index := 0 }) ∧ (maintained → checkNode ts = none)) := by
  intro maintained
  have hmaintained : (ts.node.toList.any fun e => e.inService && e.role == .maintenance) = true ↔ maintained := by
    rw [any_toList_iff]
    simp [maintained]
  obtain ⟨hfirst, hrest⟩ : ReportsFirst (checkNode ts) 0 (NodeFits ts) ∧ ((∀ i, NodeFits ts i) → checkNode ts =
      if ts.node.toList.any fun e => e.inService && e.role == .maintenance then none else failAt .node (some 0)) := by
    refine firstBroken_then .node _ fun i => ?_
    simp only [NodeFits, Bool.and_eq_true, Bool.or_eq_true, beq_iff_eq, List.any_eq_true, List.mem_finRange, true_and,
      decide_eq_true_eq, Fin.val_fin_lt]
    grind
  refine ⟨hfirst, fun hall => ⟨fun hno => ?_, fun hyes => ?_⟩⟩
  · rw [hrest hall, if_neg (hmaintained.not.2 hno)]; rfl
  · rw [hrest hall, if_pos (hmaintained.2 hyes)]

theorem checkDpt_reports (ts : Tables) :
    ReportsFirst (checkDpt ts) 2 (DptFits ts) ∧ ((∀ i, DptFits ts i) → checkDpt ts = none) := by
  refine failAt_of_fits .dpt fun i => ?_
  simp only [DptFits, Bool.and_eq_true, Bool.or_eq_true, beq_iff_eq, List.any_eq_true, List.mem_finRange, true_and,
    decide_eq_true_eq, Fin.val_fin_lt]
  grind

/-! ## SECTION and APPROACH (R17, R34) -/

/-- Every boundary names an in-service counting head on the track. -/
theorem boundaries_serve_iff (ts : Tables) (e : SectionEntry) :
    (e.boundaries.all fun b =>
      match ts.dpt[b.head]? with
      | some d => d.inService && d.role == .counting && d.track == e.track
      | none => false) = true ↔
    ∀ b ∈ e.boundaries, ∃ h : b.head < 16, ts.dpt[b.head].inService = true ∧ ts.dpt[b.head].role = .counting ∧
      ts.dpt[b.head].track = e.track := by
  rw [List.all_eq_true]
  refine forall₂_congr fun b _ => ?_
  by_cases h : b.head < 16 <;> simp [h, and_assoc]

theorem checkSection_reports (ts : Tables) :
    ReportsFirst (checkSection ts) 3 (SectionFits ts) ∧ ((∀ i, SectionFits ts i) → checkSection ts = none) := by
  refine failAt_of_fits .sectionTable fun i => served_misfit_iff ?_
  rw [Bool.and_eq_true]
  exact and_congr (boundaries_serve_iff ts _) decide_eq_true_iff

/-- Each distance is less than the one before it, pair by pair. -/
theorem runsFarToNear_iff (l : List Nat) :
    runsFarToNear l = true ↔ ∀ (k : Nat) (a b : Nat), l[k]? = some a → l[k + 1]? = some b → b < a := by
  induction l with
  | nil => simp [runsFarToNear]
  | cons x l ih =>
    cases l with
    | nil => simp [runsFarToNear]
    | cons y l =>
      rw [runsFarToNear, Bool.and_eq_true, ih, decide_eq_true_eq]
      constructor
      · rintro ⟨hxy, hrest⟩ k a b ha hb
        cases k with
        | zero => simp_all
        | succ k => exact hrest k a b ha hb
      · exact fun h => ⟨h 0 x y rfl rfl, fun k a b ha hb => h (k + 1) a b ha hb⟩

theorem timingHeads_farToNear_iff (hs : List TimingHead) :
    runsFarToNear (hs.map (·.distance)) = true ↔ ∀ (k : Nat) (a b : TimingHead), hs[k]? = some a →
      hs[k + 1]? = some b → b.distance < a.distance := by
  rw [runsFarToNear_iff]
  simp only [List.getElem?_map, Option.map_eq_some_iff]
  constructor
  · exact fun h k a b ha hb => h k _ _ ⟨a, ha, rfl⟩ ⟨b, hb, rfl⟩
  · rintro h k _ _ ⟨a, ha, rfl⟩ ⟨b, hb, rfl⟩
    exact h k a b ha hb

theorem farthestAdmits_iff (ts : Tables) (e : ApproachEntry) :
    farthestAdmits ts e = true ↔ ∃ t, e.timingHeads.head? = some t ∧ ∃ h : e.approachSection < 8,
      ∃ b ∈ ts.sectionTable[e.approachSection].boundaries, b.head = t.head ∧ b.entering = .toward := by
  unfold farthestAdmits
  cases e.timingHeads.head? with
  | none => simp
  | some t => by_cases h : e.approachSection < 8 <;> simp [h]

/-- Every timing head names an in-service head on the track. -/
theorem timingHeads_serve_iff (ts : Tables) (e : ApproachEntry) :
    (e.timingHeads.all fun h =>
      match ts.dpt[h.head]? with
      | some d => d.inService && d.track == e.track
      | none => false) = true ↔
    ∀ t ∈ e.timingHeads, ∃ h : t.head < 16, ts.dpt[t.head].inService = true ∧ ts.dpt[t.head].track = e.track := by
  rw [List.all_eq_true]
  refine forall₂_congr fun t _ => ?_
  by_cases h : t.head < 16 <;> simp [h]

/-- No in-service approach of a lower index has the same approach section. -/
theorem approachSection_free_iff (ts : Tables) (i : Fin 4) (ref : Nat) :
    ((List.finRange 4).all fun j =>
      let f := ts.approach[j]
      !(decide (j.val < i.val) && f.inService && f.approachSection == ref)) = true ↔
    ∀ j : Fin 4, j < i → ts.approach[j].inService = true → ts.approach[j].approachSection ≠ ref := by
  simp [or_iff_not_imp_left]

theorem finalHead_notHalt_iff (e : ApproachEntry) :
    (!(e.timingHeads.getLast?).any (·.haltSide)) = true ↔
    ∀ t, e.timingHeads.getLast? = some t → t.haltSide = false := by
  cases e.timingHeads.getLast? <;> simp

theorem checkApproach_reports (ts : Tables) :
    ReportsFirst (checkApproach ts) 4 (ApproachFits ts) ∧
      ((∀ i, ApproachFits ts i) → checkApproach ts = none) := by
  refine failAt_of_fits .approach fun i => served_misfit_iff ?_
  simp only [Bool.and_eq_true, and_assoc]
  exact and_congr (sectionSuits_iff ..) <| and_congr (sectionSuits_iff ..) <|
    and_congr (approachSection_free_iff ..) <| and_congr (timingHeads_serve_iff ..) <|
    and_congr decide_eq_true_iff <| and_congr (timingHeads_farToNear_iff _) <|
    and_congr (finalHead_notHalt_iff _) (farthestAdmits_iff ..)

/-! ## BARRIER (R106) -/

theorem peak_belowHigh_iff (ts : Tables) (e : BarrierEntry) :
    (match ts.scan[e.currentEntry]? with
      | some c => decide (e.peakCurrent < c.highThreshold)
      | none => false) = true ↔
    ∃ h : e.currentEntry < 24, e.peakCurrent < ts.scan[e.currentEntry].highThreshold := by
  by_cases h : e.currentEntry < 24 <;> simp [h]

theorem checkBarrier_reports (ts : Tables) :
    ReportsFirst (checkBarrier ts) 7 (BarrierFits ts) ∧ ((∀ i, BarrierFits ts i) → checkBarrier ts = none) := by
  refine failAt_of_fits .barrier fun i => served_misfit_iff ?_
  simp only [Bool.and_eq_true, and_assoc]
  exact and_congr (scanServes_iff ..) <| and_congr (scanServes_iff ..) <| and_congr bne_iff_ne <|
    and_congr (not_eq_true_iff (barrierUses_iff ..)) <| and_congr (not_eq_true_iff (barrierUses_iff ..)) <|
    and_congr bne_iff_ne <| and_congr bne_iff_ne <| and_congr decide_eq_true_iff <|
    and_congr decide_eq_true_iff (peak_belowHigh_iff ts _)

/-! ## LAMP (R88) -/

theorem sideHasRedLamp_iff (ts : Tables) (side : Side) : sideHasRedLamp ts side = true ↔ SideHasRed ts side := by
  rw [sideHasRedLamp, any_toList_iff]
  simp [SideHasRed, and_assoc]

theorem audible_serve_iff (ts : Tables) :
    (audibleServes ts ts.params.audibleEntry0 && audibleServes ts ts.params.audibleEntry1 &&
      ts.params.audibleEntry0 != ts.params.audibleEntry1) = true ↔ AudibleFits ts := by
  have hfree (ref : Nat) : audibleServes ts ref = true ↔ NamesScan ts ref ∧ ref ≠ ts.params.batteryEntry ∧
      ¬ UsedByLamp ts 12 ref ∧ ¬ UsedByBarrier ts 4 ref := by
    simp only [audibleServes, Bool.and_eq_true, and_assoc]
    exact and_congr (scanServes_iff ..) <| and_congr bne_iff_ne <|
      and_congr (not_eq_true_iff (lampUses_iff ..)) (not_eq_true_iff (barrierUses_iff ..))
  simp only [Bool.and_eq_true, and_assoc, bne_iff_ne, hfree, AudibleFits]

/-- The first entry of LAMP that does not fit, and then the red lamps and the audible entries. -/
theorem checkLamp_reports (ts : Tables) :
    ReportsFirst (checkLamp ts) 8 (LampFits ts) ∧ ((∀ i, LampFits ts i) →
      (¬ SideHasRed ts .north → checkLamp ts = some { table := 8, index := 0 }) ∧
      (SideHasRed ts .north → ¬ SideHasRed ts .south → checkLamp ts = some { table := 8, index := 1 }) ∧
      (SideHasRed ts .north → SideHasRed ts .south → ¬ AudibleFits ts →
        checkLamp ts = some { table := 1, index := 0 }) ∧
      (SideHasRed ts .north → SideHasRed ts .south → AudibleFits ts → checkLamp ts = none)) := by
  obtain ⟨hfirst, hrest⟩ : ReportsFirst (checkLamp ts) 8 (LampFits ts) ∧ ((∀ i, LampFits ts i) → checkLamp ts =
      if !sideHasRedLamp ts .north then failAt .lamp (some 0)
      else if !sideHasRedLamp ts .south then failAt .lamp (some 1)
      else if audibleServes ts ts.params.audibleEntry0 && audibleServes ts ts.params.audibleEntry1 &&
        ts.params.audibleEntry0 != ts.params.audibleEntry1 then none
      else failAt .params (some 0)) := by
    refine firstBroken_then .lamp _ fun i => served_misfit_iff ?_
    simp only [Bool.and_eq_true, and_assoc]
    exact and_congr (scanServes_iff ..) <| and_congr (not_eq_true_iff (lampUses_iff ..)) <|
      and_congr (not_eq_true_iff (barrierUses_iff ..)) bne_iff_ne
  have hred (side : Side) := not_eq_true_iff (sideHasRedLamp_iff ts side)
  have haud := audible_serve_iff ts
  refine ⟨hfirst, fun hall => ⟨fun hn => ?_, fun hn hs => ?_, fun hn hs ha => ?_, fun hn hs ha => ?_⟩⟩
  · rw [hrest hall, if_pos ((hred _).2 hn)]; rfl
  · rw [hrest hall, if_neg ((hred _).not.2 (not_not.2 hn)), if_pos ((hred _).2 hs)]; rfl
  · rw [hrest hall, if_neg ((hred _).not.2 (not_not.2 hn)), if_neg ((hred _).not.2 (not_not.2 hs)),
      if_neg (haud.not.2 ha)]
    rfl
  · rw [hrest hall, if_neg ((hred _).not.2 (not_not.2 hn)), if_neg ((hred _).not.2 (not_not.2 hs)),
      if_pos (haud.2 ha)]

/-! ## SCAN (R129) -/

/-- Of the indices that hold, in order, each stands at the place that counts those below it. -/
theorem getElem?_filter_finRange {n : Nat} (p : Fin n → Bool) (i : Fin n) (hi : p i = true) :
    ((List.finRange n).filter p)[((List.finRange n).filter fun j => decide (j.val < i.val) && p j).length]? =
      some i := by
  have hsplit : List.finRange n = (List.finRange n).take i.val ++ i :: (List.finRange n).drop (i.val + 1) := by
    conv_lhs => rw [← List.take_append_drop i.val (List.finRange n),
      List.drop_eq_getElem_cons (by simp), List.getElem_finRange]
    simp
  have hbelow : ∀ j ∈ (List.finRange n).take i.val, (decide (j.val < i.val) && p j) = p j := by
    intro j hj
    obtain ⟨k, hk, rfl⟩ := List.mem_take_iff_getElem.1 hj
    have : k < i.val := by omega
    simp [this]
  have habove : ∀ j ∈ i :: (List.finRange n).drop (i.val + 1), ¬ (decide (j.val < i.val) && p j) = true := by
    intro j hj
    have : i.val ≤ j.val := by
      rcases List.mem_cons.1 hj with rfl | hj
      · exact le_rfl
      · obtain ⟨k, hk, rfl⟩ := List.mem_drop_iff_getElem.1 hj
        simp; omega
    simp [Nat.not_lt.2 this]
  have hcount : ((List.finRange n).filter fun j => decide (j.val < i.val) && p j) =
      ((List.finRange n).take i.val).filter p := by
    rw [hsplit, List.filter_append, List.filter_eq_nil_iff.2 habove, List.append_nil]
    simp only [← hsplit]
    exact List.filter_congr hbelow
  rw [hcount, hsplit, List.filter_append, List.filter_cons_of_pos hi]
  simp

theorem scanServedBelow_all (ts : Tables) : scanServedBelow ts 24 = (scanInService ts).length := by
  simp [scanServedBelow, scanInService]

theorem scanInService_at {ts : Tables} {i : Fin 24} (hi : ts.scan[i].inService = true) :
    (scanInService ts)[scanServedBelow ts i.val]? = some i :=
  getElem?_filter_finRange (fun j => ts.scan[j].inService) i hi

/-- The first entry of SCAN that does not fit, and then the cycle, the battery entry and its levels. -/
theorem checkScan_reports (ts : Tables) :
    let inCycle := scanServedBelow ts 24 * ts.params.scanStrobe ≤ 200
    ReportsFirst (checkScan ts) 9 (ScanFits ts) ∧ ((∀ i, ScanFits ts i) →
      (¬ inCycle → ∀ i : Fin 24, ts.scan[i].inService = true →
        scanServedBelow ts i.val = 200 / ts.params.scanStrobe → checkScan ts = some { table := 9, index := i.val }) ∧
      (inCycle → ¬ BatteryFits ts → checkScan ts = some { table := 1, index := 0 }) ∧
      (inCycle → BatteryFits ts → checkScan ts = none)) := by
  intro inCycle
  obtain ⟨hfirst, hrest⟩ : ReportsFirst (checkScan ts) 9 (ScanFits ts) ∧ ((∀ i, ScanFits ts i) → checkScan ts =
      if Config.scanCycleMax < (scanInService ts).length * ts.params.scanStrobe then
        failAt .scan (((scanInService ts)[Config.scanCycleMax / ts.params.scanStrobe]?).map (·.val))
      else if !scanServes ts ts.params.batteryEntry then failAt .params (some 0)
      else if ts.params.batteryCritical < ts.params.batteryLow ∧
        ts.params.batteryLow + Config.batteryHysteresis < ts.params.batterySpan then none
      else failAt .params (some 0)) := by
    refine firstBroken_then .scan _ fun i => ?_
    simp [ScanFits]
  rw [← scanServedBelow_all] at hrest
  have hcycle : inCycle ↔ ¬ Config.scanCycleMax < scanServedBelow ts 24 * ts.params.scanStrobe := Nat.not_lt.symm
  have hserves := not_eq_true_iff (scanServes_iff ts ts.params.batteryEntry)
  refine ⟨hfirst, fun hall => ⟨fun hc i hi hat => ?_, fun hc hb => ?_, fun hc ⟨hn, hl⟩ => ?_⟩⟩
  · rw [hrest hall, if_pos (not_not.1 (hcycle.not.1 hc)), show Config.scanCycleMax = 200 from rfl, ← hat,
      scanInService_at hi]
    rfl
  · rw [hrest hall, if_neg (hcycle.1 hc)]
    split
    next => rfl
    next hn => exact if_neg fun hl => hb ⟨not_not.1 (hserves.not.1 hn), hl⟩
  · rw [hrest hall, if_neg (hcycle.1 hc), if_neg (hserves.not.2 (not_not.2 hn))]
    exact if_pos hl

/-! ## The derived figures and the final heads (R35, R181) -/

theorem foldl_max_le_iff (l : List Nat) (a n : Nat) : l.foldl max a ≤ n ↔ a ≤ n ∧ ∀ x ∈ l, x ≤ n := by
  induction l generalizing a with
  | nil => simp
  | cons x l ih => simp [ih, and_assoc]

/-- The largest travel among the in-service barriers, 0 where none is in service, is one number. -/
theorem travelMax_eq {ts : Tables} {d : BarrierEnd} {n : Nat}
    (hle : ∀ i : Fin 4, ts.barrier[i].inService = true → ts.barrier[i].travel d ≤ n)
    (hat : (∃ i : Fin 4, ts.barrier[i].inService = true ∧ ts.barrier[i].travel d = n) ∨
      ((∀ i : Fin 4, ¬ ts.barrier[i].inService = true) ∧ n = 0)) :
    travelMax ts d = n := by
  have hbound (m : Nat) : travelMax ts d ≤ m ↔
      ∀ i : Fin 4, ts.barrier[i].inService = true → ts.barrier[i].travel d ≤ m := by
    rw [travelMax, foldl_max_le_iff]
    simp only [Nat.zero_le, true_and, List.forall_mem_map, List.mem_filter, Vector.mem_toList_iff,
      Vector.mem_iff_getElem]
    constructor
    · exact fun h i hi => h _ ⟨⟨i, i.isLt, rfl⟩, hi⟩
    · rintro h _ ⟨⟨i, hi, rfl⟩, hs⟩
      exact h ⟨i, hi⟩ hs
  refine le_antisymm ((hbound n).2 hle) ?_
  rcases hat with ⟨i, hi, rfl⟩ | ⟨_, rfl⟩
  · exact (hbound _).1 le_rfl i hi
  · exact Nat.zero_le _

theorem runStepsOf_eq (steps : List ProgramStep) :
    runStepsOf steps = steps.takeWhile fun k => decide (k.kind ≠ .finish) := by
  unfold runStepsOf
  congr 1
  funext k
  exact Bool.eq_iff_iff.2 (by simp)

/-- The final heads of the approaches that have timing heads are timely, in order of the approaches (R35). -/
theorem checkFinalHeads_reports (ts : Tables) (f : Derived)
    (hheads : ∀ i : Fin 4, ts.approach[i].inService = true → ts.approach[i].timingHeads ≠ []) :
    let timely (i : Fin 4) : Prop := ts.approach[i].inService = true →
      ∀ h, ts.approach[i].timingHeads.getLast? = some h → f.tReq[i] ≤ h.distance * 100000 / ts.approach[i].vFinal
    ReportsFirst (checkFinalHeads ts f) 4 timely ∧ ((∀ i, timely i) → checkFinalHeads ts f = none) := by
  intro timely
  refine failAt_of_fits .approach fun i => served_broken_iff fun hs => ?_
  simp only [List.getLast?_eq_some_getLast (hheads i hs), decide_eq_true_eq, Option.some.injEq, forall_eq', Nat.not_le]

/-- A table that passes the check of R34 has a timing head for every in-service approach. -/
theorem timingHeads_ne_nil {ts : Tables} (h : checkApproach ts = none) (i : Fin 4)
    (hs : ts.approach[i].inService = true) : ts.approach[i].timingHeads ≠ [] := by
  obtain ⟨-, -, -, -, -, -, -, t, ht, -⟩ := (checkApproach_reports ts).1.fits_of_none h i hs
  intro hnil
  rw [hnil] at ht
  cases ht

/-! ## The steps in order (R180) -/

theorem findSome?_id_first {l : List (Option Failure)} {k : Nat} {f : Failure} (hk : l[k]? = some (some f))
    (hlow : ∀ j, j < k → l[j]? = some none) : l.findSome? id = some f := by
  induction l generalizing k with
  | nil => cases hk
  | cons x l ih =>
    cases k with
    | zero => simp_all
    | succ k =>
      obtain rfl : x = none := by simpa using hlow 0 (Nat.succ_pos k)
      exact ih hk fun j hj => hlow (j + 1) (Nat.succ_lt_succ hj)

theorem findSome?_append_congr {l : List (Option Failure)} {a b : Option Failure} {x : Option Failure} (hx : x ∈ l)
    (h : x = none → a = b) : (l ++ [a]).findSome? id = (l ++ [b]).findSome? id := by
  rw [List.findSome?_append, List.findSome?_append]
  cases hl : l.findSome? id with
  | some f => rfl
  | none => rw [h (List.findSome?_eq_none_iff.1 hl x hx)]

/-- The verdict is that of the first check that reports. -/
def Verdict.of (first : Option Failure) (figures : Derived) : Verdict :=
  match first with
  | some f => .failed f
  | none => .passed figures

theorem validate_eq (ts : Tables) : validate ts = Verdict.of
    (([checkNode ts, checkDpt ts, checkSection ts, checkApproach ts, failAt .closing (closingBroken ts.closing.toList),
      failAt .opening (openingBroken ts.opening.toList), checkBarrier ts, checkLamp ts, checkScan ts] ++
      [checkFinalHeads ts (candidateFigures ts)]).findSome? id) (candidateFigures ts) := rfl

/-- Settles O53: each check by its lemma, the figures, and the order of the steps. -/
theorem tablesAreValidated : Obligations.TablesAreValidated := by
  intro ts breaks waits served largest maintained inCycle
  refine ⟨checkNode_reports ts, checkDpt_reports ts, checkSection_reports ts, checkApproach_reports ts,
    checkBarrier_reports ts, checkLamp_reports ts, checkScan_reports ts, ?_⟩
  intro down up ⟨hdown, hdownAt⟩ ⟨hup, hupAt⟩ lClose figures timely program last hbreaks hfits steps
  have hwaits (l : List ProgramStep) : waitSum (runStepsOf l) = waits l := by rw [runStepsOf_eq]; rfl
  have hfigures : candidateFigures ts = figures := by
    rw [candidateFigures, hwaits, hwaits, travelMax_eq (d := .down) hdown hdownAt, travelMax_eq (d := .up) hup hupAt]
    simp only [figures, lClose, Derived.mk.injEq, true_and, and_true]
    ext i hi
    simp
  have hlast (h : checkApproach ts = none) : checkFinalHeads ts figures = last := by
    obtain ⟨hfirst, hnone⟩ := checkFinalHeads_reports ts figures (timingHeads_ne_nil h)
    exact hfirst.unique hnone hbreaks hfits
  have hvalidate : validate ts = Verdict.of (steps.findSome? id) figures := by
    rw [validate_eq, hfigures, findSome?_append_congr (x := checkApproach ts) (by simp) hlast]
    rfl
  refine ⟨fun k f hk hlow => ?_, fun hall => ?_⟩
  · rw [hvalidate, findSome?_id_first hk hlow]; rfl
  · have hnone : steps.findSome? id = none := List.findSome?_eq_none_iff.2 hall
    rw [hvalidate, hnone]; rfl

end Sys2Proof.Machine
end

section
/-! SUPPORT. A list of operations, one for each index, taken one after another; and whole records of a state that
a frame leaves alone. -/

namespace Sys2Proof.Machine

set_option Elab.async false

/-- What the operation of an index brings about, and those of the others keep, holds of every index in the end. -/
theorem forEach_establishes {P : State → Prop} {n : Nat} {f : Fin n → State → State} {Q : Fin n → State → Prop}
    (hkeep : ∀ i s, P s → P (f i s)) (hset : ∀ i s, P s → Q i (f i s)) (hstay : ∀ i j s, Q i s → Q i (f j s))
    {s : State} (hs : P s) (i : Fin n) : Q i (forEach n f s) := by
  have stays (l : List (Fin n)) (s : State) (hq : Q i s) : Q i (l.foldl (fun s j => f j s) s) := by
    induction l generalizing s with
    | nil => exact hq
    | cons j l ih => exact ih (f j s) (hstay i j s hq)
  have reached (l : List (Fin n)) (hi : i ∈ l) (s : State) (hs : P s) : Q i (l.foldl (fun s j => f j s) s) := by
    induction l generalizing s with
    | nil => cases hi
    | cons j l ih =>
      rcases List.mem_cons.1 hi with rfl | hi
      · exact stays l _ (hset i s hs)
      · exact ih hi (f j s) (hkeep j s hs)
  exact reached _ (List.mem_finRange i) s hs

section
variable {ps : List Part} {s t : State} (h : Frame ps s t)
include h

theorem Frame.tableManager (ht : Part.tables ∉ ps) (hf : Part.flag ∉ ps) (hs : Part.save ∉ ps) : t.tm = s.tm := by
  obtain ⟨hvalid, hown, hderived⟩ := h.same _ hf
  obtain ⟨hrun, himage⟩ := h.same _ hs
  have htables := h.tables ht
  cases hx : t.tm; cases hy : s.tm
  simp_all only

theorem Frame.scanner (hr : Part.rate ∉ ps) (hb : Part.block ∉ ps) (hs : Part.results ∉ ps)
    (hv : Part.battery ∉ ps) : t.scan = s.scan := by
  obtain ⟨hstrobe, hrate, hquiet⟩ := h.same _ hr
  obtain ⟨hpos, hstart⟩ := h.same _ hb
  obtain ⟨hbat, hlow, hcritical⟩ := h.same _ hv
  have hresults := h.results hs
  cases hx : t.scan; cases hy : s.scan
  simp_all only

theorem Frame.reportUnit (hn : Part.newFault ∉ ps) (hs : Part.status ∉ ps) (hl : Part.link ∉ ps)
    (hb : Part.banks ∉ ps) : t.report = s.report := by
  obtain ⟨hnew, hfresh⟩ := h.same _ hn
  obtain ⟨hlast, hdue⟩ := h.same _ hs
  have hlink := h.linkEnd hl
  obtain ⟨hbank0, hbank1⟩ := h.same _ hb
  cases hx : t.report; cases hy : s.report
  simp_all only

end

end Sys2Proof.Machine
end

section
/-! SUPPORT. What the end of conditions does to the fault table (R142). -/

namespace Sys2Proof.Machine

set_option Elab.async false

/-- No two records have the same code and subject. -/
def FaultRecorder.Distinct (f : FaultRecorder) : Prop := (f.records.map fun r => (r.code, r.subject)).Nodup

/-- The condition is not open: what is held of it is LATCHED. -/
def FaultRecorder.Over (f : FaultRecorder) (c : FaultCode) (i : Option Nat) : Prop :=
  ∀ r ∈ f.records, r.isFor c i = true → r.state = .latched

/-- From `f` to `g` nothing has happened but that conditions of `P` have ended. -/
structure EndsOnly (P : FaultRecord → Prop) (f g : FaultRecorder) : Prop where
  others : ∀ r, ¬ P r → (r ∈ g.records ↔ r ∈ f.records)
  distinct : f.Distinct → g.Distinct
  opens : ∀ r ∈ g.records, r.state ≠ .latched → r ∈ f.records

theorem EndsOnly.refl (P : FaultRecord → Prop) (f : FaultRecorder) : EndsOnly P f f :=
  ⟨fun _ _ => Iff.rfl, id, fun _ h _ => h⟩

theorem EndsOnly.trans {P : FaultRecord → Prop} {f g k : FaultRecorder} (h : EndsOnly P f g) (h' : EndsOnly P g k) :
    EndsOnly P f k :=
  ⟨fun r hr => (h'.others r hr).trans (h.others r hr), fun d => h'.distinct (h.distinct d),
    fun r hr ho => h.opens r (h'.opens r hr ho) ho⟩

theorem EndsOnly.mono {P Q : FaultRecord → Prop} {f g : FaultRecorder} (h : EndsOnly P f g) (hpq : ∀ r, P r → Q r) :
    EndsOnly Q f g :=
  ⟨fun r hr => h.others r fun hp => hr (hpq r hp), h.distinct, h.opens⟩

/-- What is over stays so. -/
theorem EndsOnly.over {P : FaultRecord → Prop} {f g : FaultRecorder} (h : EndsOnly P f g) {c : FaultCode}
    {i : Option Nat} (ho : f.Over c i) : g.Over c i := by
  intro r hr hc
  by_contra hl
  exact hl (ho r (h.opens r hr hl) hc)

theorem isFor_iff {r : FaultRecord} {c : FaultCode} {i : Option Nat} :
    r.isFor c i = true ↔ r.code = c ∧ r.subject = i := by
  simp [FaultRecord.isFor]

theorem findRecord_spec {rs : List FaultRecord} {c : FaultCode} {i : Option Nat} {r : FaultRecord}
    (h : findRecord rs c i = some r) : r ∈ rs ∧ r.code = c ∧ r.subject = i :=
  ⟨List.mem_of_find?_eq_some h, isFor_iff.1 (List.find?_some (p := fun q : FaultRecord => q.isFor c i) h)⟩

/-- A record of the updated list is one of the list, or the new form of one that the pair has. -/
theorem mem_updateRecord {rs : List FaultRecord} {c : FaultCode} {i : Option Nat} {f : FaultRecord → FaultRecord}
    {r : FaultRecord} : r ∈ updateRecord rs c i f ↔
      (r ∈ rs ∧ r.isFor c i = false) ∨ ∃ q ∈ rs, q.isFor c i = true ∧ f q = r := by
  simp only [updateRecord, List.mem_map]
  constructor
  · rintro ⟨q, hq, rfl⟩
    by_cases h : q.isFor c i = true
    · exact .inr ⟨q, hq, h, (if_pos h).symm⟩
    · exact .inl (by simp [h, hq])
  · rintro (⟨hr, h⟩ | ⟨q, hq, h, rfl⟩)
    · exact ⟨r, hr, by simp [h]⟩
    · exact ⟨q, hq, if_pos h⟩

/-- The end of a condition ends that condition and touches no other record. -/
theorem endsOnly_ended (f : FaultRecorder) (c : FaultCode) (i : Option Nat) :
    EndsOnly (fun r => r.isFor c i = true) f (f.ended c i) := by
  unfold FaultRecorder.ended
  cases findRecord f.records c i with
  | none => exact .refl _ f
  | some found =>
    cases hstate : found.state <;> dsimp only <;> rw [hstate] <;> dsimp only
    case latched => exact .refl _ f
    case acceptedActive =>
      refine ⟨fun r hr => by simp [hr], fun d => ?_, fun r hr _ => (List.mem_filter.1 hr).1⟩
      exact d.sublist (List.filter_sublist.map _)
    case active =>
      refine ⟨fun r hr => ?_, fun d => ?_, fun r hr ho => ?_⟩
      · rw [Bool.not_eq_true] at hr
        refine mem_updateRecord.trans ⟨?_, fun h => .inl ⟨h, hr⟩⟩
        rintro (⟨h, -⟩ | ⟨q, -, hq, rfl⟩)
        · exact h
        · exact absurd hr (by simp [FaultRecord.isFor_state, hq])
      · have hsame : (updateRecord f.records c i fun r => { r with state := .latched }).map
            (fun r => (r.code, r.subject)) = f.records.map fun r => (r.code, r.subject) := by
          rw [updateRecord, List.map_map]
          refine List.map_congr_left fun r _ => ?_
          dsimp only [Function.comp]
          split <;> rfl
        exact (congrArg List.Nodup hsame).mpr d
      · rcases mem_updateRecord.1 hr with ⟨h, -⟩ | ⟨q, -, -, rfl⟩
        · exact h
        · exact absurd rfl ho

/-- Where no pair is held twice, the condition is over then. -/
theorem over_ended {f : FaultRecorder} (hd : f.Distinct) (c : FaultCode) (i : Option Nat) : (f.ended c i).Over c i := by
  intro r hr hfor
  have hkeys : ∀ q ∈ f.records, q.isFor c i = true → findRecord f.records c i = some q := by
    intro q hq hqfor
    obtain ⟨p, hp⟩ : ∃ p, findRecord f.records c i = some p := Option.isSome_iff_exists.1
      (List.find?_isSome.2 ⟨q, hq, hqfor⟩)
    obtain ⟨hmem, hcode, hsubject⟩ := findRecord_spec hp
    obtain ⟨hqcode, hqsubject⟩ := isFor_iff.1 hqfor
    rw [hp, List.inj_on_of_nodup_map hd hmem hq
      (Prod.ext (hcode.trans hqcode.symm) (hsubject.trans hqsubject.symm))]
  revert hr
  unfold FaultRecorder.ended
  cases hfind : findRecord f.records c i with
  | none => exact fun hr => absurd (hkeys r hr hfor) (by simp [hfind])
  | some found =>
    cases hstate : found.state <;> dsimp only <;> rw [hstate] <;> dsimp only
    case latched =>
      intro hr
      have := hkeys r hr hfor
      rw [hfind] at this
      rw [← Option.some.inj this, hstate]
    case acceptedActive => exact fun hr => absurd (List.mem_filter.1 hr).2 (by simp [hfor])
    case active =>
      intro hr
      rcases mem_updateRecord.1 hr with ⟨-, h⟩ | ⟨q, -, -, rfl⟩
      · exact absurd hfor (by simp [h])
      · rfl

/-- The same of the state: the end of a condition, where its pair is one of `P`. -/
theorem endsOnly_conditionEnd {P : FaultRecord → Prop} {c : FaultCode} {i : Option Nat} (s : State)
    (hP : ∀ r, r.code = c → r.subject = i → P r) : EndsOnly P s.faults (conditionEnd c i s).faults := by
  rw [conditionEnd_eq]
  exact (endsOnly_ended s.faults c i).mono fun r hr => hP r (isFor_iff.1 hr).1 (isFor_iff.1 hr).2

theorem over_conditionEnd {s : State} (hd : s.faults.Distinct) (c : FaultCode) (i : Option Nat) :
    (conditionEnd c i s).faults.Over c i := by
  rw [conditionEnd_eq]
  exact over_ended hd c i

/-- Two conditions of one subject end. -/
theorem endsOnly_conditionEnds {P : FaultRecord → Prop} {c c' : FaultCode} {i : Option Nat} (s : State)
    (hP : ∀ r, r.code = c ∨ r.code = c' → r.subject = i → P r) :
    EndsOnly P s.faults (conditionEnd c' i (conditionEnd c i s)).faults :=
  (endsOnly_conditionEnd s fun r hc => hP r (.inl hc)).trans (endsOnly_conditionEnd _ fun r hc => hP r (.inr hc))

theorem over_conditionEnds {s : State} (hd : s.faults.Distinct) {c c' d : FaultCode} (h : d = c ∨ d = c')
    (i : Option Nat) : (conditionEnd c' i (conditionEnd c i s)).faults.Over d i := by
  rcases h with rfl | rfl
  · exact (endsOnly_conditionEnd (P := fun _ => True) _ fun _ _ _ => trivial).over (over_conditionEnd hd _ _)
  · exact over_conditionEnd ((endsOnly_conditionEnd (P := fun _ => True) s fun _ _ _ => trivial).distinct hd) _ _

theorem forEach_endsOnly {P : FaultRecord → Prop} {n : Nat} {f : Fin n → State → State}
    (h : ∀ i s, EndsOnly P s.faults (f i s).faults) (s : State) : EndsOnly P s.faults (forEach n f s).faults :=
  forEach_keeps (P := fun t => EndsOnly P s.faults t.faults) (fun i t ht => ht.trans (h i t)) (.refl P s.faults)

/-- Where the operation of each index ends its own condition, all of them are over in the end. -/
theorem forEach_over {P : FaultRecord → Prop} {n : Nat} {f : Fin n → State → State} {c : FaultCode}
    (h : ∀ i s, EndsOnly P s.faults (f i s).faults)
    (hover : ∀ i s, s.faults.Distinct → (f i s).faults.Over c (some i.val)) {s : State} (hd : s.faults.Distinct)
    {k : Nat} (hk : k < n) : (forEach n f s).faults.Over c (some k) :=
  forEach_establishes (P := fun t => t.faults.Distinct) (Q := fun i t => t.faults.Over c (some i.val))
    (fun i t ht => (h i t).distinct ht) hover (fun _ j t ht => (h j t).over ht) hd ⟨k, hk⟩

end Sys2Proof.Machine
end

section
/-! What clearing the table-valid flag does in each block (R178). -/

namespace Sys2Proof.Machine

set_option Elab.async false

/-! ## The heads (R3) -/

/-- The records that the Head Monitor reports. -/
def ReportedByHeads (r : FaultRecord) : Prop :=
  (r.code = .headLost ∨ r.code = .headFault) ∧ ∃ k, r.subject = some k ∧ k < 16

theorem headsOnClear_heads (s : State) : (headsOnClear s).heads =
    s.heads.map fun _ => { state := .unseen, lastCount := none, lastSeen := s.now, wasFaulty := false } :=
  (forEach_frame (ps := [.faults]) (fun i t => (conditionEnd_frame ..).trans (conditionEnd_frame ..)) _).heads
    (by decide)

theorem headOnClear_endsOnly (i : Fin 16) (s : State) :
    EndsOnly ReportedByHeads s.faults (conditionEnd .headFault (some i.val) (endLost i s)).faults :=
  endsOnly_conditionEnds s fun _ hc hs => ⟨hc, i, hs, i.isLt⟩

theorem headsOnClear_endsOnly (s : State) : EndsOnly ReportedByHeads s.faults (headsOnClear s).faults :=
  forEach_endsOnly headOnClear_endsOnly (unseenHeads s)

theorem headsOnClear_over {s : State} (hd : s.faults.Distinct) {r : FaultRecord} (hr : ReportedByHeads r) :
    (headsOnClear s).faults.Over r.code r.subject := by
  obtain ⟨hc, k, hs, hk⟩ := hr
  rw [hs]
  exact forEach_over (s := unseenHeads s) headOnClear_endsOnly (fun i t ht => over_conditionEnds ht hc _) hd hk

/-! ## The lamps (R101, R103) -/

/-- The records that the Lamp Controller reports of lamps. -/
def ReportedByLamps (r : FaultRecord) : Prop :=
  (r.code = .lampFail ∨ r.code = .lampStuckOn) ∧ ∃ k, r.subject = some k ∧ k < 12

/-- The records that the Lamp Controller reports of the audible warnings. -/
def ReportedByAudible (r : FaultRecord) : Prop := r.code = .audibleFail ∧ ∃ k, r.subject = some k ∧ k < 2

/-- A lamp as R103 leaves it. -/
def LampRecord.Cleared (r : LampRecord) : Prop :=
  r.mode = .dark ∧ r.proved = false ∧ r.unproved = 0 ∧ r.intervalStart = none ∧ r.stuckOn = false

/-- A lamp that is darkened has a DARK record, and no condition has ended. -/
theorem setMode_dark (i : Fin 12) (s : State) :
    ∃ r : LampRecord, r.mode = .dark ∧ setMode i .dark s = s.setLamp i r := by
  unfold setMode
  by_cases h : (s.lampRecord i).mode = .dark
  · refine ⟨s.lampRecord i, h, (if_pos h).trans ?_⟩
    simp only [State.setLamp, State.lampRecord, Fin.getElem_fin, Vector.set_getElem_self]
  · exact ⟨(s.lampRecord i).withMode .dark s.now, rfl, (if_neg h).trans (if_pos rfl)⟩

/-- One lamp is cleared, and LAMP_FAIL and LAMP_STUCK_ON of it end. -/
theorem lampOnClear_eq (i : Fin 12) (s : State) : ∃ r : LampRecord, r.Cleared ∧
    lampOnClear i s = conditionEnd .lampStuckOn (some i.val) (conditionEnd .lampFail (some i.val) (s.setLamp i r)) := by
  obtain ⟨r, hr, hset⟩ := setMode_dark i s
  refine ⟨{ r.dropInterval with proved := false, unproved := 0, stuckOn := false }, ⟨hr, rfl, rfl, rfl, rfl⟩, ?_⟩
  simp only [lampOnClear, hset, State.setLamp, State.lampRecord, Fin.getElem_fin, Vector.getElem_set_self,
    Vector.set_set]

theorem lampOnClear_cleared (i : Fin 12) (s : State) : ((lampOnClear i s).lamp.lamps[i]).Cleared := by
  obtain ⟨r, hr, heq⟩ := lampOnClear_eq i s
  rw [heq, conditionEnd_eq, conditionEnd_eq]
  simpa [State.setLamp] using hr

/-- It leaves the other lamp records and the rest of the Lamp Controller as they were. -/
theorem lampOnClear_rest (i : Fin 12) (s : State) : ∃ lamps : Vector LampRecord 12,
    (∀ j, j ≠ i → lamps[j] = s.lamp.lamps[j]) ∧ (lampOnClear i s).lamp = { s.lamp with lamps := lamps } := by
  obtain ⟨r, -, heq⟩ := lampOnClear_eq i s
  refine ⟨s.lamp.lamps.set i r, fun j hj => ?_, by rw [heq, conditionEnd_eq, conditionEnd_eq]; rfl⟩
  exact Vector.getElem_set_ne _ _ fun h => hj (Fin.ext h.symm)

theorem lampOnClear_endsOnly (i : Fin 12) (s : State) :
    EndsOnly ReportedByLamps s.faults (lampOnClear i s).faults := by
  obtain ⟨r, -, heq⟩ := lampOnClear_eq i s
  rw [heq]
  exact endsOnly_conditionEnds (s.setLamp i r) fun _ hc hs => ⟨hc, i, hs, i.isLt⟩

theorem lampOnClear_over (i : Fin 12) {s : State} (hd : s.faults.Distinct) {c : FaultCode}
    (hc : c = .lampFail ∨ c = .lampStuckOn) : (lampOnClear i s).faults.Over c (some i.val) := by
  obtain ⟨r, -, heq⟩ := lampOnClear_eq i s
  rw [heq]
  exact over_conditionEnds (s := s.setLamp i r) hd hc _

/-- Every lamp is cleared, and the rest of the Lamp Controller is as it was. -/
theorem clearLamps_lamp (s : State) : ∃ lamps : Vector LampRecord 12,
    (∀ i : Fin 12, lamps[i].Cleared) ∧ (forEach 12 lampOnClear s).lamp = { s.lamp with lamps := lamps } := by
  obtain ⟨lamps, hlamps⟩ : ∃ lamps, (forEach 12 lampOnClear s).lamp = { s.lamp with lamps := lamps } := by
    refine forEach_keeps (P := fun t => ∃ lamps, t.lamp = { s.lamp with lamps := lamps }) ?_ ⟨s.lamp.lamps, rfl⟩
    rintro i t ⟨lamps, ht⟩
    obtain ⟨lamps', -, h⟩ := lampOnClear_rest i t
    exact ⟨lamps', by rw [h, ht]⟩
  refine ⟨lamps, fun i => ?_, hlamps⟩
  have hcleared := forEach_establishes (P := fun _ => True) (Q := fun i t => (t.lamp.lamps[i]).Cleared)
    (fun _ _ _ => trivial) (fun i t _ => lampOnClear_cleared i t) (fun i j t ht => ?_) (s := s) trivial i
  · rwa [hlamps] at hcleared
  · by_cases hij : i = j
    · exact hij ▸ lampOnClear_cleared i t
    · obtain ⟨lamps', hothers, h⟩ := lampOnClear_rest j t
      rw [h]
      exact hothers i hij ▸ ht

/-! ## Red proved (R98) -/

theorem gateSide_lamp (side : Side) (red : Bool) (s : State) : (gateSide side red s).lamp = s.lamp :=
  (gateSide_frame side red s).lamp (by decide)

/-- A side with no proved red lamp loses red proved, if it had it. -/
theorem formRed_lost {side : Side} {s : State} (h : sideHasRed s side = false) : ∃ darkEnd : PerSide (Option Time),
    (formRed side s).lamp =
      { s.lamp with redProved := s.lamp.redProved.set side false, darkEnd := darkEnd } ∧
    (formRed side s).faults = s.faults := by
  unfold formRed
  rw [h]
  dsimp only
  split
  next heq =>
    refine ⟨s.lamp.darkEnd, ?_, rfl⟩
    have hset : s.lamp.redProved.set side false = s.lamp.redProved := by rw [heq]; cases side <;> rfl
    rw [hset]
  next =>
    refine ⟨if s.lamp.aspect = .red then s.lamp.darkEnd.set side (some (after s.now (twoFlashPeriods s)))
      else s.lamp.darkEnd, ?_, ?_⟩
    · rw [gateSide_lamp]
      simp only [Bool.false_eq_true, if_false]
      split <;> rfl
    · rw [(gateSide_frame ..).faults (by decide)]
      simp only [Bool.false_eq_true, if_false]
      split <;> rfl

theorem sideHasRed_of_unproved {s : State} (h : ∀ i : Fin 12, s.lamp.lamps[i].proved = false) (side : Side) :
    sideHasRed s side = false := by
  simp only [sideHasRed, List.any_eq_false, State.lampRecord]
  intro i _
  rw [h i, Bool.and_false]
  exact Bool.false_ne_true

/-- With no lamp proved, neither side has red proved; the lamps, the warnings, the test and the faults stay. -/
theorem formBothRed_unproved {s : State} (h : ∀ i : Fin 12, s.lamp.lamps[i].proved = false) :
    ∃ darkEnd : PerSide (Option Time),
      (formBothRed s).lamp = { s.lamp with redProved := { north := false, south := false }, darkEnd := darkEnd } ∧
      (formBothRed s).faults = s.faults := by
  obtain ⟨dark, hlamp, hfaults⟩ := formRed_lost (sideHasRed_of_unproved h .north)
  obtain ⟨dark', hlamp', hfaults'⟩ := formRed_lost (s := formRed .north s) (side := .south)
    (sideHasRed_of_unproved (fun i => by rw [hlamp]; exact h i) .south)
  refine ⟨dark', ?_, hfaults'.trans hfaults⟩
  rw [formBothRed, hlamp', hlamp]
  rfl

/-! ## The Lamp Controller as a whole -/

/-- A lamp test ends done-fail (R101). -/
theorem endLampTest_eq (s : State) : ∃ test : LampTest, endLampTest s = { s with lamp := { s.lamp with test := test } } ∧
    (s.lamp.test.run = .running → test.run = .doneFail ∧ test.lamp = none) ∧
    (s.lamp.test.run ≠ .running → test = s.lamp.test) := by
  unfold endLampTest
  by_cases h : s.lamp.test.run = .running
  · exact ⟨_, if_pos h, fun _ => ⟨rfl, rfl⟩, fun hn => absurd h hn⟩
  · exact ⟨s.lamp.test, if_neg h, fun hr => absurd hr h, fun _ => rfl⟩

theorem zeroAudible_lamp (s : State) : (zeroAudible s).lamp =
    { s.lamp with audible := s.lamp.audible.map fun a => { a with unproved := 0 } } := rfl

theorem audiblesEnd_lamp (s : State) :
    (forEach 2 (fun i t => conditionEnd .audibleFail (some i.val) t) s).lamp = s.lamp :=
  (forEach_frame (fun i t => conditionEnd_frame ..) s).lamp (by decide)

theorem lampsOnClear_lamp (s : State) : ∃ (lamps : Vector LampRecord 12) (darkEnd : PerSide (Option Time))
    (test : LampTest), (∀ i : Fin 12, lamps[i].Cleared) ∧
      (s.lamp.test.run = .running → test.run = .doneFail ∧ test.lamp = none) ∧
      (s.lamp.test.run ≠ .running → test = s.lamp.test) ∧
      (lampsOnClear s).lamp = { s.lamp with
        lamps := lamps, audible := s.lamp.audible.map fun a => { a with unproved := 0 }
        redProved := { north := false, south := false }, darkEnd := darkEnd, test := test } := by
  obtain ⟨test, htest, hran, hnot⟩ := endLampTest_eq s
  obtain ⟨lamps, hcleared, hlamps⟩ := clearLamps_lamp (endLampTest s)
  let silent := zeroAudible (forEach 12 lampOnClear (endLampTest s))
  have hsilent : silent.lamp = { s.lamp with
      lamps := lamps, audible := s.lamp.audible.map fun a => { a with unproved := 0 }, test := test } := by
    rw [show silent.lamp = _ from zeroAudible_lamp _, hlamps, htest]
  obtain ⟨dark, hred, -⟩ := formBothRed_unproved
    (s := forEach 2 (fun i t => conditionEnd .audibleFail (some i.val) t) silent)
    (fun i => by rw [audiblesEnd_lamp, hsilent]; exact (hcleared i).2.1)
  refine ⟨lamps, dark, test, hcleared, hran, hnot, ?_⟩
  rw [lampsOnClear, hred, audiblesEnd_lamp, hsilent]

/-- The fault table takes the ends of the lamp conditions, then those of the audible ones. -/
theorem lampsOnClear_faults (s : State) : (lampsOnClear s).faults =
    (forEach 2 (fun i t => conditionEnd .audibleFail (some i.val) t)
      (zeroAudible (forEach 12 lampOnClear (endLampTest s)))).faults := by
  obtain ⟨lamps, hcleared, hlamps⟩ := clearLamps_lamp (endLampTest s)
  refine (formBothRed_unproved fun i => ?_).choose_spec.2
  rw [audiblesEnd_lamp, zeroAudible, hlamps]
  exact (hcleared i).2.1

theorem endLampTest_faults (s : State) : (endLampTest s).faults = s.faults := by
  obtain ⟨test, htest, -⟩ := endLampTest_eq s
  rw [htest]

theorem clearLamps_endsOnly (s : State) :
    EndsOnly ReportedByLamps s.faults (forEach 12 lampOnClear (endLampTest s)).faults := by
  have h := forEach_endsOnly (f := lampOnClear) lampOnClear_endsOnly (endLampTest s)
  rw [endLampTest_faults] at h
  exact h

theorem audiblesEnd_endsOnly (s : State) : EndsOnly ReportedByAudible s.faults
    (forEach 2 (fun i t => conditionEnd .audibleFail (some i.val) t) s).faults :=
  forEach_endsOnly (fun i t => endsOnly_conditionEnd t fun _ hc hs => ⟨hc, i, hs, i.isLt⟩) s

theorem zeroAudible_faults (s : State) : (zeroAudible s).faults = s.faults := rfl

theorem lampsOnClear_endsOnly (s : State) :
    EndsOnly (fun r => ReportedByLamps r ∨ ReportedByAudible r) s.faults (lampsOnClear s).faults := by
  have hlamps := clearLamps_endsOnly s
  have haudible := audiblesEnd_endsOnly (zeroAudible (forEach 12 lampOnClear (endLampTest s)))
  rw [zeroAudible_faults] at haudible
  rw [lampsOnClear_faults]
  exact (hlamps.mono fun _ => .inl).trans (haudible.mono fun _ => .inr)

theorem lampsOnClear_over {s : State} (hd : s.faults.Distinct) {r : FaultRecord}
    (hr : ReportedByLamps r ∨ ReportedByAudible r) : (lampsOnClear s).faults.Over r.code r.subject := by
  have hcleared := (clearLamps_endsOnly s).distinct hd
  have haudible := audiblesEnd_endsOnly (zeroAudible (forEach 12 lampOnClear (endLampTest s)))
  rw [← endLampTest_faults] at hd
  rw [← zeroAudible_faults] at hcleared
  rw [lampsOnClear_faults]
  rcases hr with ⟨hc, k, hs, hk⟩ | ⟨hc, k, hs, hk⟩ <;> rw [hs]
  · refine haudible.over ?_
    rw [zeroAudible_faults]
    exact forEach_over lampOnClear_endsOnly (fun i t ht => lampOnClear_over i ht hc) hd hk
  · rw [hc]
    exact forEach_over (P := fun _ => True) (fun i t => endsOnly_conditionEnd t fun _ _ _ => trivial)
      (fun i t ht => over_conditionEnd ht _ _) hcleared hk

/-! ## The battery and the link (R138, R153, R155) -/

/-- The records of the battery. -/
def ReportedByBattery (r : FaultRecord) : Prop := (r.code = .batteryLow ∨ r.code = .batteryCritical) ∧ r.subject = none

/-- The record of the signaller link. -/
def ReportedByLink (r : FaultRecord) : Prop := r.code = .signallerLinkLost ∧ r.subject = none

theorem batteryOnClear_endsOnly (s : State) : EndsOnly ReportedByBattery s.faults (batteryOnClear s).faults :=
  endsOnly_conditionEnds { s with scan := { s.scan with batteryLow := false, batteryCritical := false } }
    fun _ hc hs => ⟨hc, hs⟩

theorem batteryOnClear_over {s : State} (hd : s.faults.Distinct) {r : FaultRecord} (hr : ReportedByBattery r) :
    (batteryOnClear s).faults.Over r.code r.subject := by
  rw [hr.2]
  exact over_conditionEnds (s := { s with scan := { s.scan with batteryLow := false, batteryCritical := false } }) hd hr.1 _

theorem reportOnClear_endsOnly (s : State) : EndsOnly ReportedByLink s.faults (reportOnClear s).faults :=
  endsOnly_conditionEnd { s with report := { s.report with statusDue := none, linkEnd := none } }
    fun _ hc hs => ⟨hc, hs⟩

theorem reportOnClear_over {s : State} (hd : s.faults.Distinct) {r : FaultRecord} (hr : ReportedByLink r) :
    (reportOnClear s).faults.Over r.code r.subject := by
  rw [hr.1, hr.2]
  exact over_conditionEnd (s := { s with report := { s.report with statusDue := none, linkEnd := none } }) hd _ _

end Sys2Proof.Machine
end

section
/-! The table-valid flag cleared and set by a validation (R178, R182). -/

namespace Sys2Proof.Machine

set_option Elab.async false

/-! ## Cleared -/

/-- The blocks as the flag is cleared, one after another. -/
def blocksOnClear (s : State) : State := reportOnClear (batteryOnClear (lampsOnClear (headsOnClear s)))

theorem clearValid_of_valid {s : State} (h : s.tm.valid = true) :
    clearValid s = blocksOnClear { s with tm := { s.tm with valid := false } } := if_pos h

theorem batteryOnClear_scan (s : State) :
    (batteryOnClear s).scan = { s.scan with batteryLow := false, batteryCritical := false } := by
  simp only [batteryOnClear, conditionEnd_eq]

theorem reportOnClear_report (s : State) :
    (reportOnClear s).report = { s.report with statusDue := none, linkEnd := none } := by
  simp only [reportOnClear, conditionEnd_eq]

theorem blocksOnClear_tm (s : State) : (blocksOnClear s).tm = s.tm :=
  Frame.tableManager (ps := [.heads, .lamp, .lampTest, .redProved, .barriers, .battery, .status, .link, .faults])
    ((((headsOnClear_frame s).mono (by decide)).step (lampsOnClear_frame _)).step (batteryOnClear_frame _) |>.step
      (reportOnClear_frame _)) (by decide) (by decide) (by decide)

theorem blocksOnClear_heads (s : State) : (blocksOnClear s).heads = (headsOnClear s).heads :=
  Frame.heads (ps := [.lamp, .lampTest, .redProved, .barriers, .battery, .status, .link, .faults])
    (((lampsOnClear_frame _).mono (by decide)).step (batteryOnClear_frame _) |>.step (reportOnClear_frame _)) (by decide)

theorem blocksOnClear_lamp (s : State) : (blocksOnClear s).lamp = (lampsOnClear (headsOnClear s)).lamp :=
  Frame.lamp (ps := [.battery, .status, .link, .faults])
    (((batteryOnClear_frame _).mono (by decide)).step (reportOnClear_frame _)) (by decide)

theorem lampsHeadsOnClear_frame (s : State) :
    Frame [.heads, .lamp, .lampTest, .redProved, .barriers, .faults] s (lampsOnClear (headsOnClear s)) :=
  ((headsOnClear_frame s).mono (by decide)).step (lampsOnClear_frame _)

theorem blocksOnClear_scan (s : State) :
    (blocksOnClear s).scan = { s.scan with batteryLow := false, batteryCritical := false } := by
  have hsame := (lampsHeadsOnClear_frame s).scanner (by decide) (by decide) (by decide) (by decide)
  rw [blocksOnClear, (reportOnClear_frame _).scanner (by decide) (by decide) (by decide) (by decide),
    batteryOnClear_scan, hsame]

theorem blocksOnClear_report (s : State) :
    (blocksOnClear s).report = { s.report with statusDue := none, linkEnd := none } := by
  have hsame := (lampsHeadsOnClear_frame s).reportUnit (by decide) (by decide) (by decide) (by decide)
  rw [blocksOnClear, reportOnClear_report, (batteryOnClear_frame _).reportUnit (by decide) (by decide) (by decide)
    (by decide), hsame]

/-- The records of the conditions that the blocks report while the flag is set. -/
def ReportedWhileValid (r : FaultRecord) : Prop :=
  ReportedByHeads r ∨ (ReportedByLamps r ∨ ReportedByAudible r) ∨ ReportedByBattery r ∨ ReportedByLink r

/-- No record but those is touched. -/
theorem blocksOnClear_endsOnly (s : State) : EndsOnly ReportedWhileValid s.faults (blocksOnClear s).faults :=
  (((headsOnClear_endsOnly s).mono fun _ => .inl).trans
    ((lampsOnClear_endsOnly _).mono fun _ h => .inr (.inl h))).trans
    (((batteryOnClear_endsOnly _).mono fun _ h => .inr (.inr (.inl h))).trans
      ((reportOnClear_endsOnly _).mono fun _ h => .inr (.inr (.inr h))))

/-- What is left of those conditions is over. -/
theorem blocksOnClear_over {s : State} (hd : s.faults.Distinct) {r : FaultRecord} (hr : ReportedWhileValid r) :
    (blocksOnClear s).faults.Over r.code r.subject := by
  have hheads := (headsOnClear_endsOnly s).distinct hd
  have hlamps := lampsOnClear_endsOnly (headsOnClear s)
  have hbattery := batteryOnClear_endsOnly (lampsOnClear (headsOnClear s))
  have hreport := reportOnClear_endsOnly (batteryOnClear (lampsOnClear (headsOnClear s)))
  rcases hr with hr | hr | hr | hr
  · exact hreport.over (hbattery.over (hlamps.over (headsOnClear_over hd hr)))
  · exact hreport.over (hbattery.over (lampsOnClear_over hheads hr))
  · exact hreport.over (batteryOnClear_over (hlamps.distinct hheads) hr)
  · exact reportOnClear_over (hbattery.distinct (hlamps.distinct hheads)) hr

theorem reportedWhileValid_iff (r : FaultRecord) : ReportedWhileValid r ↔
    ((r.code = .headLost ∨ r.code = .headFault) ∧ ∃ k, r.subject = some k ∧ k < 16) ∨
    ((r.code = .lampFail ∨ r.code = .lampStuckOn) ∧ ∃ k, r.subject = some k ∧ k < 12) ∨
    (r.code = .audibleFail ∧ ∃ k, r.subject = some k ∧ k < 2) ∨
    ((r.code = .batteryLow ∨ r.code = .batteryCritical ∨ r.code = .signallerLinkLost) ∧ r.subject = none) := by
  simp only [ReportedWhileValid, ReportedByHeads, ReportedByLamps, ReportedByAudible, ReportedByBattery,
    ReportedByLink, or_and_right, or_assoc]

/-! ## Set by a validation -/

theorem validationPassed_of_valid {d : Derived} {s : State} (h : s.tm.valid = true) :
    validationPassed d s = conditionEnd .tableInvalid none (adoptFigures d s) := if_pos h

theorem validationPassed_of_clear {d : Derived} {s : State} (h : s.tm.valid = false) :
    validationPassed d s = setUpOnValid (conditionEnd .tableInvalid none (adoptFigures d s)) :=
  if_neg (by simp [h])

/-- The record of a head that starts afresh (R3). -/
def unseenSince (now : Time) : HeadRecord :=
  { state := .unseen, lastCount := none, lastSeen := now, wasFaulty := false }

theorem unseenHeads_eq {s : State} {now : Time} (h : s.now = now) :
    unseenHeads s = { s with heads := Vector.replicate 16 (unseenSince now) } := by
  rw [unseenHeads, Vector.map_const', h]
  rfl

/-- The blocks are set up with the tables and the time as they stand. -/
theorem setUpOnValid_eq (s : State) :
    let setUp := setUpSections { produceStatus s with heads := Vector.replicate 16 (unseenSince s.now) }
    setUpOnValid s = { setUp with
      lamp := { setUp.lamp with duty := some s.tm.tables.params.lampBaseDuty }
      report := { setUp.report with linkEnd := some (after s.now s.tm.tables.params.signallerTimeout) } } := by
  intro setUp
  have hnow := (produceStatus_frame s).now (by decide)
  have htold : unseenHeads (produceStatus s) =
      { produceStatus s with heads := Vector.replicate 16 (unseenSince s.now) } :=
    unseenHeads_eq hnow
  have hframe := setUpSections_frame (unseenHeads (produceStatus s))
  have htables := (hframe.tables (by decide)).trans ((produceStatus_frame s).tables (by decide))
  have hnow' := (hframe.now (by decide)).trans hnow
  rw [htold] at htables hnow'
  rw [setUpOnValid, htold, beginSupervision, State.params, htables, hnow']

/-- Settles O46: the flag cleared block by block, and set by a validation that passes. -/
theorem flagChangesReachTheBlocks : Obligations.FlagChangesReachTheBlocks := by
  refine ⟨fun s => ?_, fun d s => ⟨validationPassed_of_valid, fun h => ?_⟩⟩
  · intro u unseen reported
    refine ⟨fun h => if_pos h, fun hl hv => by simp [answeringAddress, hl, hv, Config.serviceAddress],
      fun hl hv => by simp [answeringAddress, hl, hv], fun h => if_neg (by simp [h]), fun hv => ?_⟩
    let t : State := { s with tm := { s.tm with valid := false } }
    have hu : u = blocksOnClear t := clearValid_of_valid hv
    obtain ⟨lamps, dark, test, hcleared, hran, hnot, hlamp⟩ := lampsOnClear_lamp (headsOnClear t)
    rw [(headsOnClear_frame t).lamp (by decide)] at hran hnot hlamp
    have hlamp := (blocksOnClear_lamp t).trans hlamp
    have hends := blocksOnClear_endsOnly t
    rw [hu]
    refine ⟨blocksOnClear_tm t, fun i => ?_, fun i => ?_, fun i => ?_, ?_, ?_, ?_, ?_, blocksOnClear_scan t,
      blocksOnClear_report t, fun r hr => ?_, fun hb r hmem hr => ?_⟩
    · rw [blocksOnClear_heads, headsOnClear_heads]
      simp [unseen, t]
    · rw [hlamp]
      exact hcleared i
    · rw [hlamp]
      simp [t]
    · rw [hlamp]
    · rw [hlamp]
    · rw [hlamp]
      exact hran
    · rw [hlamp]
      exact hnot
    · exact hends.others r fun h => hr ((reportedWhileValid_iff r).1 h)
    · have hd : t.faults.Distinct := hb.keys
      exact blocksOnClear_over hd ((reportedWhileValid_iff r).2 hr) r hmem (isFor_iff.2 ⟨rfl, rfl⟩)
  · have hframe := conditionEnd_frame .tableInvalid none (adoptFigures d s)
    have heq := setUpOnValid_eq (conditionEnd .tableInvalid none (adoptFigures d s))
    rw [hframe.now (by decide), hframe.tables (by decide)] at heq
    rw [validationPassed_of_clear h]
    dsimp only [adoptFigures, State.params, unseenSince] at heq ⊢
    exact heq

end Sys2Proof.Machine
end

section
/-! SUPPORT. The sections moved one after another, each from its own record before the step (R22, R26). -/

namespace Sys2Proof.Machine

set_option Elab.async false

/-- Two lists of operations agree, where those of each index agree on what the earlier ones leave of it. -/
theorem forEach_congr {n : Nat} {f g : Fin n → State → State} {Q : Fin n → State → Prop}
    (h : ∀ i u, Q i u → f i u = g i u) (hstay : ∀ i j u, i ≠ j → Q i u → Q i (f j u)) {s : State}
    (hs : ∀ i, Q i s) : forEach n f s = forEach n g s := by
  have along (l : List (Fin n)) (hl : l.Nodup) (u : State) (hu : ∀ i ∈ l, Q i u) :
      l.foldl (fun u i => f i u) u = l.foldl (fun u i => g i u) u := by
    induction l generalizing u with
    | nil => rfl
    | cons j l ih =>
      obtain ⟨hj, hl⟩ := List.nodup_cons.1 hl
      rw [List.foldl_cons, List.foldl_cons, ← h j u (hu j List.mem_cons_self)]
      exact ih hl (f j u) fun i hi => hstay i j u (fun hij => hj (hij ▸ hi)) (hu i (List.mem_cons_of_mem j hi))
  exact along _ (List.nodup_finRange n) s fun i _ => hs i

/-- The tables and the record of section `i` are those of `s`. -/
def SectionStands (s : State) (i : Fin 8) (u : State) : Prop :=
  u.tm.tables = s.tm.tables ∧ u.sections[i] = s.sections[i]

theorem sectionStands_self (s : State) (i : Fin 8) : SectionStands s i s := ⟨rfl, rfl⟩

/-- A section takes a record; SECTION_DISTURBED becomes active where it was not DISTURBED and is now (R26). -/
theorem changeSection_eq (i : Fin 8) (r : SectionRecord) (u : State) : changeSection i r u =
    if r.state = .disturbed ∧ u.sections[i].state ≠ .disturbed then
      conditionPresent .sectionDisturbed (some i.val) { u with sections := u.sections.set i r }
    else { u with sections := u.sections.set i r } := rfl

theorem changeSection_sections (i : Fin 8) (r : SectionRecord) (u : State) :
    (changeSection i r u).sections = u.sections.set i r := by
  rw [changeSection_eq]
  split
  · exact (conditionPresent_frame ..).sections (by decide)
  · rfl

theorem changeSection_self {i : Fin 8} {r : SectionRecord} {u : State} (h : u.sections[i] = r) :
    changeSection i r u = u := by
  subst h
  rw [changeSection_eq, if_neg fun h => h.2 h.1]
  simp only [Fin.getElem_fin, Vector.set_getElem_self]

theorem changeSection_stands {s u : State} {i j : Fin 8} (hij : i ≠ j) (r : SectionRecord)
    (h : SectionStands s i u) : SectionStands s i (changeSection j r u) := by
  refine ⟨((changeSection_frame j r u).tables (by decide)).trans h.1, ?_⟩
  rw [changeSection_sections]
  exact (Vector.getElem_set_ne _ _ fun hj => hij (Fin.ext hj.symm)).trans h.2

/-- Every section takes the record given. -/
def moveSections (next : Fin 8 → SectionRecord) (s : State) : State :=
  forEach 8 (fun i u => changeSection i (next i) u) s

theorem moveSections_frame (next : Fin 8 → SectionRecord) (s : State) :
    Frame [.sections, .faults, .newFault] s (moveSections next s) :=
  forEach_frame (fun i u => changeSection_frame i (next i) u) s

theorem moveSections_sections (next : Fin 8 → SectionRecord) (s : State) (i : Fin 8) :
    (moveSections next s).sections[i] = next i := by
  refine forEach_establishes (P := fun _ => True) (Q := fun i u => u.sections[i] = next i) (fun _ _ _ => trivial)
    (fun i u _ => ?_) (fun i j u hu => ?_) trivial i
  · rw [changeSection_sections]
    exact Vector.getElem_set_self _
  · rw [changeSection_sections]
    by_cases hij : i = j
    · subst hij
      exact Vector.getElem_set_self _
    · exact (Vector.getElem_set_ne _ _ fun hj => hij (Fin.ext hj.symm)).trans hu

/-- Operations that give each section its new record are the move, if they agree with it while the section stands. -/
theorem moveSections_congr {next : Fin 8 → SectionRecord} {g : Fin 8 → State → State} {s : State}
    (h : ∀ i u, SectionStands s i u → changeSection i (next i) u = g i u) : moveSections next s = forEach 8 g s :=
  forEach_congr h (fun _ j _ hij => changeSection_stands hij (next j)) (sectionStands_self s)

theorem moveSections_self {next : Fin 8 → SectionRecord} {s : State} (h : ∀ i : Fin 8, next i = s.sections[i]) :
    moveSections next s = s := by
  refine (moveSections_congr (g := fun _ u => u) fun i u hu => changeSection_self (hu.2.trans (h i).symm)).trans ?_
  exact forEach_keeps (P := fun u => u = s) (fun _ _ hu => hu) rfl

end Sys2Proof.Machine
end

section
/-! SUPPORT. The report of a step (R25). -/

namespace Sys2Proof.Machine

set_option Elab.async false

/-- A section is free in CLEAR, and in RESTORING at count 0 (R21). -/
theorem SectionRecord.free_eq (r : SectionRecord) :
    r.free = decide (r.state = .clear ∨ r.state = .restoring ∧ r.count = some 0) := by
  obtain ⟨state, count, raised⟩ := r
  cases state <;> simp [SectionRecord.free, beq_eq_decide]

/-- The report lists the in-service sections whose state or freedom has changed. -/
theorem sectionListed_eq (before s : State) (i : Fin 8) : sectionListed before s i =
    (s.tm.tables.sectionTable[i].inService && decide (before.sections[i].state ≠ s.sections[i].state ∨
      before.sections[i].free ≠ s.sections[i].free)) := by
  exact congrArg _ (Bool.eq_iff_iff.2 (by simp))

theorem sectionReport_entries (cause : ReportCause) (before s : State) : (sectionReport cause before s).entries =
    ((List.finRange 8).filter (sectionListed before s)).map fun i =>
      { index := i.val, stateBefore := before.sections[i].state, stateAfter := s.sections[i].state,
        countAfter := s.sections[i].count, freeBefore := before.sections[i].free,
        freeAfter := s.sections[i].free } := by
  rw [sectionReport, ← List.filterMap_eq_map, List.filterMap_filter]
  rfl

theorem entries_eq_nil_iff (cause : ReportCause) (before s : State) :
    (sectionReport cause before s).entries = [] ↔ ∀ i, sectionListed before s i = false := by
  rw [sectionReport_entries, List.map_eq_nil_iff, List.filter_eq_nil_iff]
  simp

/-- Nothing listed, no report. -/
theorem handReport_of_none {before s : State} (h : ∀ i, sectionListed before s i = false) (cause : ReportCause) :
    handReport cause before s = s := by
  unfold handReport
  dsimp only
  rw [(entries_eq_nil_iff cause before s).2 h]
  rfl

theorem handReport_of_some {before s : State} (h : ∃ i, sectionListed before s i = true) (cause : ReportCause) :
    handReport cause before s = crossingTurn before (approachReports (sectionReport cause before s) s) := by
  have hne : (sectionReport cause before s).entries ≠ [] := fun hnil => by
    obtain ⟨i, hi⟩ := h
    exact absurd ((entries_eq_nil_iff cause before s).1 hnil i) (by simp [hi])
  unfold handReport
  exact if_neg (by simpa using hne)

theorem handReport_self (cause : ReportCause) (s : State) : handReport cause s s = s :=
  handReport_of_none (fun i => by simp [sectionListed_eq]) cause

theorem handReport_sections (cause : ReportCause) (before s : State) :
    (handReport cause before s).sections = s.sections := (handReport_frame ..).sections (by decide)

end Sys2Proof.Machine
end

section
/-! What disturbance, a wheel and the setting up make of the sections, and the report of it (R12, R20 to R26). -/

namespace Sys2Proof.Machine

set_option Elab.async false

/-! ## A disturb request (R12, R26) -/

/-- The record of each section after a disturb request for a head. -/
def disturbNext (head : Fin 16) (s : State) (i : Fin 8) : SectionRecord :=
  if (s.sectionEntry i).inService && ((s.sectionEntry i).boundaryAt head.val).isSome then s.sections[i].disturb
  else s.sections[i]

theorem disturbSections_eq (head : Fin 16) (s : State) :
    disturbSections head s = handReport .disturb s (moveSections (disturbNext head s) s) := by
  rw [moveSections_congr (g := fun i u =>
    let e := u.sectionEntry i
    if e.inService && (e.boundaryAt head.val).isSome then changeSection i u.sections[i].disturb u else u)]
  · rfl
  · rintro i u ⟨htables, hsection⟩
    have hentry : u.sectionEntry i = s.sectionEntry i := by rw [State.sectionEntry, htables]; rfl
    rw [hentry, hsection, disturbNext]
    dsimp only
    split
    · rfl
    · exact changeSection_self hsection

theorem disturbSections_sections (head : Fin 16) (s : State) (i : Fin 8) :
    (disturbSections head s).sections[i] = disturbNext head s i := by
  rw [disturbSections_eq, handReport_sections, moveSections_sections]

theorem boundaryAt_isSome_iff (e : SectionEntry) (head : Nat) :
    (e.boundaryAt head).isSome = true ↔ ∃ b ∈ e.boundaries, b.head = head := by
  simp [SectionEntry.boundaryAt, List.find?_isSome]

theorem disturb_of_other {r : SectionRecord} (h : r.state ≠ .disturbed) : r.disturb = .asDisturbed := by
  unfold SectionRecord.disturb
  cases hr : r.state <;> first | rfl | exact absurd hr h

theorem disturb_of_disturbed {r : SectionRecord} (h : r.state = .disturbed) : r.disturb = r := by
  simp only [SectionRecord.disturb, h]

/-- A section is named in a disturb request: in service, bounded by the head, and not DISTURBED already. -/
def DisturbNames (head : Fin 16) (s : State) (i : Fin 8) : Prop :=
  (s.tm.tables.sectionTable[i].inService = true ∧
    ∃ b ∈ s.tm.tables.sectionTable[i].boundaries, b.head = head.val) ∧ s.sections[i].state ≠ .disturbed

theorem disturbNext_of_named {head : Fin 16} {s : State} {i : Fin 8} (h : DisturbNames head s i) :
    disturbNext head s i = .asDisturbed := by
  obtain ⟨⟨hserv, hbound⟩, hstate⟩ := h
  have hb := (boundaryAt_isSome_iff (s.sectionEntry i) head.val).2 hbound
  exact (if_pos (Bool.and_eq_true_iff.2 ⟨hserv, hb⟩)).trans (disturb_of_other hstate)

theorem disturbNext_of_not_named {head : Fin 16} {s : State} {i : Fin 8} (h : ¬ DisturbNames head s i) :
    disturbNext head s i = s.sections[i] := by
  unfold disturbNext
  split
  next hb =>
    obtain ⟨hserv, hb⟩ := Bool.and_eq_true_iff.1 hb
    refine disturb_of_disturbed ?_
    by_contra hstate
    exact h ⟨⟨hserv, (boundaryAt_isSome_iff ..).1 hb⟩, hstate⟩
  next => rfl

theorem disturbSections_of_none {head : Fin 16} {s : State} (h : ∀ i, ¬ DisturbNames head s i) :
    disturbSections head s = s := by
  rw [disturbSections_eq, moveSections_self fun i => disturbNext_of_not_named (h i), handReport_self]

/-- The move, with the sections named written out. -/
theorem disturbSections_chosen {head : Fin 16} {s : State} {chosen : Fin 8 → Bool}
    (h : ∀ i, chosen i = true ↔ DisturbNames head s i) :
    disturbSections head s = handReport .disturb s (forEach 8 (fun i u =>
      if chosen i then conditionPresent .sectionDisturbed (some i.val)
        { u with sections := u.sections.set i .asDisturbed } else u) s) := by
  rw [disturbSections_eq, moveSections_congr]
  rintro i u ⟨-, hsection⟩
  split
  next hc =>
    have hnamed := (h i).1 hc
    rw [disturbNext_of_named hnamed, changeSection_eq, if_pos ⟨rfl, by rw [hsection]; exact hnamed.2⟩]
  next hc =>
    rw [disturbNext_of_not_named fun hn => hc ((h i).2 hn)]
    exact changeSection_self hsection

/-! ## The setting up (R20) -/

theorem setUpSections_eq (s : State) : setUpSections s = handReport .setup s (forEach 8 (fun i u =>
    if s.tm.tables.sectionTable[i].inService then conditionPresent .sectionDisturbed (some i.val) u
    else conditionEnd .sectionDisturbed (some i.val) u)
    { s with sections := Vector.replicate 8 .asDisturbed }) := by
  have hstep : ∀ (i : Fin 8) (u : State), u.tm.tables = s.tm.tables →
      (if (u.sectionEntry i).inService then conditionPresent .sectionDisturbed (some i.val) u
        else conditionEnd .sectionDisturbed (some i.val) u) =
      if s.tm.tables.sectionTable[i].inService then conditionPresent .sectionDisturbed (some i.val) u
        else conditionEnd .sectionDisturbed (some i.val) u := by
    intro i u hu
    rw [State.sectionEntry, hu]
  unfold setUpSections
  rw [Vector.map_const']
  refine congrArg (handReport .setup s) (forEach_congr (Q := fun _ u => u.tm.tables = s.tm.tables) hstep ?_
    fun _ => rfl)
  intro i j u _ hu
  rw [hstep j u hu]
  split
  · exact ((conditionPresent_frame ..).tables (by decide)).trans hu
  · exact ((conditionEnd_frame ..).tables (by decide)).trans hu

theorem setUpSections_sections (s : State) (i : Fin 8) : (setUpSections s).sections[i] = .asDisturbed := by
  have hkeep := forEach_frame (ps := [.faults, .newFault, .handed]) (n := 8) (f := fun i u =>
    if s.tm.tables.sectionTable[i].inService then conditionPresent .sectionDisturbed (some i.val) u
    else conditionEnd .sectionDisturbed (some i.val) u)
    (fun i u => .ite (conditionPresent_frame ..) ((conditionEnd_frame ..).mono (by decide)))
    { s with sections := Vector.replicate 8 .asDisturbed }
  rw [setUpSections_eq, handReport_sections, hkeep.sections (by decide)]
  exact Vector.getElem_replicate _

/-! ## A wheel (R22) -/

/-- The record of each section after a wheel. -/
def wheelNext (w : WheelEvent) (s : State) (i : Fin 8) : SectionRecord :=
  if (s.sectionEntry i).inService then
    match (s.sectionEntry i).boundaryAt w.head.val with
    | some b => s.sections[i].wheel (b.entering == w.direction)
    | none => s.sections[i]
  else s.sections[i]

theorem sectionWheel_eq (w : WheelEvent) (s : State) :
    let moved := moveSections (wheelNext w s) s
    sectionWheel w s = handReport (.wheel w.head w.direction w.arrival (sectionsEntered w s moved)) s moved := by
  intro moved
  have hmoved : moved = forEach 8 (fun i u =>
      let e := u.sectionEntry i
      if !e.inService then u
      else match e.boundaryAt w.head.val with
        | some b => changeSection i (u.sections[i].wheel (b.entering == w.direction)) u
        | none => u) s := by
    refine moveSections_congr ?_
    rintro i u ⟨htables, hsection⟩
    have hentry : u.sectionEntry i = s.sectionEntry i := by rw [State.sectionEntry, htables]; rfl
    rw [hentry, hsection, wheelNext]
    dsimp only
    cases hserv : (s.sectionEntry i).inService with
    | false => exact changeSection_self hsection
    | true =>
      cases (s.sectionEntry i).boundaryAt w.head.val with
      | none => exact changeSection_self hsection
      | some b => rfl
  rw [hmoved]
  rfl

theorem sectionWheel_sections (w : WheelEvent) (s : State) (i : Fin 8) :
    (sectionWheel w s).sections[i] = wheelNext w s i := by
  rw [sectionWheel_eq, handReport_sections, moveSections_sections]

/-- The sections that the report names as entered, from the records before and after. -/
theorem sectionsEntered_moved (w : WheelEvent) (next : Fin 8 → SectionRecord) (s : State) :
    sectionsEntered w s (moveSections next s) = ((List.finRange 8).filter fun i =>
      (s.tm.tables.sectionTable[i].inService &&
        decide (s.sections[i].state ≠ (next i).state ∨ s.sections[i].free ≠ (next i).free)) &&
      (s.tm.tables.sectionTable[i].boundaries.find? (·.head == w.head.val)).any (·.entering == w.direction)).map
        (·.val) := by
  have htables := (moveSections_frame next s).tables (by decide)
  simp only [sectionsEntered, sectionListed_eq, State.sectionEntry, SectionEntry.boundaryAt, htables,
    moveSections_sections]

/-- Settles O31: the move by the disturb request, the setting up and the wheel, and the report of a step. -/
theorem sectionsAreDisturbedAndReported : Obligations.SectionsAreDisturbedAndReported := by
  refine ⟨fun head s => ⟨fun i => ⟨fun h => ?_, fun h => ?_⟩, disturbSections_of_none,
    fun chosen => disturbSections_chosen⟩, fun s => ⟨setUpSections_sections s, setUpSections_eq s⟩, ?_, ?_⟩
  · exact (disturbSections_sections head s i).trans (disturbNext_of_named h)
  · exact (disturbSections_sections head s i).trans (disturbNext_of_not_named h)
  · intro w s entered next free listed entering hentered hnext
    obtain rfl : next = wheelNext w s := funext fun i => (hnext i).trans (sectionWheel_sections w s i)
    have hfree (r : SectionRecord) : free r = r.free := r.free_eq.symm
    have hsame : entered = sectionsEntered w s (moveSections (wheelNext w s) s) := by
      rw [hentered, sectionsEntered_moved]
      simp only [listed, entering, hfree]
    rw [hsame, sectionWheel_eq]
    refine congrArg (handReport _ s) (moveSections_congr fun i u hu => ?_)
    rw [changeSection_eq, hu.2]
  · intro cause before s free listed report
    have hfree (r : SectionRecord) : free r = r.free := r.free_eq.symm
    have hlisted : listed = sectionListed before s := by
      funext i
      simp only [listed, sectionListed_eq, hfree]
    have hreport : sectionReport cause before s = report := by
      have hentries := sectionReport_entries cause before s
      simp only [report, hlisted, hfree]
      rw [← hentries]
      rfl
    rw [hlisted, ← hreport]
    exact ⟨fun h => handReport_of_none h cause, fun h => handReport_of_some h cause⟩

end Sys2Proof.Machine
end

section
/-! SUPPORT. The completion of a command whose general checks pass (R171, R172). -/

namespace Sys2Proof.Machine

set_option Elab.async false

/-- A role is held where an in-service NODE entry gives it (R172). -/
theorem holdsRole_iff (s : State) (source : Nat) (role : Role) :
    holdsRole s.tm.tables source role = true ↔ HasRole s source role := by
  rw [holdsRole, any_toList_iff]
  simp only [HasRole, Bool.and_eq_true, beq_iff_eq, and_assoc]

/-- A command in the processor that can be answered, named by its code. -/
theorem Processes.completing_eq {s : State} {q : QueuedCommand} {code : Byte} {args : List Byte}
    (h : Processes s q code args) : completing s = some q := by
  obtain ⟨-, hproc, hrestart, -⟩ := h
  simp [completing, hproc, hrestart]

theorem Processes.answerable {s : State} {q : QueuedCommand} {code : Byte} {args : List Byte}
    (h : Processes s q code args) : q.answerable = true := by
  obtain ⟨-, -, -, hzero, hservice, hall, tag, hpayload⟩ := h
  simp [QueuedCommand.answerable, sourceAnswers, Config.serviceAddress, Config.allAddress, hpayload, hzero,
    hservice, hall]

theorem Processes.named_eq {s : State} {q : QueuedCommand} {code : Byte} {args : List Byte}
    (h : Processes s q code args) : q.named = Command.fromCode code.toNat := by
  obtain ⟨-, -, -, -, -, -, tag, hpayload⟩ := h
  simp [QueuedCommand.named, read8, hpayload]

theorem Processes.payload_length {s : State} {q : QueuedCommand} {code : Byte} {args : List Byte}
    (h : Processes s q code args) : q.payload.length = args.length + 2 := by
  obtain ⟨-, -, -, -, -, -, tag, hpayload⟩ := h
  simp [hpayload]

theorem Processes.arg_eq {s : State} {q : QueuedCommand} {code : Byte} {args : List Byte}
    (h : Processes s q code args) (n : Nat) : q.arg n = (args.getD n 0).toNat := by
  obtain ⟨-, -, -, -, -, -, tag, hpayload⟩ := h
  simp [QueuedCommand.arg, read8, hpayload, Nat.add_comm 2 n]

/-- The general checks of a signaller command pass (R171, R172). -/
theorem BySignaller.generalCheck_eq {s : State} {q : QueuedCommand} {code : Byte} {args : List Byte}
    (h : BySignaller s q code args) {c : Command} (hcls : c.cls = .signaller)
    (hlength : c.lengthFits (args.length + 2) = true) : generalCheck c q s = none := by
  obtain ⟨hproc, hrole, hvalid⟩ := h
  simp [generalCheck, authorised, hcls, (holdsRole_iff ..).2 hrole, hvalid, hproc.payload_length, hlength]

/-- A command whose general checks pass does its own work, on the part at the time of the event, and is answered. -/
theorem complete_of_processes {s : State} {q : QueuedCommand} {code : Byte} {args : List Byte}
    (h : Processes s q code args) {c : Command} (hcode : Command.fromCode code.toNat = some c)
    {own : QueuedCommand → State → Answered} {dt : Time} (hcheck : generalCheck c q (s.advance dt) = none) :
    complete c own (s.advance dt) =
      let a := own q (s.advance dt)
      answered q a.code a.data a.state := by
  have hcompleting : completing (s.advance dt) = some q := h.completing_eq
  simp [complete, hcompleting, h.answerable, h.named_eq, hcode, hcheck, answered]

/-- The event of a signaller command whose general checks pass. -/
theorem BySignaller.event_eq {s : State} {q : QueuedCommand} {code : Byte} {args : List Byte}
    (h : BySignaller s q code args) {c : Command} (hcode : Command.fromCode code.toNat = some c)
    (hcls : c.cls = .signaller) (hlength : c.lengthFits (args.length + 2) = true)
    {own : QueuedCommand → State → Answered} {dt : Time} {reply : ReplyCode} {data : List Byte} {u : State}
    (hown : own q (s.advance dt) = { state := u, code := reply, data := data }) :
    event dt (complete c own) s = finish (s.advance dt) (answered q reply data u) := by
  have hnow : BySignaller (s.advance dt) q code args := h
  rw [event_of_running h.1.1, complete_of_processes h.1 hcode (hnow.generalCheck_eq hcls hlength), hown]

end Sys2Proof.Machine
end

section
/-! RESET_SECTION and DEPART (R27, R28, R49, R53). -/

namespace Sys2Proof.Machine

set_option Elab.async false

/-! ## RESET_SECTION -/

/-- A boundary head of the section is LOST or FAULTY (R27). -/
def BoundaryGone (s : State) (e : SectionEntry) : Prop :=
  ∃ b ∈ e.boundaries, ∃ h : b.head < 16, s.heads[b.head].state = .lost ∨ s.heads[b.head].state = .faulty

theorem boundaryGone_iff (s : State) (e : SectionEntry) : boundaryGone s e = true ↔ BoundaryGone s e := by
  rw [boundaryGone, List.any_eq_true]
  refine exists_congr fun b => and_congr_right fun _ => ?_
  by_cases h : b.head < 16 <;> simp [h]

section
variable {q : QueuedCommand} {s : State} {i : Fin 8} (hi : i.val = q.arg 0)
include hi

theorem ownResetSection_at : ownResetSection q s =
    if !(s.sectionEntry i).inService then refuse .refusedArgument s
    else if s.sections[i].state != .disturbed then refuse .refusedState s
    else if boundaryGone s (s.sectionEntry i) then refuse .refusedState s
    else answer .done (resetSectionRecord i s) := by
  have hlt : q.arg 0 < 8 := hi ▸ i.isLt
  obtain rfl : i = ⟨q.arg 0, hlt⟩ := Fin.ext hi
  rw [ownResetSection, dif_pos hlt]

theorem ownResetSection_outOfService (hserv : (s.sectionEntry i).inService = false) :
    ownResetSection q s = refuse .refusedArgument s := by
  rw [ownResetSection_at hi, hserv]; rfl

theorem ownResetSection_refusedState (hserv : (s.sectionEntry i).inService = true)
    (h : s.sections[i].state ≠ .disturbed ∨ BoundaryGone s (s.sectionEntry i)) :
    ownResetSection q s = refuse .refusedState s := by
  rw [ownResetSection_at hi, hserv]
  by_cases hstate : s.sections[i].state = .disturbed
  · rw [(boundaryGone_iff ..).2 (h.resolve_left fun hn => hn hstate), hstate]; rfl
  · rw [bne_iff_ne.2 hstate]; rfl

theorem ownResetSection_resets (hserv : (s.sectionEntry i).inService = true)
    (hstate : s.sections[i].state = .disturbed) (hgone : ¬ BoundaryGone s (s.sectionEntry i)) :
    ownResetSection q s = answer .done (resetSectionRecord i s) := by
  have hpresent : boundaryGone s (s.sectionEntry i) = false := by
    simpa using mt (boundaryGone_iff ..).1 hgone
  rw [ownResetSection_at hi, hserv, hpresent, hstate]; rfl

end

theorem ownResetSection_past {q : QueuedCommand} (h : 8 ≤ q.arg 0) (s : State) :
    ownResetSection q s = refuse .refusedArgument s := by
  rw [ownResetSection, dif_neg (by omega)]

/-- The record of a section that is reset (R28). -/
def SectionRecord.asReset : SectionRecord := { state := .restoring, count := some 0, raised := false }

/-- The part after a section has been reset, before its report (R28). -/
def resetSection (i : Fin 8) (s : State) : State :=
  eventEntered .sectionReset (some i.val) none (conditionEnd .sectionDisturbed (some i.val)
    { s with sections := s.sections.set i .asReset })

theorem resetSection_frame (i : Fin 8) (s : State) :
    Frame [.faults, .newFault] { s with sections := s.sections.set i .asReset } (resetSection i s) :=
  ((conditionEnd_frame ..).mono (by decide)).step (eventEntered_frame ..)

theorem resetSection_sections (i : Fin 8) (s : State) :
    (resetSection i s).sections = s.sections.set i .asReset :=
  (resetSection_frame i s).sections (by decide)

theorem resetSection_tables (i : Fin 8) (s : State) : (resetSection i s).tm.tables = s.tm.tables :=
  (resetSection_frame i s).tables (by decide)

/-- Of a DISTURBED section in service that is reset, and of no other, the report tells. -/
theorem sectionListed_resetSection {i : Fin 8} {s : State} (hserv : (s.sectionEntry i).inService = true)
    (hstate : s.sections[i].state = .disturbed) (j : Fin 8) :
    sectionListed s (resetSection i s) j = decide (j = i) := by
  rw [sectionListed_eq, resetSection_tables, resetSection_sections]
  by_cases hji : j = i
  · subst hji
    have hserv' : s.tm.tables.sectionTable[j].inService = true := hserv
    have hset : (s.sections.set j .asReset)[j] = .asReset := Vector.getElem_set_self _
    rw [hserv', hset, hstate]
    simp [SectionRecord.asReset]
  · have hset : (s.sections.set i .asReset)[j] = s.sections[j] :=
      Vector.getElem_set_ne _ _ fun hij => hji (Fin.ext hij.symm)
    rw [hset]
    simp [hji]

theorem resetSection_report {i : Fin 8} {s : State} (hserv : (s.sectionEntry i).inService = true)
    (hstate : s.sections[i].state = .disturbed) : sectionReport .reset s (resetSection i s) =
    { cause := .reset
      entries := [
        { index := i.val, stateBefore := .disturbed, stateAfter := .restoring, countAfter := some 0,
          freeBefore := false, freeAfter := true }] } := by
  have hlisted : (List.finRange 8).filter (sectionListed s (resetSection i s)) = [i] := by
    rw [funext (sectionListed_resetSection hserv hstate)]
    clear hserv hstate
    decide +revert
  have hset : (s.sections.set i .asReset)[i] = .asReset := Vector.getElem_set_self _
  have hfree : s.sections[i].free = false := by rw [SectionRecord.free_eq, hstate]; simp
  have hentries := sectionReport_entries .reset s (resetSection i s)
  rw [hlisted, resetSection_sections, List.map_singleton, hset, hstate, hfree] at hentries
  exact congrArg (SectionReport.mk .reset) hentries

/-- The section becomes RESTORING, and its report goes to the Approach Timer and the crossing (R25, R28). -/
theorem resetSectionRecord_eq {i : Fin 8} {s : State} (hserv : (s.sectionEntry i).inService = true)
    (hstate : s.sections[i].state = .disturbed) : resetSectionRecord i s =
    crossingTurn s (approachReports
      { cause := .reset
        entries := [
          { index := i.val, stateBefore := .disturbed, stateAfter := .restoring, countAfter := some 0,
            freeBefore := false, freeAfter := true }] } (resetSection i s)) := by
  rw [← resetSection_report hserv hstate]
  exact handReport_of_some ⟨i, (sectionListed_resetSection hserv hstate i).trans (by simp)⟩ .reset

/-! ## DEPART -/

section
variable {q : QueuedCommand} {s : State} {i : Fin 4} (hi : i.val = q.arg 0)
include hi

theorem ownDepart_at : ownDepart q s =
    if !(s.approachEntry i).inService then refuse .refusedArgument s
    else if s.approaches[i].state = .deferred then answer .done (strike i .depart s)
    else answer .noEffect s := by
  have hlt : q.arg 0 < 4 := hi ▸ i.isLt
  obtain rfl : i = ⟨q.arg 0, hlt⟩ := Fin.ext hi
  rw [ownDepart, dif_pos hlt]

theorem ownDepart_outOfService (hserv : (s.approachEntry i).inService = false) :
    ownDepart q s = refuse .refusedArgument s := by
  rw [ownDepart_at hi, hserv]; rfl

theorem ownDepart_other (hserv : (s.approachEntry i).inService = true) (hstate : s.approaches[i].state ≠ .deferred) :
    ownDepart q s = answer .noEffect s := by
  rw [ownDepart_at hi, hserv, if_neg hstate]; rfl

theorem ownDepart_deferred (hserv : (s.approachEntry i).inService = true)
    (hstate : s.approaches[i].state = .deferred) : ownDepart q s = answer .done (strike i .depart s) := by
  rw [ownDepart_at hi, hserv, if_pos hstate]; rfl

end

theorem ownDepart_past {q : QueuedCommand} (h : 4 ≤ q.arg 0) (s : State) :
    ownDepart q s = refuse .refusedArgument s := by
  rw [ownDepart, dif_neg (by omega)]

/-- Settles O16: each command by its own checks in order, then what its effect is. -/
theorem sectionsAreResetAndApproachesDepart : Obligations.SectionsAreResetAndApproachesDepart := by
  refine ⟨fun s q dt arg hq => ?_, fun s q dt arg hq => ?_⟩
  · have harg : q.arg 0 = arg.toNat := hq.1.arg_eq 0
    have hexec {reply : ReplyCode} {u : State}
        (hown : ownResetSection q (s.advance dt) = { state := u, code := reply, data := [] }) :
        exec (.resetSection dt) s = .next (finish (s.advance dt) (answered q reply [] u)) :=
      congrArg Host.Outcome.next (hq.event_eq (c := .resetSection) rfl rfl rfl hown)
    refine ⟨fun hpast => hexec (ownResetSection_past (by omega) _), fun i hi => ?_⟩
    have hi : i.val = q.arg 0 := hi.trans harg.symm
    exact ⟨fun hserv => hexec (ownResetSection_outOfService (s := s.advance dt) hi hserv),
      fun hserv hrefused => hexec (ownResetSection_refusedState (s := s.advance dt) hi hserv hrefused),
      fun hserv hstate hgone => hexec ((ownResetSection_resets (s := s.advance dt) hi hserv hstate hgone).trans
        (congrArg (answer .done) (resetSectionRecord_eq (s := s.advance dt) hserv hstate)))⟩
  · have harg : q.arg 0 = arg.toNat := hq.1.arg_eq 0
    have hexec {reply : ReplyCode} {u : State}
        (hown : ownDepart q (s.advance dt) = { state := u, code := reply, data := [] }) :
        exec (.depart dt) s = .next (finish (s.advance dt) (answered q reply [] u)) :=
      congrArg Host.Outcome.next (hq.event_eq (c := .depart) rfl rfl rfl hown)
    refine ⟨fun hpast => hexec (ownDepart_past (by omega) _), fun i hi => ?_⟩
    have hi : i.val = q.arg 0 := hi.trans harg.symm
    refine ⟨fun hserv => hexec (ownDepart_outOfService (s := s.advance dt) hi hserv),
      fun hserv hstate => hexec (ownDepart_other (s := s.advance dt) hi hserv hstate), fun hserv hstate => ?_⟩
    have hstruck : s.approaches[i].state ≠ .struck := by rw [hstate]; decide
    exact hexec ((ownDepart_deferred (s := s.advance dt) hi hserv hstate).trans
      (congrArg (answer .done) (strike_eq (s := s.advance dt) hstruck (by decide))))

end Sys2Proof.Machine
end

section
/-! The rows of R22 to R24: what a wheel makes of one section. -/

namespace Sys2Proof.Machine

set_option Elab.async false

/-! ## The section, by the boundary that the head forms of it -/

theorem wheelNext_of_boundary {w : WheelEvent} {s : State} {i : Fin 8} {b : Boundary}
    (hserv : s.tm.tables.sectionTable[i].inService = true)
    (hb : s.tm.tables.sectionTable[i].boundaries.find? (·.head == w.head.val) = some b) :
    wheelNext w s i = s.sections[i].wheel (b.entering == w.direction) := by
  have hserv : (s.sectionEntry i).inService = true := hserv
  have hb : (s.sectionEntry i).boundaryAt w.head.val = some b := hb
  simp only [wheelNext, hserv, hb, if_true]

theorem wheelNext_of_unbounded {w : WheelEvent} {s : State} {i : Fin 8}
    (h : s.tm.tables.sectionTable[i].inService = false ∨
      ∀ b ∈ s.tm.tables.sectionTable[i].boundaries, b.head ≠ w.head.val) : wheelNext w s i = s.sections[i] := by
  obtain hserv | hnone := h
  · have hserv : (s.sectionEntry i).inService = false := hserv
    simp [wheelNext, hserv]
  · have hb : (s.sectionEntry i).boundaryAt w.head.val = none :=
      List.find?_eq_none.2 fun b hb => by simpa using hnone b hb
    simp [wheelNext, hb]

/-! ## The rows -/

theorem SectionRecord.wheel_clear {r : SectionRecord} (h : r.state = .clear) (enters : Bool) : r.wheel enters =
    if enters then { state := .occupied, count := some 1, raised := false } else .asDisturbed := by
  simp only [SectionRecord.wheel, h]

theorem SectionRecord.wheel_disturbed {r : SectionRecord} (h : r.state = .disturbed) (enters : Bool) :
    r.wheel enters = r := by
  simp only [SectionRecord.wheel, h]

theorem SectionRecord.wheel_occupied_enters (n : Nat) (raised : Bool) :
    SectionRecord.wheel { state := .occupied, count := some n, raised := raised } true =
      if n < 254 then { state := .occupied, count := some (n + 1), raised := raised } else .asDisturbed := rfl

theorem SectionRecord.wheel_occupied_leaves (n : Nat) (raised : Bool) :
    SectionRecord.wheel { state := .occupied, count := some n, raised := raised } false =
      if n ≤ 1 then { state := .clear, count := some 0, raised := false }
      else { state := .occupied, count := some (n - 1), raised := raised } := rfl

theorem SectionRecord.wheel_restoring_enters (n : Nat) (raised : Bool) :
    SectionRecord.wheel { state := .restoring, count := some n, raised := raised } true =
      if n < 254 then { state := .restoring, count := some (n + 1), raised := true } else .asDisturbed := rfl

theorem SectionRecord.wheel_restoring_leaves (n : Nat) (raised : Bool) :
    SectionRecord.wheel { state := .restoring, count := some n, raised := raised } false =
      if n = 0 then .asDisturbed
      else if n = 1 then { state := .clear, count := some 0, raised := false }
      else { state := .restoring, count := some (n - 1), raised := raised } := rfl

/-- Settles O30: the boundary gives the direction, and each state of the section its row of R22. -/
theorem sectionsCountWheels : Obligations.SectionsCountWheels := by
  intro w s i
  refine ⟨fun h => (sectionWheel_sections w s i).trans (wheelNext_of_unbounded h), fun b hserv hb => ?_⟩
  have hafter := (sectionWheel_sections w s i).trans (wheelNext_of_boundary hserv hb)
  refine ⟨fun henters => ?_, fun hleaves => ?_⟩
  · rw [beq_iff_eq.2 henters] at hafter
    refine ⟨fun hstate => hafter.trans (SectionRecord.wheel_clear hstate true), fun n raised hr => ?_,
      fun n raised hr => ?_, fun hstate => hafter.trans (SectionRecord.wheel_disturbed hstate true)⟩
    · rw [hr, SectionRecord.wheel_occupied_enters] at hafter
      exact ⟨fun hn => hafter.trans (if_pos hn), fun hn => hafter.trans (if_neg (by omega))⟩
    · rw [hr, SectionRecord.wheel_restoring_enters] at hafter
      exact ⟨fun hn => hafter.trans (if_pos hn), fun hn => hafter.trans (if_neg (by omega))⟩
  · rw [beq_eq_false_iff_ne.2 hleaves] at hafter
    refine ⟨fun hstate => hafter.trans (SectionRecord.wheel_clear hstate false), fun n raised hr => ?_,
      fun n raised hr => ?_, fun hstate => hafter.trans (SectionRecord.wheel_disturbed hstate false)⟩
    · rw [hr, SectionRecord.wheel_occupied_leaves] at hafter
      exact ⟨fun hn => hafter.trans (if_neg (by omega)), fun hn => hafter.trans (if_pos (by omega))⟩
    · rw [hr, SectionRecord.wheel_restoring_leaves] at hafter
      exact ⟨fun hn => hafter.trans ((if_neg (by omega)).trans (if_neg (by omega))),
        fun hn => hafter.trans ((if_neg (by omega)).trans (if_pos hn)), fun hn => hafter.trans (if_pos hn)⟩

end Sys2Proof.Machine
end

section
/-! The status content and its 25 bytes (R151, 11.4). -/

namespace Sys2Proof.Machine

set_option Elab.async false

/-! ## The content (R21, R30, R151) -/

/-- A fault of the class is present: its record is ACTIVE or ACCEPTED_ACTIVE (R151). -/
def FaultPresent (rs : List FaultRecord) (cls : FaultClass) : Prop :=
  ∃ r ∈ rs, r.state ≠ .latched ∧ r.code.cls = cls

theorem any_present_iff (rs : List FaultRecord) (cls : FaultClass) :
    ((rs.filter fun r => r.state != .latched).any (·.code.cls == cls)) = true ↔ FaultPresent rs cls := by
  simp [FaultPresent, List.any_filter]

theorem highestClass_alarm {rs : List FaultRecord} (h : FaultPresent rs .alarm) : highestClass rs = .alarm :=
  if_pos ((any_present_iff rs .alarm).2 h)

theorem highestClass_degraded {rs : List FaultRecord} (ha : ¬ FaultPresent rs .alarm)
    (h : FaultPresent rs .degraded) : highestClass rs = .degraded := by
  rw [← any_present_iff] at ha h
  exact (if_neg ha).trans (if_pos h)

theorem highestClass_notice {rs : List FaultRecord} (ha : ¬ FaultPresent rs .alarm)
    (hd : ¬ FaultPresent rs .degraded) (h : FaultPresent rs .notice) : highestClass rs = .notice := by
  rw [← any_present_iff] at ha hd h
  exact (if_neg ha).trans ((if_neg hd).trans (if_pos h))

theorem highestClass_none {rs : List FaultRecord} (ha : ¬ FaultPresent rs .alarm)
    (hd : ¬ FaultPresent rs .degraded) (hn : ¬ FaultPresent rs .notice) : highestClass rs = .none := by
  rw [← any_present_iff] at ha hd hn
  exact (if_neg ha).trans ((if_neg hd).trans (if_neg hn))

/-- The highest class of the content (R151). -/
theorem statusContent_highest (s : State) :
    let c := statusContent s
    let present := FaultPresent s.faults.records
    (present .alarm → c.highest = .alarm) ∧ (¬ present .alarm → present .degraded → c.highest = .degraded) ∧
      (¬ present .alarm → ¬ present .degraded → present .notice → c.highest = .notice) ∧
      (¬ present .alarm → ¬ present .degraded → ¬ present .notice → c.highest = .none) :=
  ⟨highestClass_alarm, highestClass_degraded, highestClass_notice, highestClass_none⟩

theorem countState_eq (rs : List FaultRecord) (state : RecordState) :
    countState rs state = (rs.filter fun r => decide (r.state = state)).length := by
  rw [countState, List.countP_eq_length_filter]
  rfl

theorem statusContent_approach (s : State) (i : Fin 4) : (statusContent s).approaches[i] =
    if s.tm.tables.approach[i].inService then some s.approaches[i].state else none :=
  Vector.getElem_ofFn i.isLt

theorem statusContent_section (s : State) (i : Fin 8) :
    (statusContent s).sections[i] = sectionStatus s.tm.tables.sectionTable[i] s.sections[i] :=
  Vector.getElem_ofFn i.isLt

theorem sectionStatus_outOfService {e : SectionEntry} (h : e.inService = false) (r : SectionRecord) :
    sectionStatus e r = .outOfService := by
  simp only [sectionStatus, h]; rfl

theorem sectionStatus_inService {e : SectionEntry} (h : e.inService = true) (r : SectionRecord) :
    sectionStatus e r = match r.state with
      | .clear => .clear
      | .occupied => .occupied
      | .disturbed => .disturbed
      | .restoring => if r.count = some 0 then .restoringZero else .restoringAbove := by
  simp only [sectionStatus, h]; rfl

theorem sourceAddress_of_answering {s : State} {a : Nat} (h : answeringAddress s = some a) : sourceAddress s = a := by
  rw [sourceAddress, h]; rfl

/-! ## The bytes (11.4) -/

theorem toList_eq_ofFn {α : Type} {n : Nat} (v : Vector α n) : v.toList = List.ofFn fun i : Fin n => v[i] := by
  rw [← Vector.toList_ofFn]
  exact congrArg _ Vector.ofFn_getElem.symm

/-- The byte of an approach: its state, and 255 out of service. -/
def approachByte (a : Option ApproachState) : Byte := (a.map ApproachState.code).getD 255

theorem approachByte_eq (a : Option ApproachState) : approachByte a = match a with
    | some a => a.code
    | none => 255 := by
  cases a <;> rfl

/-- The layout of 11.4, byte by byte. -/
theorem StatusContent.bytes_eq (c : StatusContent) : c.bytes =
    [c.crossing.code, c.flags, c.highest.code,
     approachByte c.approaches[0], approachByte c.approaches[1], approachByte c.approaches[2],
     approachByte c.approaches[3],
     c.sections[0].code, c.sections[1].code, c.sections[2].code, c.sections[3].code, c.sections[4].code,
     c.sections[5].code, c.sections[6].code, c.sections[7].code,
     byte c.activeCount, byte c.latchedCount, byte c.acceptedCount, c.calibration.code, c.lampTest.code,
     c.saveRun.code, c.bank0.code, c.bank1.code,
     byte (c.vBat.getD 65535 / 256), byte (c.vBat.getD 65535)] := by
  rw [StatusContent.bytes, toList_eq_ofFn, toList_eq_ofFn]
  rfl

theorem StatusContent.byte_approach (c : StatusContent) (i : Fin 4) :
    c.bytes.getD (3 + i.val) 0 = approachByte c.approaches[i] := by
  rw [c.bytes_eq]
  fin_cases i <;> rfl

theorem StatusContent.byte_section (c : StatusContent) (i : Fin 8) :
    c.bytes.getD (7 + i.val) 0 = c.sections[i].code := by
  rw [c.bytes_eq]
  fin_cases i <;> rfl

theorem StatusContent.byte_flags (c : StatusContent) : c.bytes.getD 1 0 = c.flags := by
  rw [c.bytes_eq]; rfl

/-- Each flag has a bit of its own. -/
theorem StatusContent.flags_bits (c : StatusContent) :
    c.flags.getLsbD 0 = c.proved ∧ c.flags.getLsbD 1 = c.closureRequest ∧ c.flags.getLsbD 2 = c.newFault ∧
      c.flags.getLsbD 3 = c.dropped ∧ c.flags.getLsbD 4 = c.overflow := by
  unfold StatusContent.flags
  generalize c.proved = proved, c.closureRequest = request, c.newFault = fault, c.dropped = dropped,
    c.overflow = overflow
  decide +revert

theorem toNat_byte (n : Nat) : (byte n).toNat = n % 256 := BitVec.toNat_ofNat n 8

theorem StatusContent.read_vBat (c : StatusContent) : read16 c.bytes 23 = c.vBat.getD 65535 % 65536 := by
  have hread : read16 c.bytes 23 = (byte (c.vBat.getD 65535 / 256)).toNat * 256 + (byte (c.vBat.getD 65535)).toNat := by
    rw [c.bytes_eq]; rfl
  rw [hread, toNat_byte, toNat_byte]
  omega

end Sys2Proof.Machine
end

section
/-! The production of a status (R151, R152, R153, R167, R168, R170). -/

namespace Sys2Proof.Machine

set_option Elab.async false

/-- An in-service SIGNALLER entry (R151). -/
def SignallerEntry (ts : Tables) (i : Fin 4) : Prop := ts.node[i].inService = true ∧ ts.node[i].role = .signaller

theorem signallerAddress_first {ts : Tables} {i : Fin 4} (h : SignallerEntry ts i)
    (hlow : ∀ j, j < i → ¬ SignallerEntry ts j) : signallerAddress ts = some ts.node[i].address := by
  obtain ⟨hserv, hrole⟩ := h
  have hfind : ts.node.toList.find? (fun e => e.inService && e.role == .signaller) = some ts.node[i] := by
    rw [toList_eq_ofFn, List.find?_ofFn_eq_some]
    refine ⟨by rw [hserv, hrole]; rfl, i, rfl, fun j hj hsig => hlow j hj ?_⟩
    obtain ⟨hserv, hrole⟩ := Bool.and_eq_true_iff.1 hsig
    exact ⟨hserv, eq_of_beq hrole⟩
  rw [signallerAddress, hfind]; rfl

theorem signallerAddress_none {ts : Tables} (h : ∀ i, ¬ SignallerEntry ts i) : signallerAddress ts = none := by
  rw [signallerAddress, Option.map_eq_none_iff, List.find?_eq_none]
  intro e he hsig
  obtain ⟨i, hi, rfl⟩ := Vector.mem_iff_getElem.1 (Vector.mem_toList_iff.1 he)
  obtain ⟨hserv, hrole⟩ := Bool.and_eq_true_iff.1 hsig
  exact h ⟨i, hi⟩ ⟨hserv, eq_of_beq hrole⟩

theorem produceStatus_of_none {s : State} (h : signallerAddress s.tm.tables = none) : produceStatus s = s := by
  simp only [produceStatus, h]

theorem produceStatus_of_some {s : State} {dest : Nat} (h : signallerAddress s.tm.tables = some dest) :
    produceStatus s =
      let c := statusContent s
      placeStatus s.params.signallerPort
        (.status (frameOf dest (sourceAddress s) kindStatus c.bytes) c.newFault c.overflow)
        { s with
          report := { s.report with
            fresh := false, lastStatus := some c, statusDue := some (after s.now s.params.statusPeriod) }
          lnu := { s.lnu with lateDiscard := false } } := by
  simp only [produceStatus, h]

/-- Two contents differ in a part other than V_bat just if the one with the V_bat of the other is not it (R153). -/
theorem StatusContent.differs_iff (c d : StatusContent) : c.differs d = true ↔ { c with vBat := d.vBat } ≠ d := by
  obtain ⟨⟩ := c
  obtain ⟨⟩ := d
  simp [StatusContent.differs]

/-- The content differs from that of every status produced before, otherwise than in V_bat (R153). -/
theorem statusChanged_iff (s : State) : statusChanged s = true ↔
    ∀ last, s.report.lastStatus = some last → { statusContent s with vBat := last.vBat } ≠ last := by
  unfold statusChanged
  cases s.report.lastStatus with
  | none => simp
  | some last =>
    rw [StatusContent.differs_iff]
    exact ⟨fun h x hx => Option.some.inj hx ▸ h, fun h => h last rfl⟩

theorem reportTurn_produces {s : State} (hvalid : s.tm.valid = true)
    (h : s.handed.status = true ∨ statusChanged s = true) :
    reportTurn s = produceStatus { s with handed := { s.handed with status := false } } :=
  if_pos (by simpa [hvalid] using h)

theorem reportTurn_quiet {s : State}
    (h : s.tm.valid = false ∨ s.handed.status = false ∧ ¬ statusChanged s = true) :
    reportTurn s = { s with handed := { s.handed with status := false } } :=
  if_neg (by
    obtain hvalid | ⟨hasked, hchanged⟩ := h
    · simp [hvalid]
    · simp [hasked, hchanged])

/-- Settles O49: the production by the signaller address, the turn by the change, the content field by field, and the
layout by its bytes. -/
theorem statusIsProduced : Obligations.StatusIsProduced := by
  refine ⟨fun s i hserv hrole hlow => produceStatus_of_some (signallerAddress_first ⟨hserv, hrole⟩ hlow),
    fun s hnone => produceStatus_of_none (signallerAddress_none hnone), fun s => ?_, fun s => ?_, fun c => ?_⟩
  · have hchanged := statusChanged_iff s
    exact ⟨fun hvalid h => reportTurn_produces hvalid (h.imp_right hchanged.2),
      fun h => reportTurn_quiet (h.imp_right (And.imp_right (mt hchanged.1)))⟩
  · refine ⟨fun a => sourceAddress_of_answering, rfl, rfl, rfl, fun i => ?_, fun i => ?_, statusContent_highest s,
      countState_eq .., countState_eq .., countState_eq .., rfl, rfl, rfl, rfl, rfl, rfl, rfl, rfl, rfl⟩
    · have happroach := statusContent_approach s i
      exact ⟨fun h => happroach.trans (if_pos h), fun h => happroach.trans (if_neg (Bool.eq_false_iff.1 h))⟩
    · have hsection := statusContent_section s i
      refine ⟨fun h => hsection.trans (sectionStatus_outOfService h _), fun h => ?_⟩
      rw [sectionStatus_inService h] at hsection
      refine ⟨fun hs => ?_, fun hs => ?_, fun hs => ?_, fun hs h0 => ?_, fun hs h0 => ?_⟩ <;> rw [hs] at hsection
      · exact hsection
      · exact hsection
      · exact hsection
      · exact hsection.trans (if_pos h0)
      · exact hsection.trans (if_neg h0)
  · have hbytes := c.bytes_eq
    refine ⟨by rw [hbytes]; rfl, c.byte_flags ▸ c.flags_bits, by rw [hbytes]; rfl, by rw [hbytes]; rfl,
      fun i => (c.byte_approach i).trans (approachByte_eq _), c.byte_section, ?_, ?_,
      fun v hv hlt => ?_, fun hv => ?_⟩
    · rw [hbytes]
      exact ⟨toNat_byte _, toNat_byte _, toNat_byte _⟩
    · rw [hbytes]
      exact ⟨rfl, rfl, rfl, rfl, rfl⟩
    · rw [c.read_vBat, hv]
      exact Nat.mod_eq_of_lt hlt
    · rw [c.read_vBat, hv]; rfl

end Sys2Proof.Machine
end

section
/-! SUPPORT. One field of a table entry: what is stored of it, and when it is not clamped (11.6). -/

namespace Sys2Proof.Machine

set_option Elab.async false

/-! ## Ranged fields -/

theorem clampTo_eq_self_iff {lo hi : Nat} (h : lo ≤ hi) (n : Nat) : clampTo lo hi n = n ↔ lo ≤ n ∧ n ≤ hi := by
  unfold clampTo
  omega

theorem ranged_value (lo hi n : Nat) : (ranged lo hi n).value = clampTo lo hi n := rfl

theorem ranged_unclamped {lo hi : Nat} (h : lo ≤ hi) (n : Nat) :
    (ranged lo hi n).clamped = false ↔ lo ≤ n ∧ n ≤ hi := by
  rw [← clampTo_eq_self_iff h]
  exact bne_eq_false_iff_eq

/-- A number in its range is stored as written, so what rests on the stored one rests on the written one. -/
theorem inRange_and_clampTo {lo hi n : Nat} (p : Nat → Prop) :
    (lo ≤ n ∧ n ≤ hi) ∧ p (clampTo lo hi n) ↔ (lo ≤ n ∧ n ≤ hi) ∧ p n :=
  and_congr_right fun h => by rw [(clampTo_eq_self_iff (h.1.trans h.2) n).2 h]

theorem inRange_and_clampTo_and {lo hi n : Nat} (p : Nat → Prop) (q : Prop) :
    (lo ≤ n ∧ n ≤ hi) ∧ p (clampTo lo hi n) ∧ q ↔ (lo ≤ n ∧ n ≤ hi) ∧ p n ∧ q :=
  inRange_and_clampTo fun n => p n ∧ q

theorem clampTo_zero_one_eq_zero_iff (n : Nat) : clampTo 0 1 n = 0 ↔ n = 0 := by
  unfold clampTo
  omega

theorem min_bne_self_eq_false (a b : Nat) : (min a b != a) = false ↔ a ≤ b := by
  rw [bne_eq_false_iff_eq, min_eq_left_iff]

/-! ## Coded fields -/

section
variable {α : Type} {c d : Nat} {v w : α}

theorem coded_unclamped (first : α) (code : Nat) :
    (coded c v d w first code).clamped = false ↔ code = c ∨ code = d := by
  unfold coded
  split
  next h => simp [h]
  next h => split <;> simp_all

theorem coded_zero_one_unclamped (first : α) (code : Nat) :
    (coded 0 v 1 w first code).clamped = false ↔ code ≤ 1 := by
  rw [coded_unclamped]
  omega

theorem coded_one_two_unclamped (first : α) (code : Nat) :
    (coded 1 v 2 w first code).clamped = false ↔ 1 ≤ code ∧ code ≤ 2 := by
  rw [coded_unclamped]
  omega

/-- A code that names none stands for the first value, so the other one's code alone decides. -/
theorem coded_value_default_first (h : c ≠ d) (code : Nat) :
    (coded c v d w v code).value = if code = d then w else v := by
  unfold coded
  by_cases hc : code = c
  · subst hc; simp [h]
  · rw [if_neg hc]
    split <;> rfl

theorem coded_value_default_second (code : Nat) : (coded c v d w w code).value = if code = c then v else w := by
  unfold coded
  split
  · rfl
  · split <;> rfl

end

theorem codedFlag_value (code : Nat) : (codedFlag code).value = (code == 1) := by
  rw [codedFlag, coded_value_default_first (by decide)]
  by_cases h : code = 1 <;> simp [h]

/-- A flag that lists set, of code 0, before clear. -/
theorem coded_setFirst_value (code : Nat) : (coded 0 true 1 false false code).value = (code == 0) := by
  rw [coded_value_default_second]
  by_cases h : code = 0 <;> simp [h]

/-- A flag of code 1 that stands for every code but 0. -/
theorem coded_setDefault_value (code : Nat) : (coded 0 false 1 true true code).value = (code != 0) := by
  rw [coded_value_default_second]
  by_cases h : code = 0 <;> simp [h]

theorem codedFlag_unclamped (code : Nat) : (codedFlag code).clamped = false ↔ code ≤ 1 :=
  coded_zero_one_unclamped ..

/-! ## What is stored -/

/-- The value is stored, and as written just if the condition holds. -/
def Field.Stores {α : Type} (f : Field α) (stored : α) (kept : Prop) : Prop :=
  f.value = stored ∧ (f.clamped = false ↔ kept)

/-- What is stored of an entry is put in its place of its table. -/
theorem Field.Stores.within {α β : Type} {f : Field α} {g : Field β} {stored : α} {kept : Prop} (put : α → β)
    (h : f.Stores stored kept) (hg : g = { value := put f.value, clamped := f.clamped }) :
    g.Stores (put stored) kept := by
  obtain ⟨rfl, hkept⟩ := h
  exact hg ▸ ⟨rfl, hkept⟩

end Sys2Proof.Machine
end

section
/-! What is stored of the bytes of an entry of each table (R16, R33, R64, R87, R105, R128, R148, R173, R175, 11.6). -/

namespace Sys2Proof.Machine

set_option Elab.async false

theorem readNode_stores (b : List Byte) : (readNode b).Stores
    { inService := read8 b 0 == 1, address := clampTo 1 253 (read8 b 1)
      role := if read8 b 2 = 1 then .maintenance else .signaller }
    (read8 b 0 ≤ 1 ∧ (1 ≤ read8 b 1 ∧ read8 b 1 ≤ 253) ∧ read8 b 2 ≤ 1) := by
  refine ⟨?_, ?_⟩
  · simp only [readNode, codedFlag_value, coded_value_default_first zero_ne_one, ranged_value]
  · simp only [readNode, Bool.or_eq_false_iff, and_assoc, codedFlag_unclamped, coded_zero_one_unclamped,
      ranged_unclamped (by decide : 1 ≤ 253)]

theorem readParams_stores (b : List Byte) : (readParams b).Stores
    { headTimeout := clampTo 1000 10000 (read16 b 0), groupGap := clampTo 2000 10000 (read16 b 2)
      flashPeriod := clampTo 800 1500 (read16 b 4), lampBaseDuty := clampTo 50 100 (read8 b 6)
      vNominal := clampTo 10000 30000 (read16 b 7), batteryLow := clampTo 5000 30000 (read16 b 9)
      batteryCritical := clampTo 5000 30000 (read16 b 11), batteryEntry := read8 b 13
      batterySpan := clampTo 1000 65000 (read16 b 14), audibleEntry0 := read8 b 16, audibleEntry1 := read8 b 17
      openDelay := clampTo 0 10000 (read16 b 18), minOpen := clampTo 0 30000 (read16 b 20)
      longClosure := clampTo 60000 1200000 (read32 b 22), exitDelayFailed := clampTo 0 20000 (read16 b 26)
      statusPeriod := clampTo 1000 10000 (read16 b 28), signallerTimeout := clampTo 2000 60000 (read16 b 30)
      scanStrobe := clampTo 1 20 (read8 b 32), quietDivisor := clampTo 1 16 (read8 b 33)
      quietAfter := clampTo 10000 600000 (read32 b 34), ownAddress := clampTo 1 253 (read8 b 38)
      signallerPort := if read8 b 39 = 1 then .b else .a }
    ((1000 ≤ read16 b 0 ∧ read16 b 0 ≤ 10000) ∧ (2000 ≤ read16 b 2 ∧ read16 b 2 ≤ 10000) ∧
      (800 ≤ read16 b 4 ∧ read16 b 4 ≤ 1500) ∧ (50 ≤ read8 b 6 ∧ read8 b 6 ≤ 100) ∧
      (10000 ≤ read16 b 7 ∧ read16 b 7 ≤ 30000) ∧ (5000 ≤ read16 b 9 ∧ read16 b 9 ≤ 30000) ∧
      (5000 ≤ read16 b 11 ∧ read16 b 11 ≤ 30000) ∧ (1000 ≤ read16 b 14 ∧ read16 b 14 ≤ 65000) ∧
      read16 b 18 ≤ 10000 ∧ read16 b 20 ≤ 30000 ∧ (60000 ≤ read32 b 22 ∧ read32 b 22 ≤ 1200000) ∧
      read16 b 26 ≤ 20000 ∧ (1000 ≤ read16 b 28 ∧ read16 b 28 ≤ 10000) ∧
      (2000 ≤ read16 b 30 ∧ read16 b 30 ≤ 60000) ∧ (1 ≤ read8 b 32 ∧ read8 b 32 ≤ 20) ∧
      (1 ≤ read8 b 33 ∧ read8 b 33 ≤ 16) ∧ (10000 ≤ read32 b 34 ∧ read32 b 34 ≤ 600000) ∧
      (1 ≤ read8 b 38 ∧ read8 b 38 ≤ 253) ∧ read8 b 39 ≤ 1) := by
  refine ⟨?_, ?_⟩
  · simp only [readParams, coded_value_default_first zero_ne_one, ranged_value]
  · simp only [readParams, Bool.or_eq_false_iff, and_assoc, coded_zero_one_unclamped, ranged_unclamped,
      Nat.reduceLeDiff, Nat.zero_le, true_and]

theorem readDpt_stores (b : List Byte) : (readDpt b).Stores
    { inService := read8 b 0 == 1, address := clampTo 1 253 (read8 b 1), track := clampTo 1 2 (read8 b 2)
      role := if read8 b 3 = 1 then .timingOnly else .counting, spacing := clampTo 80 300 (read16 b 4)
      towardSense := if read8 b 6 = 2 then .s2First else .s1First }
    (read8 b 0 ≤ 1 ∧ (1 ≤ read8 b 1 ∧ read8 b 1 ≤ 253) ∧ (1 ≤ read8 b 2 ∧ read8 b 2 ≤ 2) ∧ read8 b 3 ≤ 1 ∧
      (80 ≤ read16 b 4 ∧ read16 b 4 ≤ 300) ∧ (1 ≤ read8 b 6 ∧ read8 b 6 ≤ 2)) := by
  refine ⟨?_, ?_⟩
  · simp only [readDpt, codedFlag_value, coded_value_default_first zero_ne_one,
      coded_value_default_first (by decide : 1 ≠ 2), ranged_value]
  · simp only [readDpt, Bool.or_eq_false_iff, and_assoc, codedFlag_unclamped, coded_zero_one_unclamped,
      coded_one_two_unclamped, ranged_unclamped, Nat.reduceLeDiff]

/-! ## SECTION and APPROACH: a list as long as its clamped number says -/

theorem any_range_map_clamped {α : Type} (n : Nat) (f : Nat → Field α) :
    ((List.range n).map f).any (·.clamped) = false ↔ ∀ k, k < n → (f k).clamped = false := by
  simp [List.any_eq_false]

theorem readSection_stores (b : List Byte) : (readSection b).Stores
    { inService := read8 b 0 == 1, kind := if read8 b 1 = 1 then .island else .approach
      track := clampTo 1 2 (read8 b 2)
      boundaries := (List.range (clampTo 1 4 (read8 b 3))).map fun k =>
        { head := read8 b (4 + 2 * k), entering := if read8 b (5 + 2 * k) = 1 then .away else .toward } }
    (read8 b 0 ≤ 1 ∧ read8 b 1 ≤ 1 ∧ (1 ≤ read8 b 2 ∧ read8 b 2 ≤ 2) ∧ (1 ≤ read8 b 3 ∧ read8 b 3 ≤ 4) ∧
      ∀ k, k < read8 b 3 → read8 b (5 + 2 * k) ≤ 1) := by
  have hplace (k : Nat) : 4 + 2 * k + 1 = 5 + 2 * k := by omega
  refine ⟨?_, ?_⟩
  · simp only [readSection, readBoundary, codedFlag_value, coded_value_default_first zero_ne_one, ranged_value,
      List.map_map, Function.comp_def, hplace]
  · have hlist := inRange_and_clampTo (lo := 1) (hi := 4) (n := read8 b 3)
      fun n => ∀ k, k < n → read8 b (5 + 2 * k) ≤ 1
    rw [← hlist]
    simp only [readSection, readBoundary, Bool.or_eq_false_iff, and_assoc, codedFlag_unclamped,
      coded_zero_one_unclamped, ranged_unclamped, Nat.reduceLeDiff, any_range_map_clamped, hplace]
    rfl

theorem readApproach_stores (b : List Byte) : (readApproach b).Stores
    { inService := read8 b 0 == 1, track := clampTo 1 2 (read8 b 1), approachSection := read8 b 2
      islandSection := read8 b 3
      timingHeads := (List.range (clampTo 1 4 (read8 b 4))).map fun k =>
        { head := read8 b (5 + 4 * k), distance := clampTo 20 4000 (read16 b (6 + 4 * k))
          haltSide := read8 b (8 + 4 * k) == 0 }
      clearMargin := clampTo 0 30000 (read16 b 21), loopAllow := clampTo 0 1000 (read16 b 23)
      holdMax := clampTo 10000 600000 (read32 b 25), vCreep := clampTo 100 1000 (read16 b 29)
      vHalt := clampTo 100 3000 (read16 b 31), vFinal := clampTo 100 6000 (read16 b 33)
      vLine := clampTo 500 8000 (read16 b 35) }
    (read8 b 0 ≤ 1 ∧ (1 ≤ read8 b 1 ∧ read8 b 1 ≤ 2) ∧ (1 ≤ read8 b 4 ∧ read8 b 4 ≤ 4) ∧
      (∀ k, k < read8 b 4 →
        (20 ≤ read16 b (6 + 4 * k) ∧ read16 b (6 + 4 * k) ≤ 4000) ∧ read8 b (8 + 4 * k) ≤ 1) ∧
      read16 b 21 ≤ 30000 ∧ read16 b 23 ≤ 1000 ∧ (10000 ≤ read32 b 25 ∧ read32 b 25 ≤ 600000) ∧
      (100 ≤ read16 b 29 ∧ read16 b 29 ≤ 1000) ∧ (100 ≤ read16 b 31 ∧ read16 b 31 ≤ 3000) ∧
      (100 ≤ read16 b 33 ∧ read16 b 33 ≤ 6000) ∧ (500 ≤ read16 b 35 ∧ read16 b 35 ≤ 8000)) := by
  have hdistance (k : Nat) : 5 + 4 * k + 1 = 6 + 4 * k := by omega
  have hhalt (k : Nat) : 5 + 4 * k + 3 = 8 + 4 * k := by omega
  refine ⟨?_, ?_⟩
  · simp only [readApproach, readTimingHead, codedFlag_value, coded_setFirst_value, ranged_value, List.map_map,
      Function.comp_def, hdistance, hhalt]
  · rw [← inRange_and_clampTo_and (lo := 1) (hi := 4) (n := read8 b 4) fun n => ∀ k, k < n →
      (20 ≤ read16 b (6 + 4 * k) ∧ read16 b (6 + 4 * k) ≤ 4000) ∧ read8 b (8 + 4 * k) ≤ 1]
    simp only [readApproach, readTimingHead, Bool.or_eq_false_iff, and_assoc, codedFlag_unclamped,
      coded_zero_one_unclamped, ranged_unclamped, Nat.reduceLeDiff, Nat.zero_le, true_and, any_range_map_clamped,
      hdistance, hhalt]
    rfl

/-! ## The programs -/

theorem StepKind.all_eq_wait_iff (k : Fin 13) : StepKind.all[k.val]? = some .wait ↔ k.val = 10 := by
  decide +revert

/-- The kind of each code; END, and the count of WAIT alone (R64, log entry 8). -/
theorem readStep_stores (b : List Byte) : (readStep b).Stores
    { kind := StepKind.all.getD (read8 b 0) .finish
      count := if read8 b 0 = 10 then clampTo 1 127 (read8 b 1) else 0 }
    (read8 b 0 ≤ 12 ∧ (read8 b 0 = 10 → 1 ≤ read8 b 1 ∧ read8 b 1 ≤ 127)) := by
  have hlength : StepKind.all.length = 13 := rfl
  have hwait (h : read8 b 0 ≤ 12) : StepKind.all[read8 b 0]? = some .wait ↔ read8 b 0 = 10 :=
    StepKind.all_eq_wait_iff ⟨read8 b 0, by omega⟩
  unfold readStep
  rw [List.getD_eq_getElem?_getD]
  split
  next hnone =>
    have hpast : ¬ read8 b 0 ≤ 12 := by
      have := List.getElem?_eq_none_iff.1 hnone
      omega
    have hother : read8 b 0 ≠ 10 := by omega
    simp [Field.Stores, hnone, hpast, hother]
  next hsome =>
    have hle : read8 b 0 ≤ 12 := by
      obtain ⟨hlt, -⟩ := List.getElem?_eq_some_iff.1 hsome
      omega
    have hten := (hwait hle).1 hsome
    rw [hsome, hten]
    simp [Field.Stores, ranged_value, ranged_unclamped]
  next k hk hsome =>
    have hle : read8 b 0 ≤ 12 := by
      obtain ⟨hlt, -⟩ := List.getElem?_eq_some_iff.1 hsome
      omega
    have hother : read8 b 0 ≠ 10 := fun hten => hk (Option.some.inj (hsome.symm.trans ((hwait hle).2 hten)))
    simp [Field.Stores, hsome, hle, hother]

/-! ## BARRIER, LAMP and SCAN -/

theorem readBarrier_stores (b : List Byte) : (readBarrier b).Stores
    { inService := read8 b 0 == 1, role := if read8 b 1 = 1 then .exit else .entry
      roadSide := if read8 b 2 = 0 then .north else .south, angleEntry := read8 b 3, currentEntry := read8 b 4
      ratedDuty := clampTo 20 100 (read8 b 5)
      overdriveDuty := min (clampTo 20 100 (read8 b 6)) (clampTo 50 100 (read8 b 9))
      startMs := clampTo 0 1000 (read16 b 7), clampDuty := clampTo 50 100 (read8 b 9)
      brakePos := clampTo 0 300 (read16 b 10), brakeDuty := clampTo 0 50 (read8 b 12)
      loopGain := clampTo 0 200 (read8 b 13), closedLoop := read8 b 14 != 0
      downWindow := clampTo 0 100 (read8 b 15), upWindow := clampTo 900 1000 (read16 b 16)
      upCode := clampTo 0 4095 (read16 b 18), downCode := clampTo 0 4095 (read16 b 20)
      travelDown := clampTo 2000 20000 (read16 b 22), travelUp := clampTo 2000 20000 (read16 b 24)
      peakCurrent := clampTo 0 4095 (read16 b 26) }
    (read8 b 0 ≤ 1 ∧ read8 b 1 ≤ 1 ∧ read8 b 2 ≤ 1 ∧ (20 ≤ read8 b 5 ∧ read8 b 5 ≤ 100) ∧
      (20 ≤ read8 b 6 ∧ read8 b 6 ≤ 100) ∧ read8 b 6 ≤ clampTo 50 100 (read8 b 9) ∧ read16 b 7 ≤ 1000 ∧
      (50 ≤ read8 b 9 ∧ read8 b 9 ≤ 100) ∧ read16 b 10 ≤ 300 ∧ read8 b 12 ≤ 50 ∧ read8 b 13 ≤ 200 ∧
      read8 b 14 ≤ 1 ∧ read8 b 15 ≤ 100 ∧ (900 ≤ read16 b 16 ∧ read16 b 16 ≤ 1000) ∧ read16 b 18 ≤ 4095 ∧
      read16 b 20 ≤ 4095 ∧ (2000 ≤ read16 b 22 ∧ read16 b 22 ≤ 20000) ∧
      (2000 ≤ read16 b 24 ∧ read16 b 24 ≤ 20000) ∧ read16 b 26 ≤ 4095) := by
  refine ⟨?_, ?_⟩
  · simp only [readBarrier, codedFlag_value, coded_value_default_first zero_ne_one, coded_setDefault_value,
      ranged_value, clampTo_zero_one_eq_zero_iff]
  · rw [← inRange_and_clampTo_and (lo := 20) (hi := 100) (n := read8 b 6) (· ≤ clampTo 50 100 (read8 b 9))]
    simp only [readBarrier, Bool.or_eq_false_iff, and_assoc, codedFlag_unclamped, coded_zero_one_unclamped,
      ranged_unclamped, min_bne_self_eq_false, Nat.reduceLeDiff, Nat.zero_le, true_and]
    rfl

theorem readLamp_stores (b : List Byte) : (readLamp b).Stores
    { inService := read8 b 0 == 1, roadSide := if read8 b 1 = 0 then .north else .south
      colour := if read8 b 2 = 1 then .amber else .red, phase := if read8 b 3 = 1 then .b else .a
      scanEntry := read8 b 4 }
    (read8 b 0 ≤ 1 ∧ read8 b 1 ≤ 1 ∧ read8 b 2 ≤ 1 ∧ read8 b 3 ≤ 1) := by
  refine ⟨?_, ?_⟩
  · simp only [readLamp, codedFlag_value, coded_value_default_first zero_ne_one, ranged_value,
      clampTo_zero_one_eq_zero_iff]
  · simp only [readLamp, Bool.or_eq_false_iff, and_assoc, codedFlag_unclamped, coded_zero_one_unclamped,
      ranged_unclamped, Nat.zero_le, true_and]

theorem nearestGain_mem (n : Nat) : nearestGain n ∈ [1, 2, 4, 8] := by
  unfold nearestGain
  split_ifs <;> decide

/-- The distance of a number from a gain. -/
def gainGap (n g : Nat) : Nat := (g - n) + (n - g)

/-- No gain is nearer than the nearest one, and none as near is lower (R128). -/
theorem eq_nearestGain {n gain : Nat} (hmem : gain ∈ [1, 2, 4, 8])
    (h : ∀ g ∈ [1, 2, 4, 8], gainGap n gain < gainGap n g ∨ (gainGap n gain = gainGap n g ∧ gain ≤ g)) :
    gain = nearestGain n := by
  have hnear := h _ (nearestGain_mem n)
  simp only [List.mem_cons, List.not_mem_nil, or_false] at hmem
  unfold gainGap nearestGain at hnear
  unfold nearestGain
  split_ifs at hnear ⊢ <;> omega

theorem nearestGain_unclamped (n : Nat) : (nearestGain n != n) = false ↔ n ∈ [1, 2, 4, 8] := by
  rw [bne_eq_false_iff_eq]
  refine ⟨fun h => h ▸ nearestGain_mem n, fun h => ?_⟩
  simp only [List.mem_cons, List.not_mem_nil, or_false] at h
  obtain rfl | rfl | rfl | rfl := h <;> rfl

theorem readScan_stores (b : List Byte) : (readScan b).Stores
    { inService := read8 b 0 == 1, channel := clampTo 0 23 (read8 b 1), gain := nearestGain (read8 b 2)
      blockCount := clampTo 1 8 (read8 b 3), lowThreshold := clampTo 0 4095 (read16 b 4)
      highThreshold := clampTo 0 4095 (read16 b 6) }
    (read8 b 0 ≤ 1 ∧ read8 b 1 ≤ 23 ∧ read8 b 2 ∈ [1, 2, 4, 8] ∧ (1 ≤ read8 b 3 ∧ read8 b 3 ≤ 8) ∧
      read16 b 4 ≤ 4095 ∧ read16 b 6 ≤ 4095) := by
  refine ⟨?_, ?_⟩
  · simp only [readScan, codedFlag_value, ranged_value]
  · simp only [readScan, Bool.or_eq_false_iff, and_assoc, codedFlag_unclamped, nearestGain_unclamped,
      ranged_unclamped, Nat.reduceLeDiff, Nat.zero_le, true_and]

/-! ## REPORT_MASK -/

theorem FaultCode.all_getElem?_number (c : FaultCode) : FaultCode.all[c.number]? = some c := by
  cases c <;> rfl

theorem FaultCode.number_of_getElem? {i : Nat} {c : FaultCode} (h : FaultCode.all[i]? = some c) : c.number = i := by
  obtain ⟨hi, rfl⟩ := List.getElem?_eq_some_iff.1 h
  exact List.Nodup.idxOf_getElem (by decide) i hi

/-- The number of a code of class ALARM (R148). -/
theorem numbersAlarm_iff (i : Nat) :
    ((FaultCode.all[i]?).map (fun c => c.cls == .alarm)).getD false = true ↔
      ∃ c : FaultCode, c.number = i ∧ c.cls = .alarm := by
  constructor
  · intro h
    cases hc : FaultCode.all[i]? with
    | none => simp [hc] at h
    | some c => exact ⟨c, FaultCode.number_of_getElem? hc, by simpa [hc] using h⟩
  · rintro ⟨c, rfl, hcls⟩
    simp [FaultCode.all_getElem?_number, hcls]

theorem readMask_forced {i : Nat} (h : ∃ c : FaultCode, c.number = i ∧ c.cls = .alarm) (b : List Byte) :
    (readMask i b).Stores false (read8 b 0 = 0) := by
  simp only [Field.Stores, readMask, (numbersAlarm_iff i).2 h, codedFlag_value, Bool.or_eq_false_iff,
    codedFlag_unclamped, Bool.not_true, Bool.and_false, Bool.and_true, beq_eq_false_iff_ne, true_and]
  omega

theorem readMask_free {i : Nat} (h : ¬ ∃ c : FaultCode, c.number = i ∧ c.cls = .alarm) (b : List Byte) :
    (readMask i b).Stores (read8 b 0 == 1) (read8 b 0 ≤ 1) := by
  have hfree := Bool.eq_false_iff.2 (mt (numbersAlarm_iff i).1 h)
  simp only [Field.Stores, readMask, hfree, codedFlag_value, Bool.or_eq_false_iff, codedFlag_unclamped,
    Bool.not_false, Bool.and_false, Bool.and_true, and_true, and_self]

/-! ## The tables -/

section
variable (ts : Tables) (b : List Byte)

theorem storeEntry_node (i : Fin 4) : storeEntry .node i b ts =
    { value := { ts with node := ts.node.set i (readNode b).value }, clamped := (readNode b).clamped } :=
  dif_pos i.isLt

theorem storeEntry_params : storeEntry .params 0 b ts =
    { value := { ts with params := (readParams b).value }, clamped := (readParams b).clamped } := rfl

theorem storeEntry_dpt (i : Fin 16) : storeEntry .dpt i b ts =
    { value := { ts with dpt := ts.dpt.set i (readDpt b).value }, clamped := (readDpt b).clamped } :=
  dif_pos i.isLt

theorem storeEntry_sectionTable (i : Fin 8) : storeEntry .sectionTable i b ts =
    { value := { ts with sectionTable := ts.sectionTable.set i (readSection b).value }
      clamped := (readSection b).clamped } :=
  dif_pos i.isLt

theorem storeEntry_approach (i : Fin 4) : storeEntry .approach i b ts =
    { value := { ts with approach := ts.approach.set i (readApproach b).value }
      clamped := (readApproach b).clamped } :=
  dif_pos i.isLt

theorem storeEntry_closing (i : Fin 12) : storeEntry .closing i b ts =
    { value := { ts with closing := ts.closing.set i (readStep b).value }, clamped := (readStep b).clamped } :=
  dif_pos i.isLt

theorem storeEntry_opening (i : Fin 12) : storeEntry .opening i b ts =
    { value := { ts with opening := ts.opening.set i (readStep b).value }, clamped := (readStep b).clamped } :=
  dif_pos i.isLt

theorem storeEntry_barrier (i : Fin 4) : storeEntry .barrier i b ts =
    { value := { ts with barrier := ts.barrier.set i (readBarrier b).value }, clamped := (readBarrier b).clamped } :=
  dif_pos i.isLt

theorem storeEntry_lamp (i : Fin 12) : storeEntry .lamp i b ts =
    { value := { ts with lamp := ts.lamp.set i (readLamp b).value }, clamped := (readLamp b).clamped } :=
  dif_pos i.isLt

theorem storeEntry_scan (i : Fin 24) : storeEntry .scan i b ts =
    { value := { ts with scan := ts.scan.set i (readScan b).value }, clamped := (readScan b).clamped } :=
  dif_pos i.isLt

theorem storeEntry_reportMask (i : Fin 26) : storeEntry .reportMask i b ts =
    { value := { ts with reportMask := ts.reportMask.set i (readMask i b).value }
      clamped := (readMask i b).clamped } :=
  dif_pos i.isLt

end

/-- Settles O51: each entry by what is stored of its bytes, in its place of its table. -/
theorem entriesAreStoredClamped : Obligations.EntriesAreStoredClamped := by
  intro ts b
  refine ⟨fun i => ?_, ?_, fun i => ?_, fun i => ?_, fun i => ?_, ?_, fun i => ?_, fun i => ?_, ?_, ?_⟩
  · exact (readNode_stores b).within (fun e => { ts with node := ts.node.set i e }) (storeEntry_node ..)
  · exact (readParams_stores b).within (fun p => { ts with params := p }) (storeEntry_params ..)
  · exact (readDpt_stores b).within (fun e => { ts with dpt := ts.dpt.set i e }) (storeEntry_dpt ..)
  · exact (readSection_stores b).within (fun e => { ts with sectionTable := ts.sectionTable.set i e })
      (storeEntry_sectionTable ..)
  · exact (readApproach_stores b).within (fun e => { ts with approach := ts.approach.set i e })
      (storeEntry_approach ..)
  · rintro kinds i step rfl
    refine ⟨?_, ?_⟩
    · exact (readStep_stores b).within (fun e => { ts with closing := ts.closing.set i e }) (storeEntry_closing ..)
    · exact (readStep_stores b).within (fun e => { ts with opening := ts.opening.set i e }) (storeEntry_opening ..)
  · exact (readBarrier_stores b).within (fun e => { ts with barrier := ts.barrier.set i e }) (storeEntry_barrier ..)
  · exact (readLamp_stores b).within (fun e => { ts with lamp := ts.lamp.set i e }) (storeEntry_lamp ..)
  · intro i gain gap codes hmem hnear
    obtain rfl : gain = nearestGain (read8 b 2) := eq_nearestGain hmem hnear
    exact (readScan_stores b).within (fun e => { ts with scan := ts.scan.set i e }) (storeEntry_scan ..)
  · intro i forced hforced
    refine ⟨fun h => ?_, fun h => ?_⟩
    · exact (readMask_forced (hforced.1 h) b).within (fun m => { ts with reportMask := ts.reportMask.set i m })
        (storeEntry_reportMask ..)
    · exact (readMask_free (mt hforced.2 h) b).within (fun m => { ts with reportMask := ts.reportMask.set i m })
        (storeEntry_reportMask ..)

end Sys2Proof.Machine
end

section
/-! SUPPORT. Strikes and releases: what each makes of the approach record and of the passage log (R49, R55, R56, R156). -/

namespace Sys2Proof.Machine

set_option Elab.async false

/-! ## Strikes (R49) -/

theorem strike_of_struck {i : Fin 4} {s : State} (h : s.approaches[i].state = .struck) (cause : StrikeCause) :
    strike i cause s = s := if_pos h

/-- The record of approach `i` as a strike fills it (R49). -/
def struckRecord (i : Fin 4) (cause : StrikeCause) (s : State) : ApproachRecord :=
  s.approaches[i].strike cause s.now (!sectionFree s (s.approachEntry i).islandSection)

theorem strike_of_not_struck {i : Fin 4} {s : State} (h : s.approaches[i].state ≠ .struck) (cause : StrikeCause) :
    strike i cause s = if cause = .untimeable then
      eventEntered .untimeable (some i.val) none (s.setApproach i (struckRecord i cause s))
    else s.setApproach i (struckRecord i cause s) := if_neg h

/-! ## The passage log (R156) -/

section
variable {p : PassageRecord} {s : State}

theorem appendPassage_overrun (h0 : s.report.bank0.state ≠ .filling) (h1 : s.report.bank1.state ≠ .filling) :
    appendPassage p s = eventEntered .passageOverrun none none s := by
  simp only [appendPassage, ReportUnit.fillingBank, if_neg h0, if_neg h1]

theorem appendPassage_bank0 (h0 : s.report.bank0.state = .filling) (hn : s.report.bank0.records.length < 15) :
    appendPassage p s = { s with report := { s.report with
      bank0 := { state := .filling, records := s.report.bank0.records ++ [p] } } } := by
  have hroom : ¬ s.report.bank0.records.length + 1 ≥ Config.bankCap := by simp only [Config.bankCap]; omega
  simp [appendPassage, ReportUnit.fillingBank, ReportUnit.bank, ReportUnit.setBank, h0, hroom]

theorem appendPassage_bank0_full (h0 : s.report.bank0.state = .filling) (hn : 15 ≤ s.report.bank0.records.length) :
    appendPassage p s = { s with report := { s.report with
      bank0 := { state := .ready, records := s.report.bank0.records ++ [p] }
      bank1 := if s.report.bank1.state = .empty then { s.report.bank1 with state := .filling }
        else s.report.bank1 } } := by
  have hfull : s.report.bank0.records.length + 1 ≥ Config.bankCap := by simp only [Config.bankCap]; omega
  by_cases h1 : s.report.bank1.state = .empty <;>
    simp [appendPassage, ReportUnit.fillingBank, ReportUnit.bank, ReportUnit.setBank, ReportUnit.makeReady, h0, h1,
      hfull]

theorem appendPassage_bank1 (h0 : s.report.bank0.state ≠ .filling) (h1 : s.report.bank1.state = .filling)
    (hn : s.report.bank1.records.length < 15) :
    appendPassage p s = { s with report := { s.report with
      bank1 := { state := .filling, records := s.report.bank1.records ++ [p] } } } := by
  have hroom : ¬ s.report.bank1.records.length + 1 ≥ Config.bankCap := by simp only [Config.bankCap]; omega
  simp [appendPassage, ReportUnit.fillingBank, ReportUnit.bank, ReportUnit.setBank, h0, h1, hroom]

theorem appendPassage_bank1_full (h0 : s.report.bank0.state ≠ .filling) (h1 : s.report.bank1.state = .filling)
    (hn : 15 ≤ s.report.bank1.records.length) :
    appendPassage p s = { s with report := { s.report with
      bank0 := if s.report.bank0.state = .empty then { s.report.bank0 with state := .filling }
        else s.report.bank0
      bank1 := { state := .ready, records := s.report.bank1.records ++ [p] } } } := by
  have hfull : s.report.bank1.records.length + 1 ≥ Config.bankCap := by simp only [Config.bankCap]; omega
  by_cases he : s.report.bank0.state = .empty <;>
    simp [appendPassage, ReportUnit.fillingBank, ReportUnit.bank, ReportUnit.setBank, ReportUnit.makeReady, h0, h1,
      he, hfull]

end

/-! ## Releases (R55, R56) -/

/-- The events of a release, after its passage record (R56). -/
def releaseEvents (i : Fin 4) (seen short : Bool) (s : State) : State :=
  let u := if seen then s else eventEntered .reversal (some i.val) none s
  if short then eventEntered .shortWarning (some i.val) none u else u

theorem releaseEvents_frame (i : Fin 4) (seen short : Bool) (s : State) :
    Frame [.faults, .newFault] s (releaseEvents i seen short s) := by
  have hseen : Frame [.faults, .newFault] s (if seen then s else eventEntered .reversal (some i.val) none s) :=
    .ite (.refl _ _) (eventEntered_frame ..)
  exact .ite (hseen.trans (eventEntered_frame ..)) hseen

theorem release_unfold (i : Fin 4) (s : State) :
    let p := passageOf i s.approaches[i] s.now (s.derivedFigures.lClose + (s.approachEntry i).clearMargin)
    release i s = releaseEvents i s.approaches[i].islandSeen p.shortWarning
      (appendPassage p (s.setApproach i .cold)) := rfl

/-- Beside the record IDLE, a release moves the passage log and the fault table. -/
theorem release_idle_frame (i : Fin 4) (s : State) :
    Frame [.banks, .faults, .newFault] (s.setApproach i .cold) (release i s) :=
  (appendPassage_frame ..).step (releaseEvents_frame ..)

/-- A release by the record that R49 has filled in, with the figures held. -/
theorem release_eq {i : Fin 4} {s : State} {d : Derived} {cause : StrikeCause} {t : Time}
    (hd : s.tm.derived = some d) (hc : s.approaches[i].strikeCause = some cause)
    (ht : s.approaches[i].strikeTime = some t) :
    let r := s.approaches[i]
    let warning := r.islandEntryTime.map fun at_ => at_ - t
    let short := warning.any fun x => decide (x.toNat < d.lClose + s.tm.tables.approach[i].clearMargin)
    release i s = releaseEvents i r.islandSeen short (appendPassage
      { approach := i, strikeCause := cause, strikeTime := t, vEAtStrike := r.vEAtStrike,
        islandEntryTime := r.islandEntryTime, releaseTime := s.now, achievedWarning := warning,
        shortWarning := short } (s.setApproach i .cold)) := by
  have hl : s.derivedFigures.lClose = d.lClose := by rw [State.derivedFigures, hd]; rfl
  simp only [release_unfold, passageOf, hc, ht, hl, Option.getD_some, State.approachEntry]

/-- Settles O35: the strike as R49 fills it; the release by the bank that takes its record. -/
theorem strikesAndReleases : Obligations.StrikesAndReleases := by
  intro s i cause e r struck
  refine ⟨fun h => strike_of_struck h cause, fun h => strike_of_not_struck h cause, ?_⟩
  intro d t hd hc ht warning short passage idle seen warned
  have heq {u : State} (hu : appendPassage passage idle = u) : release i s = warned (seen u) :=
    hu ▸ release_eq hd hc ht
  refine ⟨fun h0 h1 => ?_, fun h0 => ⟨fun hn => ?_, fun hn => ?_⟩, fun h0 h1 => ⟨fun hn => ?_, fun hn => ?_⟩⟩
  · exact heq (appendPassage_overrun (s := idle) h0 h1)
  · exact heq (appendPassage_bank0 (s := idle) h0 hn)
  · exact heq (appendPassage_bank0_full (s := idle) h0 hn)
  · exact heq (appendPassage_bank1 (s := idle) h0 h1 hn)
  · exact heq (appendPassage_bank1_full (s := idle) h0 h1 hn)

end Sys2Proof.Machine
end

section
/-! SUPPORT. A measured wheel: its tests in their order, and what each outcome makes of the approach (3.5). -/

namespace Sys2Proof.Machine

set_option Elab.async false

/-! ## The tests (R43 to R46) -/

theorem finalHeadGone_iff {s : State} {e : ApproachEntry} {last : TimingHead} (hlast : e.timingHeads.getLast? = some last)
    (hp : last.head < 16) : finalHeadGone s e = true ↔
      s.heads[last.head].state = .lost ∨ s.heads[last.head].state = .faulty := by
  simp [finalHeadGone, hlast, hp]

section
variable {s : State} {i : Fin 4} {p v : Nat} {first : Bool} {g : GroupContext}

theorem wheelOutcome_invalid (hv : 8000 < v) :
    wheelOutcome s i p first v g = if first then .strike .untimeable else .nothing := if_pos hv

theorem wheelOutcome_lost (hv : v ≤ 8000) (hgone : finalHeadGone s (s.approachEntry i) = true) :
    wheelOutcome s i p first v g = .strike .fallback := by
  have hspeed : ¬ Config.speedMax < v := Nat.not_lt.2 hv
  simp only [wheelOutcome, if_neg hspeed, if_pos hgone]

theorem wheelOutcome_restoring (hv : v ≤ 8000) (hgone : finalHeadGone s (s.approachEntry i) ≠ true)
    (hr : sectionState s (s.approachEntry i).approachSection = some .restoring) :
    wheelOutcome s i p first v g = .strike .untimeable := by
  have hspeed : ¬ Config.speedMax < v := Nat.not_lt.2 hv
  simp only [wheelOutcome, if_neg hspeed, if_neg hgone, if_pos hr]

/-- A wheel that passes the first three tests is judged on the speed of its group (R44 to R46). -/
theorem wheelOutcome_timed {vE : Nat} {h : TimingHead} (hv : v ≤ 8000)
    (hgone : finalHeadGone s (s.approachEntry i) ≠ true)
    (hr : sectionState s (s.approachEntry i).approachSection ≠ some .restoring) (hg : g.vE = some vE)
    (hh : (s.approachEntry i).timingHeads[p]? = some h) :
    wheelOutcome s i p first v g =
      if vE < (s.approachEntry i).vCreep then
        if p + 1 = (s.approachEntry i).timingHeads.length then .strike .fallback else .discard .tracking
      else if h.haltSide = true ∧ vE ≤ (s.approachEntry i).vHalt then .discard .deferred
      else if arrivalTime h.distance vE ≤ s.derivedFigures.tReq[i] then .strike .immediate
      else .deadline (after g.tFirst
        (min (arrivalTime h.distance vE - s.derivedFigures.tReq[i]) (s.approachEntry i).holdMax)) := by
  have hspeed : ¬ Config.speedMax < v := Nat.not_lt.2 hv
  simp only [wheelOutcome, if_neg hspeed, if_neg hgone, if_neg hr, hg, hh, decide_eq_true_eq, Bool.and_eq_true]

end

/-! ## What an outcome makes of the approach (R43 to R48) -/

theorem nearerOrNone_iff (r : ApproachRecord) (p : Nat) : nearerOrNone r p = true ↔
    r.deadline = none ∨ r.deadlineHead = none ∨ ∃ n, r.deadlineHead = some n ∧ n < p := by
  unfold nearerOrNone
  cases r.deadline <;> cases r.deadlineHead <;> simp

section
variable {i : Fin 4} {p : Nat} {s : State}

theorem applyOutcome_discard (st : ApproachState) : applyOutcome i p (.discard st) s =
    if nearerOrNone s.approaches[i] p then
      s.setApproach i { s.approaches[i] with state := st, deadline := none, deadlineHead := none }
    else s := rfl

/-- D_new is taken: there is no deadline, the head is nearer, or D_new is earlier (R47). -/
def TakesDeadline (r : ApproachRecord) (p : Nat) (d : Time) : Prop :=
  nearerOrNone r p = true ∨ ∃ d0, r.deadline = some d0 ∧ reached d d0 = false

/-- The approach with D_new for its deadline (R47). -/
def armedAt (i : Fin 4) (p : Nat) (d : Time) (s : State) : State :=
  s.setApproach i { s.approaches[i] with state := .armed, deadline := some d, deadlineHead := some p }

theorem applyOutcome_deadline_taken {d : Time} (h : TakesDeadline s.approaches[i] p d) :
    applyOutcome i p (.deadline d) s =
      if reached s.now d then strike i .timed (armedAt i p d s) else armedAt i p d s := by
  unfold applyOutcome
  refine if_pos ?_
  rcases h with h | ⟨d0, hd0, hr⟩
  · rw [h, Bool.true_or]
  · simp only [hd0, earlier, hr, Bool.not_false, Bool.or_true]

theorem applyOutcome_deadline_kept {d : Time} (h : ¬ TakesDeadline s.approaches[i] p d) :
    applyOutcome i p (.deadline d) s = s := by
  obtain ⟨hnear, hsoon⟩ := not_or.1 h
  unfold applyOutcome
  refine if_neg ?_
  rw [Bool.eq_false_iff.2 hnear, Bool.false_or]
  cases hd : s.approaches[i].deadline with
  | none => exact absurd ((nearerOrNone_iff _ p).2 (.inl hd)) hnear
  | some d0 => simpa [earlier] using fun hr => hsoon ⟨d0, hd, hr⟩

end

/-- Settles O33: the tests in their order, then the outcomes one by one. -/
theorem measuredWheelIsJudged : Obligations.MeasuredWheelIsJudged := by
  refine ⟨?_, fun s i p st d => ?_⟩
  · intro s i p v vE first g h last hp e judged lost restoring final timed hlast hh
    have hgone : finalHeadGone s (s.approachEntry i) = true ↔ lost := finalHeadGone_iff hlast hp
    refine ⟨wheelOutcome_invalid, fun hv hl => wheelOutcome_lost hv (hgone.2 hl),
      fun hv hl => wheelOutcome_restoring hv (mt hgone.1 hl), fun hv hl hr hg => ?_⟩
    have hjudged := wheelOutcome_timed (first := first) hv (mt hgone.1 hl) hr hg hh
    refine ⟨fun hcreep => ?_, fun hcreep hside hhalt => ?_, fun hcreep hhalt d hd => ?_⟩
    · exact hjudged.trans (if_pos hcreep)
    · exact hjudged.trans ((if_neg (Nat.not_lt.2 hcreep)).trans (if_pos ⟨hside, hhalt⟩))
    · have hfast : ¬ vE < (s.approachEntry i).vCreep := Nat.not_lt.2 hcreep
      have hpass : ¬ (h.haltSide = true ∧ vE ≤ (s.approachEntry i).vHalt) := fun hside =>
        hhalt.elim (fun hh => by simp [hh] at hside) fun hv => Nat.not_lt.2 hside.2 hv
      have hfigures : s.derivedFigures = d := by rw [State.derivedFigures, hd]; rfl
      rw [if_neg hfast, if_neg hpass, hfigures] at hjudged
      exact hjudged
  · intro r nearer sooner sets armed
    have hnear : nearerOrNone r p = true ↔ nearer := nearerOrNone_iff r p
    have htakes : TakesDeadline r p d ↔ nearer ∨ sooner := or_congr_left hnear
    refine ⟨rfl, fun cause => rfl, fun h => if_pos (hnear.2 h), fun h => if_neg (mt hnear.1 h),
      fun h hr => ?_, fun h hr => ?_, fun hn hs => ?_⟩
    · exact (applyOutcome_deadline_taken (htakes.2 h)).trans (if_neg (by simp [hr]))
    · exact (applyOutcome_deadline_taken (htakes.2 h)).trans (if_pos hr)
    · exact applyOutcome_deadline_kept (mt htakes.1 (not_or.2 ⟨hn, hs⟩))

end Sys2Proof.Machine
end

section
/-! SUPPORT. What one approach sees of the part, and what it changes: the approaches take one event one after another,
each as though it were alone (R37, R59). -/

namespace Sys2Proof.Machine

set_option Elab.async false

/-! ## What an approach sees -/

/-- Two states in which approach `i` sees the same: the tables and figures, the heads, the sections, the time, the
crossing, and its own record. -/
structure Alike (i : Fin 4) (s u : State) : Prop where
  tm : u.tm = s.tm
  heads : u.heads = s.heads
  sections : u.sections = s.sections
  now : u.now = s.now
  crossing : u.crossing = s.crossing
  record : u.approaches[i] = s.approaches[i]

theorem Alike.refl (i : Fin 4) (s : State) : Alike i s s := ⟨rfl, rfl, rfl, rfl, rfl, rfl⟩

theorem Alike.symm {i : Fin 4} {s u : State} (h : Alike i s u) : Alike i u s :=
  ⟨h.tm.symm, h.heads.symm, h.sections.symm, h.now.symm, h.crossing.symm, h.record.symm⟩

theorem Alike.trans {i : Fin 4} {s t u : State} (h : Alike i s t) (k : Alike i t u) : Alike i s u :=
  ⟨k.tm.trans h.tm, k.heads.trans h.heads, k.sections.trans h.sections, k.now.trans h.now,
    k.crossing.trans h.crossing, k.record.trans h.record⟩

/-- What the Approach Timer moves besides its records no approach sees. -/
theorem Alike.of_record {i : Fin 4} {ps : List Part} {s u : State} (h : Frame ps s u)
    (hrecord : u.approaches[i] = s.approaches[i])
    (hps : ps ⊆ [.approaches, .banks, .faults, .newFault] := by decide) : Alike i s u :=
  have h := h.mono hps
  ⟨h.tableManager (by decide) (by decide) (by decide), h.heads (by decide), h.sections (by decide),
    h.now (by decide), h.crossing (by decide), hrecord⟩

/-- A record is as it was where a frame leaves the approaches alone. -/
theorem Frame.approach {ps : List Part} {s u : State} (h : Frame ps s u) (i : Fin 4) (m : Part.approaches ∉ ps) :
    u.approaches[i] = s.approaches[i] := congrArg (fun a : Vector ApproachRecord 4 => a[i]) (h.approaches m)

theorem Alike.of_frame {i : Fin 4} {ps : List Part} {s u : State} (h : Frame ps s u)
    (hps : ps ⊆ [.banks, .faults, .newFault] := by decide) : Alike i s u :=
  have h := h.mono hps
  .of_record h (h.approach i (by decide))

section
variable {i : Fin 4} {s u : State}

theorem setApproach_self (i : Fin 4) (r : ApproachRecord) (s : State) : (s.setApproach i r).approaches[i] = r :=
  Vector.getElem_set_self _

theorem setApproach_other {j : Fin 4} (hij : i ≠ j) (r : ApproachRecord) (s : State) :
    (s.setApproach j r).approaches[i] = s.approaches[i] :=
  Vector.getElem_set_ne j.isLt i.isLt fun h => hij (Fin.ext h.symm)

theorem setApproach_same (i : Fin 4) (s : State) : s.setApproach i s.approaches[i] = s := by
  simp only [State.setApproach, Fin.getElem_fin, Vector.set_getElem_self]

theorem Alike.entry (h : Alike i s u) : u.approachEntry i = s.approachEntry i := by
  rw [State.approachEntry, h.tm]; rfl

theorem Alike.params (h : Alike i s u) : u.params = s.params := by rw [State.params, h.tm]; rfl

theorem Alike.sectionFree (h : Alike i s u) (ref : Nat) : sectionFree u ref = sectionFree s ref := by
  simp only [Machine.sectionFree, h.sections]

theorem Alike.acts (h : Alike i s u) : approachActs u i = approachActs s i := by
  rw [approachActs, h.entry, h.crossing]; rfl

theorem Alike.setApproach (h : Alike i s u) (r : ApproachRecord) :
    Alike i (s.setApproach i r) (u.setApproach i r) :=
  ⟨h.tm, h.heads, h.sections, h.now, h.crossing, (setApproach_self i r u).trans (setApproach_self i r s).symm⟩

/-! ## Strikes, outcomes and releases -/

/-- A strike makes no more of what the approach sees than the record filled. -/
theorem alike_strike (h : s.approaches[i].state ≠ .struck) (cause : StrikeCause) :
    Alike i (s.setApproach i (struckRecord i cause s)) (strike i cause s) := by
  rw [strike_of_not_struck h]
  split
  · exact .of_frame (eventEntered_frame ..)
  · exact .refl i _

/-- A release makes no more of what the approach sees than the record IDLE. -/
theorem alike_release (i : Fin 4) (s : State) : Alike i (s.setApproach i .cold) (release i s) :=
  .of_frame (release_idle_frame i s)

theorem Alike.release (h : Alike i s u) : Alike i (release i s) (release i u) :=
  (alike_release i s).symm.trans ((h.setApproach .cold).trans (alike_release i u))

theorem Alike.strike (h : Alike i s u) (cause : StrikeCause) : Alike i (strike i cause s) (strike i cause u) := by
  by_cases hs : s.approaches[i].state = .struck
  · rw [strike_of_struck hs, strike_of_struck ((congrArg ApproachRecord.state h.record).trans hs)]
    exact h
  · have hu : u.approaches[i].state ≠ .struck := fun hu => hs ((congrArg ApproachRecord.state h.record).symm.trans hu)
    have hrecord : struckRecord i cause u = struckRecord i cause s := by
      simp only [struckRecord, h.record, h.now, h.entry, h.sectionFree]
    have hset := h.setApproach (struckRecord i cause s)
    rw [← hrecord] at hset
    exact ((alike_strike hs cause).symm.trans (hrecord ▸ hset)).trans (alike_strike hu cause)

theorem Alike.wheelOutcome (h : Alike i s u) (p v : Nat) (first : Bool) (g : GroupContext) :
    wheelOutcome u i p first v g = wheelOutcome s i p first v g := by
  simp only [Machine.wheelOutcome, h.entry, finalHeadGone, h.heads, sectionState, h.sections, State.derivedFigures,
    h.tm]
  rfl

theorem Alike.applyOutcome (h : Alike i s u) (p : Nat) (o : WheelOutcome) :
    Alike i (applyOutcome i p o s) (applyOutcome i p o u) := by
  cases o with
  | nothing => exact h
  | strike cause => exact h.strike cause
  | discard st =>
    rw [applyOutcome_discard, applyOutcome_discard, h.record]
    split
    · exact h.setApproach _
    · exact h
  | deadline d =>
    by_cases ht : TakesDeadline s.approaches[i] p d
    · rw [applyOutcome_deadline_taken ht, applyOutcome_deadline_taken (h.record ▸ ht), h.now]
      have harmed : Alike i (armedAt i p d s) (armedAt i p d u) := by
        unfold armedAt
        rw [h.record]
        exact h.setApproach _
      split
      · exact harmed.strike .timed
      · exact harmed
    · rw [applyOutcome_deadline_kept ht, applyOutcome_deadline_kept (h.record ▸ ht)]
      exact h

end

/-! ## What the other approaches keep -/

/-- Every approach but `j` has its record as it was. -/
structure OthersKept (j : Fin 4) (s t : State) : Prop where
  kept : ∀ i : Fin 4, i ≠ j → t.approaches[i] = s.approaches[i]

theorem OthersKept.refl (j : Fin 4) (s : State) : OthersKept j s s := ⟨fun _ _ => rfl⟩

theorem OthersKept.trans {j : Fin 4} {s t u : State} (h : OthersKept j s t) (k : OthersKept j t u) :
    OthersKept j s u := ⟨fun i hij => (k.kept i hij).trans (h.kept i hij)⟩

theorem OthersKept.of_frame {ps : List Part} {s t : State} (h : Frame ps s t) (j : Fin 4)
    (hps : Part.approaches ∉ ps := by decide) : OthersKept j s t := ⟨fun i _ => h.approach i hps⟩

theorem setApproach_others (j : Fin 4) (r : ApproachRecord) (s : State) : OthersKept j s (s.setApproach j r) :=
  ⟨fun _ hij => setApproach_other hij r s⟩

theorem strike_others (j : Fin 4) (cause : StrikeCause) (s : State) : OthersKept j s (strike j cause s) := by
  by_cases h : s.approaches[j].state = .struck
  · rw [strike_of_struck h]
    exact .refl j s
  · rw [strike_of_not_struck h]
    split
    · exact (setApproach_others ..).trans (.of_frame (eventEntered_frame ..) j)
    · exact setApproach_others ..

theorem release_others (j : Fin 4) (s : State) : OthersKept j s (release j s) :=
  (setApproach_others ..).trans (.of_frame (release_idle_frame j s) j)

theorem applyOutcome_others (j : Fin 4) (p : Nat) (o : WheelOutcome) (s : State) :
    OthersKept j s (applyOutcome j p o s) := by
  cases o with
  | nothing => exact .refl j s
  | strike cause => exact strike_others ..
  | discard st =>
    rw [applyOutcome_discard]
    split
    · exact setApproach_others ..
    · exact .refl j s
  | deadline d =>
    by_cases ht : TakesDeadline s.approaches[j] p d
    · rw [applyOutcome_deadline_taken ht]
      split
      · exact (setApproach_others ..).trans (strike_others ..)
      · exact setApproach_others ..
    · rw [applyOutcome_deadline_kept ht]
      exact .refl j s

/-! ## One after another -/

/-- Where each approach changes its own record alone, and by what it sees, the event that all take one after another
leaves each record as its own turn would. -/
theorem forEach_alone {f : Fin 4 → State → State}
    (hframe : ∀ j s, Frame [.approaches, .banks, .faults, .newFault] s (f j s))
    (hothers : ∀ j s, OthersKept j s (f j s)) (halike : ∀ j s u, Alike j s u → Alike j (f j s) (f j u))
    (s : State) (i : Fin 4) : (forEach 4 f s).approaches[i] = (f i s).approaches[i] := by
  have hbefore {j : Fin 4} {u : State} (hij : i ≠ j) (hu : Alike i s u) : Alike i s (f j u) :=
    hu.trans (.of_record (hframe j u) ((hothers j u).kept i hij))
  have hafter {j : Fin 4} {u : State} (hij : i ≠ j) (hu : Alike i (f i s) u) : Alike i (f i s) (f j u) :=
    hu.trans (.of_record (hframe j u) ((hothers j u).kept i hij))
  have stays (l : List (Fin 4)) (hl : i ∉ l) (u : State) (hu : Alike i (f i s) u) :
      Alike i (f i s) (l.foldl (fun u j => f j u) u) := by
    induction l generalizing u with
    | nil => exact hu
    | cons j l ih =>
      obtain ⟨hij, hl⟩ := not_or.1 (mt List.mem_cons.2 hl)
      exact ih hl _ (hafter hij hu)
  have reached (l : List (Fin 4)) (hl : l.Nodup) (hi : i ∈ l) (u : State) (hu : Alike i s u) :
      Alike i (f i s) (l.foldl (fun u j => f j u) u) := by
    induction l generalizing u with
    | nil => cases hi
    | cons j l ih =>
      obtain ⟨hj, hl⟩ := List.nodup_cons.1 hl
      rcases List.mem_cons.1 hi with rfl | hi
      · exact stays l hj _ (halike i s u hu)
      · exact ih hl hi _ (hbefore (fun hij => hj (hij ▸ hi)) hu)
  exact (reached _ (List.nodup_finRange 4) (List.mem_finRange i) s (.refl i s)).record

end Sys2Proof.Machine
end

section
/-! SUPPORT. A timing wheel: its group, the speed measured, and which approaches take it (R37, R39 to R42). -/

namespace Sys2Proof.Machine

set_option Elab.async false

/-! ## The group (R41) -/

theorem continues_iff (g : GroupContext) (p : Nat) (arrival : Time) (gap : Nat) : g.continues p arrival gap = true ↔
    g.groupHead = some p ∧ (arrival - g.lastWheelTime).toNat ≤ gap := by
  simp [GroupContext.continues]

/-- The wheel of speed `v` raises v_e: it is valid, and higher than v_e or the first (R41). -/
def Raises (g : GroupContext) (v : Nat) : Prop := v ≤ 8000 ∧ ∀ u, g.vE = some u → u < v

theorem measure_raises {g : GroupContext} {v : Nat} (h : Raises g v) :
    g.measure v = { g with wheelsUsed := g.wheelsUsed + 1, vE := some v } := by
  obtain ⟨hv, hu⟩ := h
  have hspeed : v ≤ Config.speedMax := hv
  unfold GroupContext.measure
  cases hg : g.vE with
  | none => simp [hspeed]
  | some u => simp [hspeed, hu u hg]

theorem measure_keeps {g : GroupContext} {v : Nat} (h : ¬ Raises g v) :
    g.measure v = { g with wheelsUsed := g.wheelsUsed + 1 } := by
  unfold GroupContext.measure
  cases hg : g.vE with
  | none =>
    have hspeed : ¬ v ≤ Config.speedMax := fun hv => h ⟨hv, by simp [hg]⟩
    simp [hspeed]
  | some u =>
    have hslow : ¬ (v ≤ Config.speedMax ∧ u < v) := fun hv => h ⟨hv.1, by simpa [hg] using hv.2⟩
    simpa using fun hv hu => absurd ⟨hv, hu⟩ hslow

/-! ## A wheel at a position (R39, R41, R42) -/

section
variable (i : Fin 4) (p : Nat) (w : WheelEvent) (s : State)

/-- The group the wheel belongs to: that of the record, or a new one (R41). -/
def groupAt : GroupContext :=
  if s.approaches[i].group.continues p w.arrival s.params.groupGap then
    { s.approaches[i].group with lastWheelTime := w.arrival }
  else .fresh p w.arrival

/-- The wheel starts a new group (R41). -/
def startsGroup : Bool := !s.approaches[i].group.continues p w.arrival s.params.groupGap

/-- The speed of the wheel (R40). -/
def speedAt : Nat := s.tm.tables.dpt[w.head].spacing * 100000 / w.interval

/-- The approach with a group. -/
def withGroup (g : GroupContext) : State := s.setApproach i { s.approaches[i] with group := g }

/-- The wheel is judged, but by a STRUCK approach; `t` is the part with the group `g` taken and its events entered. -/
def judgedWheel (g : GroupContext) (t : State) : State :=
  if s.approaches[i].state = .struck then t
  else applyOutcome i p (wheelOutcome t i p (startsGroup i p w s) (speedAt w s) g) t

/-- v_e has been raised above v_line, for the first time in the group (R42). -/
def overspeeds (g : GroupContext) (vLine : Nat) (g0 : GroupContext) : Bool :=
  g.vE != g0.vE && decide (vLine < g.vE.getD 0) && !g0.overspeedEntered

variable {i p w s}

theorem timingWheel_used_up (h : 4 ≤ (groupAt i p w s).wheelsUsed) :
    timingWheel i p w s = withGroup i s (groupAt i p w s) := if_pos h

theorem speedAt_eq (w : WheelEvent) (s : State) :
    wheelSpeed ((dptAt s w.head.val).map (·.spacing) |>.getD 0) w.interval = speedAt w s := by
  simp [dptAt, wheelSpeed, speedAt]

theorem timingWheel_measured (h : (groupAt i p w s).wheelsUsed < 4) :
    let g := (groupAt i p w s).measure (speedAt w s)
    timingWheel i p w s =
      if overspeeds g (s.approachEntry i).vLine (groupAt i p w s) then
        judgedWheel i p w s { g with overspeedEntered := true }
          (eventEntered .overspeed (some i.val) none (withGroup i s { g with overspeedEntered := true }))
      else judgedWheel i p w s g (withGroup i s g) := by
  intro g
  have hroom : ¬ Config.groupWheels ≤ (groupAt i p w s).wheelsUsed := Nat.not_le.2 h
  have heq : timingWheel i p w s =
      let fast := overspeeds g (s.approachEntry i).vLine (groupAt i p w s)
      let g := if fast then { g with overspeedEntered := true } else g
      judgedWheel i p w s g (if fast then eventEntered .overspeed (some i.val) none (withGroup i s g)
        else withGroup i s g) := by
    unfold timingWheel
    dsimp only
    rw [speedAt_eq]
    exact if_neg hroom
  rw [heq]
  cases overspeeds g (s.approachEntry i).vLine (groupAt i p w s) <;> rfl

end

section
variable {i : Fin 4} {p : Nat} {w : WheelEvent} {s : State}

theorem timingWheel_keeps (h : (groupAt i p w s).wheelsUsed < 4) (hr : ¬ Raises (groupAt i p w s) (speedAt w s)) :
    let g := { groupAt i p w s with wheelsUsed := (groupAt i p w s).wheelsUsed + 1 }
    timingWheel i p w s = judgedWheel i p w s g (withGroup i s g) := by
  intro g
  rw [timingWheel_measured h, measure_keeps hr, if_neg (by simp [overspeeds])]

/-- A raised v_e is not the one before. -/
theorem Raises.ne {g : GroupContext} {v : Nat} (h : Raises g v) : (some v != g.vE) = true :=
  bne_iff_ne.2 fun hv => Nat.lt_irrefl v (h.2 v hv.symm)

theorem timingWheel_raises (h : (groupAt i p w s).wheelsUsed < 4) (hr : Raises (groupAt i p w s) (speedAt w s))
    (hslow : speedAt w s ≤ (s.approachEntry i).vLine ∨ (groupAt i p w s).overspeedEntered = true) :
    let g := { groupAt i p w s with wheelsUsed := (groupAt i p w s).wheelsUsed + 1, vE := some (speedAt w s) }
    timingWheel i p w s = judgedWheel i p w s g (withGroup i s g) := by
  intro g
  rw [timingWheel_measured h, measure_raises hr, if_neg]
  rcases hslow with hslow | hslow
  · simp [overspeeds, Nat.not_lt.2 hslow]
  · simp [overspeeds, hslow]

theorem timingWheel_overspeeds (h : (groupAt i p w s).wheelsUsed < 4)
    (hr : Raises (groupAt i p w s) (speedAt w s)) (hfast : (s.approachEntry i).vLine < speedAt w s)
    (hentered : (groupAt i p w s).overspeedEntered = false) :
    let g := { groupAt i p w s with
      wheelsUsed := (groupAt i p w s).wheelsUsed + 1, vE := some (speedAt w s), overspeedEntered := true }
    timingWheel i p w s =
      judgedWheel i p w s g (eventEntered .overspeed (some i.val) none (withGroup i s g)) := by
  intro g
  rw [timingWheel_measured h, measure_raises hr, if_pos]
  simp only [overspeeds, hr.ne, Option.getD_some, hfast, hentered, decide_true, Bool.not_false, Bool.and_true]

end

/-! ## Which approaches take the wheel (R37, R39) -/

theorem withGroup_frame (i : Fin 4) (g : GroupContext) (s : State) : Frame [.approaches] s (withGroup i s g) :=
  (Frame.refl _ s).setApproach

theorem timingWheel_others (j : Fin 4) (p : Nat) (w : WheelEvent) (s : State) :
    OthersKept j s (timingWheel j p w s) := by
  have hgroup (g : GroupContext) : OthersKept j s (withGroup j s g) := setApproach_others ..
  have hjudged {g : GroupContext} {t : State} (ht : OthersKept j s t) : OthersKept j s (judgedWheel j p w s g t) := by
    unfold judgedWheel
    split
    · exact ht
    · exact ht.trans (applyOutcome_others ..)
  by_cases h : 4 ≤ (groupAt j p w s).wheelsUsed
  · rw [timingWheel_used_up h]
    exact hgroup _
  · rw [timingWheel_measured (Nat.not_le.1 h)]
    split
    · exact hjudged ((hgroup _).trans (.of_frame (eventEntered_frame ..) j))
    · exact hjudged (hgroup _)

theorem Alike.timingWheel {i : Fin 4} {s u : State} (h : Alike i s u) (p : Nat) (w : WheelEvent) :
    Alike i (timingWheel i p w s) (timingWheel i p w u) := by
  have hat : groupAt i p w u = groupAt i p w s := by rw [groupAt, h.record, h.params]; rfl
  have hspeed : speedAt w u = speedAt w s := by rw [speedAt, h.tm]; rfl
  have hgroup (g : GroupContext) : Alike i (withGroup i s g) (withGroup i u g) := by
    rw [withGroup, withGroup, h.record]
    exact h.setApproach _
  have hjudged {g : GroupContext} {t v : State} (ht : Alike i t v) :
      Alike i (judgedWheel i p w s g t) (judgedWheel i p w u g v) := by
    unfold judgedWheel startsGroup
    rw [h.record, h.params, hspeed, ht.wheelOutcome]
    split
    · exact ht
    · exact ht.applyOutcome ..
  by_cases hn : 4 ≤ (groupAt i p w s).wheelsUsed
  · rw [timingWheel_used_up hn, timingWheel_used_up (hat ▸ hn), hat]
    exact hgroup _
  · rw [timingWheel_measured (Nat.not_le.1 hn), timingWheel_measured (hat ▸ Nat.not_le.1 hn), hat, hspeed, h.entry]
    split
    · exact hjudged (((hgroup _).symm.trans (.of_frame (eventEntered_frame ..))).symm.trans
        (.of_frame (eventEntered_frame ..)))
    · exact hjudged (hgroup _)

/-- The wheel is taken by an approach: it runs TOWARD at a timing head, and the approach acts (R37, R39). -/
def takesWheel (w : WheelEvent) (i : Fin 4) (s : State) : State :=
  if approachActs s i && w.direction == .toward then
    match (s.approachEntry i).positionOf w.head.val with
    | some p => timingWheel i p w s
    | none => s
  else s

theorem approachWheel_eq (w : WheelEvent) (s : State) : approachWheel w s = forEach 4 (takesWheel w) s := rfl

theorem takesWheel_none {w : WheelEvent} {i : Fin 4} {s : State}
    (h : (approachActs s i && w.direction == .toward) = false ∨ (s.approachEntry i).positionOf w.head.val = none) :
    takesWheel w i s = s := by
  unfold takesWheel
  split
  next hc =>
    have hpos := h.resolve_left (by simp [hc])
    rw [hpos]
  next => rfl

theorem takesWheel_some {w : WheelEvent} {i : Fin 4} {p : Nat} {s : State}
    (h : (approachActs s i && w.direction == .toward) = true)
    (hp : (s.approachEntry i).positionOf w.head.val = some p) : takesWheel w i s = timingWheel i p w s := by
  rw [takesWheel, if_pos h, hp]

theorem takesWheel_cases (w : WheelEvent) (i : Fin 4) (s : State) :
    takesWheel w i s = s ∨ ∃ p, takesWheel w i s = timingWheel i p w s := by
  by_cases h : (approachActs s i && w.direction == .toward) = true
  · cases hp : (s.approachEntry i).positionOf w.head.val with
    | none => exact .inl (takesWheel_none (.inr hp))
    | some p => exact .inr ⟨p, takesWheel_some h hp⟩
  · exact .inl (takesWheel_none (.inl (Bool.not_eq_true _ ▸ h)))

theorem takesWheel_frame (w : WheelEvent) (i : Fin 4) (s : State) :
    Frame [.approaches, .faults, .newFault] s (takesWheel w i s) := by
  obtain h | ⟨p, h⟩ := takesWheel_cases w i s
  · rw [h]
    exact .refl _ s
  · rw [h]
    exact timingWheel_frame ..

theorem takesWheel_others (w : WheelEvent) (j : Fin 4) (s : State) : OthersKept j s (takesWheel w j s) := by
  obtain h | ⟨p, h⟩ := takesWheel_cases w j s
  · rw [h]
    exact .refl j s
  · rw [h]
    exact timingWheel_others ..

theorem Alike.takesWheel {i : Fin 4} {s u : State} (h : Alike i s u) (w : WheelEvent) :
    Alike i (takesWheel w i s) (takesWheel w i u) := by
  unfold Machine.takesWheel
  rw [h.acts, h.entry]
  split
  · split
    · exact h.timingWheel ..
    · exact h
  · exact h

theorem approachWheel_alone (w : WheelEvent) (s : State) (i : Fin 4) :
    (approachWheel w s).approaches[i] = (takesWheel w i s).approaches[i] :=
  forEach_alone (fun j s => (takesWheel_frame w j s).mono (by decide)) (takesWheel_others w)
    (fun _ _ _ h => h.takesWheel w) s i

theorem positionOf_none_iff (e : ApproachEntry) (head : Nat) :
    e.positionOf head = none ↔ ∀ h ∈ e.timingHeads, h.head ≠ head := by
  simp [ApproachEntry.positionOf, List.findIdx?_eq_none_iff]

/-- An approach acts where it is in service and the crossing is in use (R37). -/
theorem approachActs_iff (s : State) (i : Fin 4) :
    approachActs s i = true ↔ s.tm.tables.approach[i].inService = true ∧ s.crossing.state ≠ .outOfUse := by
  simp [approachActs, State.approachEntry]

theorem actsToward_iff (w : WheelEvent) (s : State) (i : Fin 4) :
    (approachActs s i && w.direction == .toward) = true ↔
      s.tm.tables.approach[i].inService = true ∧ s.crossing.state ≠ .outOfUse ∧ w.direction = .toward := by
  rw [Bool.and_eq_true, approachActs_iff, beq_iff_eq, and_assoc]

/-- Settles O32: the group and the speed case by case; then which approaches take the wheel, each as if alone. -/
theorem wheelsAreMeasuredInGroups : Obligations.WheelsAreMeasuredInGroups := by
  refine ⟨?_, fun s w => ?_, fun s w i => ⟨fun p ht hp => ?_, fun h => ?_⟩⟩
  · intro s i p w e r joins sets v fresh g first hjoins hnew
    have hat : g = groupAt i p w s ∧ first = startsGroup i p w s := by
      have hiff : r.group.continues p w.arrival s.params.groupGap = true ↔ joins := continues_iff ..
      unfold groupAt startsGroup
      by_cases hj : joins
      · rw [hiff.2 hj]
        exact hjoins hj
      · rw [Bool.eq_false_iff.2 (mt hiff.1 hj)]
        exact hnew hj
    obtain ⟨rfl, rfl⟩ := hat
    refine ⟨timingWheel_used_up, fun hn => ?_⟩
    intro raises taken used raised
    have htaken {u : State} {g' : GroupContext} (h : timingWheel i p w s = judgedWheel i p w s g' u) :
        taken u g' :=
      ⟨fun hs => h.trans (if_pos hs), fun hs => h.trans (if_neg hs)⟩
    exact ⟨fun hr => htaken (timingWheel_keeps hn hr), fun hr hslow => htaken (timingWheel_raises hn hr hslow),
      fun hr hfast hentered => htaken (timingWheel_overspeeds hn hr hfast hentered)⟩
  · intro heads
    rw [approachWheel_eq]
    refine forEach_congr (Q := fun _ u => u.tm.tables = s.tm.tables ∧ u.crossing = s.crossing) (fun i u hu => ?_)
      (fun i j u _ hu => ?_) fun _ => ⟨rfl, rfl⟩
    · obtain ⟨htables, hcrossing⟩ := hu
      have hiff := actsToward_iff w u i
      rw [htables, hcrossing] at hiff
      have hentry : u.approachEntry i = s.tm.tables.approach[i] := by rw [State.approachEntry, htables]
      unfold takesWheel
      rw [hentry, ApproachEntry.positionOf]
      simp only [hiff]
      rfl
    · have hframe := takesWheel_frame w j u
      exact ⟨(hframe.tables (by decide)).trans hu.1, (hframe.crossing (by decide)).trans hu.2⟩
  · rw [approachWheel_alone, takesWheel_some ((actsToward_iff w s i).2 ht) hp]
  · rw [approachWheel_alone, takesWheel_none]
    exact h.imp (fun ht => Bool.eq_false_iff.2 (mt (actsToward_iff w s i).1 ht)) (positionOf_none_iff _ w.head.val).2

end Sys2Proof.Machine
end

section
/-! SUPPORT. What a section change report tells of a section, and what an approach makes of it (R25, R50 to R55). -/

namespace Sys2Proof.Machine

set_option Elab.async false

/-! ## What the report tells of a section -/

theorem find?_index {n : Nat} (listed : Fin n → Bool) (k : Fin n) :
    ((List.finRange n).filter listed).find? (fun i => i.val == k.val) = if listed k then some k else none := by
  rw [List.find?_filter]
  cases hfind : (List.finRange n).find? fun i => decide (listed i = true ∧ (i.val == k.val) = true) with
  | some i =>
    obtain ⟨hl, hik⟩ : listed i = true ∧ (i.val == k.val) = true := by simpa using List.find?_some hfind
    obtain rfl : i = k := Fin.ext (by simpa using hik)
    rw [if_pos hl]
  | none =>
    have hk := List.find?_eq_none.1 hfind k (List.mem_finRange k)
    rw [if_neg (by simpa using hk)]

/-- The entry of a section that a report lists (R25). -/
def entryOf (before s : State) (k : Fin 8) : ReportEntry :=
  { index := k.val, stateBefore := before.sections[k].state, stateAfter := s.sections[k].state,
    countAfter := s.sections[k].count, freeBefore := before.sections[k].free, freeAfter := s.sections[k].free }

theorem sectionReport_entry (cause : ReportCause) (before s : State) (k : Fin 8) :
    (sectionReport cause before s).entry k.val = if sectionListed before s k then some (entryOf before s k)
    else none := by
  rw [SectionReport.entry, sectionReport_entries, List.find?_map]
  simp only [Function.comp_def, find?_index]
  split <;> rfl

/-- A section that does not exist the report does not list. -/
theorem sectionReport_entry_past (cause : ReportCause) (before s : State) {ref : Nat} (h : 8 ≤ ref) :
    (sectionReport cause before s).entry ref = none := by
  rw [SectionReport.entry, sectionReport_entries, List.find?_eq_none]
  intro x hx
  obtain ⟨k, -, rfl⟩ := List.mem_map.1 hx
  simp only [beq_iff_eq]
  omega

/-- The section an index names is in service or as it was, so that the report tells of any change of it. -/
def Told (before s : State) (ref : Nat) : Prop :=
  ∀ k : Fin 8, k.val = ref → s.tm.tables.sectionTable[k].inService = true ∨ s.sections[k] = before.sections[k]

/-- The section an index names has become DISTURBED. -/
def BecomesDisturbed (before s : State) (ref : Nat) : Prop :=
  SectionDisturbedAt s ref ∧ ¬ SectionDisturbedAt before ref

/-- The section an index names goes from free to not free. -/
def IsTaken (before s : State) (ref : Nat) : Prop := sectionFree before ref = true ∧ sectionFree s ref = false

/-- The section an index names goes from not free to free. -/
def IsFreed (before s : State) (ref : Nat) : Prop := sectionFree before ref = false ∧ sectionFree s ref = true

theorem sectionFree_at (s : State) (k : Fin 8) : sectionFree s k.val = s.sections[k].free := by
  simp [sectionFree]

theorem sectionDisturbedAt_iff (s : State) (k : Fin 8) :
    SectionDisturbedAt s k.val ↔ s.sections[k].state = .disturbed := by
  simp [SectionDisturbedAt]

theorem not_disturbed_past (s : State) {ref : Nat} (h : 8 ≤ ref) : ¬ SectionDisturbedAt s ref :=
  fun ⟨hlt, _⟩ => Nat.not_lt.2 h hlt

theorem sectionFree_past (s : State) {ref : Nat} (h : 8 ≤ ref) : sectionFree s ref = false := by
  simp [sectionFree, h]

theorem sectionFree_lt {s : State} {ref : Nat} (h : sectionFree s ref = true) : ref < 8 := by
  by_contra hlt
  rw [sectionFree_past s (Nat.not_lt.1 hlt)] at h
  cases h

/-- A DISTURBED section is not free (R18). -/
theorem sectionFree_disturbed {s : State} {ref : Nat} (h : SectionDisturbedAt s ref) : sectionFree s ref = false := by
  obtain ⟨hlt, hstate⟩ := h
  simp [sectionFree, hlt, SectionRecord.free, hstate]

/-- A section that is told of is listed where its state or its freedom has changed. -/
theorem told_listed {before s : State} {k : Fin 8} (h : Told before s k.val) : sectionListed before s k =
    decide (before.sections[k].state ≠ s.sections[k].state ∨ before.sections[k].free ≠ s.sections[k].free) := by
  rw [sectionListed_eq]
  rcases h k rfl with h | h
  · rw [h, Bool.true_and]
  · simp [h]

/-- Of a section that is told of, the entry says each thing that comes of a change. -/
theorem entry_any_iff {before s : State} {ref : Nat} (h : Told before s ref) (cause : ReportCause)
    {p : ReportEntry → Bool}
    (hp : ∀ x, p x = true → x.stateBefore ≠ x.stateAfter ∨ x.freeBefore ≠ x.freeAfter) :
    ((sectionReport cause before s).entry ref).any p = true ↔
      ∃ k : Fin 8, k.val = ref ∧ p (entryOf before s k) = true := by
  by_cases hlt : ref < 8
  · obtain ⟨k, rfl⟩ : ∃ k : Fin 8, k.val = ref := ⟨⟨ref, hlt⟩, rfl⟩
    rw [sectionReport_entry, told_listed h]
    constructor
    · split
      · exact fun hk => ⟨k, rfl, hk⟩
      · exact fun hk => by cases hk
    · rintro ⟨j, hj, hk⟩
      obtain rfl := Fin.ext hj
      have hchanged : before.sections[j].state ≠ s.sections[j].state ∨
          before.sections[j].free ≠ s.sections[j].free := hp (entryOf before s j) hk
      rw [if_pos (decide_eq_true hchanged)]
      exact hk
  · rw [sectionReport_entry_past cause before s (Nat.not_lt.1 hlt)]
    exact iff_of_false (by simp) fun ⟨k, hk, _⟩ => hlt (hk ▸ k.isLt)

section
variable {before s : State} {ref : Nat} (h : Told before s ref) (cause : ReportCause)
include h

theorem entry_disturbed_iff :
    ((sectionReport cause before s).entry ref).any (·.disturbed) = true ↔ BecomesDisturbed before s ref := by
  rw [entry_any_iff h cause fun x hx => .inl (by simp_all [ReportEntry.disturbed])]
  simp only [ReportEntry.disturbed, entryOf, Bool.and_eq_true, beq_iff_eq, bne_iff_ne]
  constructor
  · rintro ⟨k, rfl, hs, hb⟩
    exact ⟨(sectionDisturbedAt_iff s k).2 hs, mt (sectionDisturbedAt_iff before k).1 hb⟩
  · rintro ⟨⟨hlt, hs⟩, hb⟩
    exact ⟨⟨ref, hlt⟩, rfl, hs, fun h => hb ⟨hlt, h⟩⟩

theorem entry_taken_iff :
    ((sectionReport cause before s).entry ref).any (·.taken) = true ↔ IsTaken before s ref := by
  rw [entry_any_iff h cause fun x hx => .inr (by simp_all [ReportEntry.taken])]
  simp only [ReportEntry.taken, entryOf, Bool.and_eq_true, Bool.not_eq_true', IsTaken]
  constructor
  · rintro ⟨k, rfl, hk⟩
    rwa [sectionFree_at, sectionFree_at]
  · rintro ⟨hb, hs⟩
    have hlt : ref < 8 := sectionFree_lt hb
    exact ⟨⟨ref, hlt⟩, rfl, (sectionFree_at before ⟨ref, hlt⟩).symm.trans hb, (sectionFree_at s ⟨ref, hlt⟩).symm.trans hs⟩

theorem entry_freed_iff :
    ((sectionReport cause before s).entry ref).any (·.freed) = true ↔ IsFreed before s ref := by
  rw [entry_any_iff h cause fun x hx => .inr (by simp_all [ReportEntry.freed])]
  simp only [ReportEntry.freed, entryOf, Bool.and_eq_true, Bool.not_eq_true', IsFreed]
  constructor
  · rintro ⟨k, rfl, hk⟩
    rwa [sectionFree_at, sectionFree_at]
  · rintro ⟨hb, hs⟩
    have hlt : ref < 8 := sectionFree_lt hs
    exact ⟨⟨ref, hlt⟩, rfl, (sectionFree_at before ⟨ref, hlt⟩).symm.trans hb, (sectionFree_at s ⟨ref, hlt⟩).symm.trans hs⟩

end

/-! ## What an approach makes of any report -/

section
variable {i : Fin 4} {rep : SectionReport} {a b : Nat} {s : State}

/-- A STRUCK approach of the sections `a` and `b` is released if the report lists one of them, the approach section is
free, and the island section too once that has been seen taken (R55). -/
def ReleasedBy (rep : SectionReport) (i : Fin 4) (a b : Nat) (s : State) : Prop :=
  ((rep.entry a).isSome = true ∨ (rep.entry b).isSome = true) ∧ sectionFree s a = true ∧
    (s.approaches[i].islandSeen = true → sectionFree s b = true)

/-- The end of a report for an approach of the sections `a` and `b`: emptied, or released (R52, R55). -/
def endOfReport (rep : SectionReport) (i : Fin 4) (a b : Nat) (s : State) : State :=
  match s.approaches[i].state with
  | .tracking | .armed | .deferred => if (rep.entry a).any (·.freed) then s.setApproach i .cold else s
  | .struck =>
    if ((rep.entry a).isSome || (rep.entry b).isSome) && sectionFree s a &&
        (!s.approaches[i].islandSeen || sectionFree s b) then release i s
    else s
  | .idle => s

theorem endOfReport_eq (rep : SectionReport) (i : Fin 4) (a b : Nat) (s : State) : endOfReport rep i a b s =
    if s.approaches[i].state = .struck then
      s.when (((rep.entry a).isSome || (rep.entry b).isSome) && sectionFree s a &&
        (!s.approaches[i].islandSeen || sectionFree s b)) (release i)
    else s.when (s.approaches[i].state != .idle && (rep.entry a).any (·.freed)) (·.setApproach i .cold) := by
  unfold endOfReport
  split <;> (rename_i hstate; rw [hstate]; rfl)

theorem endOfReport_idle (h : s.approaches[i].state = .idle) : endOfReport rep i a b s = s := by
  rw [endOfReport_eq, h]
  rfl

theorem endOfReport_waiting (hs : s.approaches[i].state ≠ .struck) (hi : s.approaches[i].state ≠ .idle) :
    endOfReport rep i a b s = if (rep.entry a).any (·.freed) then s.setApproach i .cold else s := by
  rw [endOfReport_eq, if_neg hs, bne_iff_ne.2 hi]
  rfl

theorem endOfReport_released (hs : s.approaches[i].state = .struck) (h : ReleasedBy rep i a b s) :
    endOfReport rep i a b s = release i s := by
  obtain ⟨hlisted, hfree, hseen⟩ := h
  rw [endOfReport_eq, if_pos hs]
  refine if_pos ?_
  simp only [Bool.and_eq_true, Bool.or_eq_true, Bool.not_eq_true']
  refine ⟨⟨hlisted, hfree⟩, ?_⟩
  cases hsn : s.approaches[i].islandSeen with
  | false => exact .inl rfl
  | true => exact .inr (hseen hsn)

theorem endOfReport_held (hs : s.approaches[i].state = .struck) (h : ¬ ReleasedBy rep i a b s) :
    endOfReport rep i a b s = s := by
  rw [endOfReport_eq, if_pos hs]
  refine if_neg fun hc => h ?_
  simp only [Bool.and_eq_true, Bool.or_eq_true, Bool.not_eq_true'] at hc
  obtain ⟨⟨hlisted, hfree⟩, hseen⟩ := hc
  exact ⟨hlisted, hfree, fun hsn => hseen.resolve_left fun hf => Bool.false_ne_true (hf.symm.trans hsn)⟩

theorem strike_is_struck (i : Fin 4) (cause : StrikeCause) (s : State) :
    (strike i cause s).approaches[i].state = .struck := by
  by_cases h : s.approaches[i].state = .struck
  · rw [strike_of_struck h]
    exact h
  · rw [(alike_strike h cause).record, setApproach_self]
    rfl

theorem islandTaken_is_struck (h : s.approaches[i].state = .struck) (cause : ReportCause) :
    (islandTaken i cause s).approaches[i].state = .struck := by
  unfold islandTaken
  dsimp only
  split
  · exact h
  · rw [setApproach_self]
    exact h

/-- The four tests of a report, one after another (R50 to R55; log entries 35, 36). -/
theorem approachReport_eq (i : Fin 4) (rep : SectionReport) (s : State) :
    let a := (s.approachEntry i).approachSection
    let b := (s.approachEntry i).islandSection
    approachReport i rep s = endOfReport rep i a b
      (((s.when ((rep.entry a).any (·.disturbed) || (rep.entry b).any (·.disturbed)) (strike i .disturbed)).when
        (decide (s.approaches[i].state = .struck) && (rep.entry b).any (·.taken)) (islandTaken i rep.cause)).when
        ((rep.entry a).any (·.taken) && enteredUntimed (s.approachEntry i) rep.cause) (strike i .untimeable)) := rfl

theorem when_strike_of_struck (hs : s.approaches[i].state = .struck) (c : Bool) (cause : StrikeCause) :
    s.when c (strike i cause) = s := by
  unfold State.when
  rw [strike_of_struck hs, ite_self]

/-- A STRUCK approach takes the island, and no strike touches it (R49, R54). -/
theorem approachReport_of_struck (hs : s.approaches[i].state = .struck) :
    let e := s.approachEntry i
    approachReport i rep s = endOfReport rep i e.approachSection e.islandSection
      (s.when ((rep.entry e.islandSection).any (·.taken)) (islandTaken i rep.cause)) := by
  intro e
  have hstruck : (s.when ((rep.entry e.islandSection).any (·.taken)) (islandTaken i rep.cause)).approaches[i].state =
      .struck := by
    unfold State.when
    split
    · exact islandTaken_is_struck hs _
    · exact hs
  rw [approachReport_eq, when_strike_of_struck hs, decide_eq_true hs, Bool.true_and]
  exact congrArg _ (when_strike_of_struck hstruck ..)

/-- An approach not STRUCK strikes DISTURBED before it looks at the timing heads (R50, R51; log entry 35). -/
theorem approachReport_of_not_struck (hs : s.approaches[i].state ≠ .struck) :
    let e := s.approachEntry i
    approachReport i rep s = endOfReport rep i e.approachSection e.islandSection
      (if (rep.entry e.approachSection).any (·.disturbed) || (rep.entry e.islandSection).any (·.disturbed) then
        strike i .disturbed s
      else s.when ((rep.entry e.approachSection).any (·.taken) && enteredUntimed e rep.cause) (strike i .untimeable)) := by
  intro e
  rw [approachReport_eq, decide_eq_false hs, Bool.false_and]
  refine congrArg _ ?_
  cases hd : (rep.entry e.approachSection).any (·.disturbed) || (rep.entry e.islandSection).any (·.disturbed) with
  | true =>
    rw [if_pos rfl]
    exact when_strike_of_struck (strike_is_struck i .disturbed s) ..
  | false => rfl

end

end Sys2Proof.Machine
end

section
/-! SUPPORT. An approach takes the report of a step of the sections (R50 to R55). -/

namespace Sys2Proof.Machine

set_option Elab.async false

section
variable {i : Fin 4} {cause : ReportCause} {before s : State} {a b : Nat}

theorem strike_sectionFree (i : Fin 4) (cause : StrikeCause) (s : State) (ref : Nat) :
    sectionFree (strike i cause s) ref = sectionFree s ref := by
  rw [sectionFree, (strike_frame i cause s).sections (by decide)]; rfl

theorem strike_record (h : s.approaches[i].state ≠ .struck) (cause : StrikeCause) :
    (strike i cause s).approaches[i] = struckRecord i cause s :=
  (alike_strike h cause).record.trans (setApproach_self ..)

/-- A strike that finds the approach section not free, or the island section, is not released by its own report. -/
theorem not_released_strike {rep : SectionReport} (h : s.approaches[i].state ≠ .struck) (sc : StrikeCause)
    (hb : (s.approachEntry i).islandSection = b) (hfree : sectionFree s a = false ∨ sectionFree s b = false) :
    ¬ ReleasedBy rep i a b (strike i sc s) := by
  rintro ⟨-, ha, hseen⟩
  rw [strike_record h] at hseen
  rw [strike_sectionFree] at ha hseen
  have hisland : sectionFree s b = false := hfree.resolve_left (by simp [ha])
  have hheld : (struckRecord i sc s).islandSeen = true := by
    simp [struckRecord, ApproachRecord.strike, hb, hisland]
  exact Bool.false_ne_true (hisland.symm.trans (hseen hheld))

variable (ha : (s.approachEntry i).approachSection = a) (hb : (s.approachEntry i).islandSection = b)
  (htold : Told before s a) (htold' : Told before s b)
include ha hb htold htold'

theorem approachReport_disturbed (hs : s.approaches[i].state ≠ .struck)
    (hd : BecomesDisturbed before s a ∨ BecomesDisturbed before s b) :
    approachReport i (sectionReport cause before s) s = strike i .disturbed s := by
  have hfree : sectionFree s a = false ∨ sectionFree s b = false :=
    hd.imp (fun h => sectionFree_disturbed h.1) fun h => sectionFree_disturbed h.1
  have hany : (((sectionReport cause before s).entry a).any (·.disturbed) ||
      ((sectionReport cause before s).entry b).any (·.disturbed)) = true := by
    rwa [Bool.or_eq_true, entry_disturbed_iff htold, entry_disturbed_iff htold']
  rw [approachReport_of_not_struck hs, ha, hb, if_pos hany]
  exact endOfReport_held (strike_is_struck ..) (not_released_strike hs .disturbed hb hfree)

theorem approachReport_undisturbed (hs : s.approaches[i].state ≠ .struck) (hda : ¬ BecomesDisturbed before s a)
    (hdb : ¬ BecomesDisturbed before s b) : approachReport i (sectionReport cause before s) s =
    endOfReport (sectionReport cause before s) i a b
      (s.when (((sectionReport cause before s).entry a).any (·.taken) && enteredUntimed (s.approachEntry i) cause)
        (strike i .untimeable)) := by
  have hany : ¬ (((sectionReport cause before s).entry a).any (·.disturbed) ||
      ((sectionReport cause before s).entry b).any (·.disturbed)) = true := by
    rw [Bool.or_eq_true, entry_disturbed_iff htold, entry_disturbed_iff htold']
    exact not_or.2 ⟨hda, hdb⟩
  rw [approachReport_of_not_struck hs, ha, hb, if_neg hany]
  rfl

theorem approachReport_untimed (hs : s.approaches[i].state ≠ .struck) (hda : ¬ BecomesDisturbed before s a)
    (hdb : ¬ BecomesDisturbed before s b) (ht : IsTaken before s a)
    (hu : enteredUntimed (s.approachEntry i) cause = true) :
    approachReport i (sectionReport cause before s) s = strike i .untimeable s := by
  rw [approachReport_undisturbed ha hb htold htold' hs hda hdb, (entry_taken_iff htold cause).2 ht, hu]
  exact endOfReport_held (strike_is_struck ..) (not_released_strike hs .untimeable hb (.inl ht.2))

theorem approachReport_timed (hs : s.approaches[i].state ≠ .struck) (hda : ¬ BecomesDisturbed before s a)
    (hdb : ¬ BecomesDisturbed before s b)
    (hu : ¬ (IsTaken before s a ∧ enteredUntimed (s.approachEntry i) cause = true)) :
    approachReport i (sectionReport cause before s) s = endOfReport (sectionReport cause before s) i a b s := by
  have hany : (((sectionReport cause before s).entry a).any (·.taken) &&
      enteredUntimed (s.approachEntry i) cause) = false := by
    rwa [Bool.eq_false_iff, Ne, Bool.and_eq_true, entry_taken_iff htold]
  rw [approachReport_undisturbed ha hb htold htold' hs hda hdb, hany]
  rfl

omit ha hb htold' in
theorem endOfReport_freed (hs : s.approaches[i].state ≠ .struck) (hi : s.approaches[i].state ≠ .idle)
    (hf : IsFreed before s a) : endOfReport (sectionReport cause before s) i a b s = s.setApproach i .cold := by
  rw [endOfReport_waiting hs hi, if_pos ((entry_freed_iff htold cause).2 hf)]

omit ha hb htold' in
theorem endOfReport_not_freed (hs : s.approaches[i].state ≠ .struck) (hf : ¬ IsFreed before s a) :
    endOfReport (sectionReport cause before s) i a b s = s := by
  by_cases hi : s.approaches[i].state = .idle
  · exact endOfReport_idle hi
  · rw [endOfReport_waiting hs hi, if_neg (mt (entry_freed_iff htold cause).1 hf)]

omit htold in
/-- A STRUCK approach looks at its island, and then at its release (R54, R55). -/
theorem approachReport_struck (hs : s.approaches[i].state = .struck) :
    (IsTaken before s b → approachReport i (sectionReport cause before s) s =
      endOfReport (sectionReport cause before s) i a b (islandTaken i cause s)) ∧
    (¬ IsTaken before s b → approachReport i (sectionReport cause before s) s =
      endOfReport (sectionReport cause before s) i a b s) := by
  rw [approachReport_of_struck hs, ha, hb]
  refine ⟨fun ht => ?_, fun ht => ?_⟩
  · rw [(entry_taken_iff htold' cause).2 ht]
    rfl
  · rw [Bool.eq_false_iff.2 (mt (entry_taken_iff htold' cause).1 ht)]
    rfl

end

/-! ## Each approach takes a report as though it were alone (R37) -/

section
variable {i : Fin 4} {s u : State}

theorem Alike.when (h : Alike i s u) {f : State → State} (hf : Alike i (f s) (f u)) (c : Bool) :
    Alike i (s.when c f) (u.when c f) := by
  cases c
  · exact h
  · exact hf

theorem Alike.islandTaken (h : Alike i s u) (cause : ReportCause) :
    Alike i (islandTaken i cause s) (islandTaken i cause u) := by
  unfold Machine.islandTaken
  rw [h.record]
  dsimp only
  split
  · exact h
  · exact h.setApproach _

theorem Alike.endOfReport (h : Alike i s u) (rep : SectionReport) (a b : Nat) :
    Alike i (endOfReport rep i a b s) (endOfReport rep i a b u) := by
  rw [endOfReport_eq, endOfReport_eq, h.record, h.sectionFree, h.sectionFree]
  split
  · exact h.when h.release _
  · exact h.when (f := (·.setApproach i .cold)) (h.setApproach _) _

theorem Alike.approachReport (h : Alike i s u) (rep : SectionReport) :
    Alike i (approachReport i rep s) (approachReport i rep u) := by
  rw [approachReport_eq, approachReport_eq, h.entry, h.record]
  refine Alike.endOfReport (Alike.when (Alike.when (Alike.when h (h.strike _) _) ?_ _) ?_ _) ..
  · exact (h.when (h.strike _) _).islandTaken _
  · exact ((h.when (h.strike _) _).when ((h.when (h.strike _) _).islandTaken _) _).strike _

end

section
variable (j : Fin 4) (s : State)

theorem when_others {t : State} (h : OthersKept j s t) {f : State → State} (hf : ∀ u, OthersKept j u (f u)) (c : Bool) :
    OthersKept j s (t.when c f) := by
  cases c
  · exact h
  · exact h.trans (hf t)

theorem islandTaken_others (cause : ReportCause) : OthersKept j s (islandTaken j cause s) := by
  unfold islandTaken
  dsimp only
  split
  · exact .refl j s
  · exact setApproach_others ..

theorem endOfReport_others (rep : SectionReport) (a b : Nat) : OthersKept j s (endOfReport rep j a b s) := by
  rw [endOfReport_eq]
  split
  · exact when_others j s (.refl j s) (release_others j) _
  · exact when_others j s (.refl j s) (fun u => setApproach_others j .cold u) _

theorem approachReport_others (rep : SectionReport) : OthersKept j s (approachReport j rep s) := by
  rw [approachReport_eq]
  refine (when_others j s (when_others j s (when_others j s (.refl j s) (strike_others j _) _) ?_ _)
    (strike_others j _) _).trans (endOfReport_others ..)
  exact fun u => islandTaken_others j u _

end

/-- The report is taken by an approach that acts (R37). -/
def takesReport (rep : SectionReport) (i : Fin 4) (s : State) : State :=
  s.when (approachActs s i) (approachReport i rep)

theorem approachReports_eq (rep : SectionReport) (s : State) : approachReports rep s = forEach 4 (takesReport rep) s := rfl

theorem takesReport_frame (rep : SectionReport) (i : Fin 4) (s : State) :
    Frame [.approaches, .banks, .faults, .newFault] s (takesReport rep i s) :=
  .ite (approachReport_frame ..) (.refl _ s)

theorem approachReports_alone (rep : SectionReport) (s : State) (i : Fin 4) :
    (approachReports rep s).approaches[i] = (takesReport rep i s).approaches[i] := by
  refine forEach_alone (takesReport_frame rep) (fun j t => ?_) (fun j t u h => ?_) s i
  · exact when_others j t (.refl j t) (fun u => approachReport_others j u rep) _
  · unfold takesReport
    rw [h.acts]
    exact h.when (h.approachReport rep) _

/-! ## The records and the report as the statement puts them -/

theorem SectionRecord.free_iff (r : SectionRecord) : r.free = true ↔ SectionFree r := by
  rw [r.free_eq, decide_eq_true_eq]; rfl

theorem isTaken_iff {before s : State} (k : Fin 8) :
    IsTaken before s k.val ↔ SectionFree before.sections[k] ∧ ¬ SectionFree s.sections[k] := by
  rw [IsTaken, sectionFree_at, sectionFree_at, Bool.eq_false_iff, SectionRecord.free_iff, Ne, SectionRecord.free_iff]

theorem isFreed_iff {before s : State} (k : Fin 8) :
    IsFreed before s k.val ↔ ¬ SectionFree before.sections[k] ∧ SectionFree s.sections[k] := by
  rw [IsFreed, sectionFree_at, sectionFree_at, Bool.eq_false_iff, Ne, SectionRecord.free_iff, SectionRecord.free_iff]

theorem becomesDisturbed_iff {before s : State} (k : Fin 8) : BecomesDisturbed before s k.val ↔
    s.sections[k].state = .disturbed ∧ before.sections[k].state ≠ .disturbed := by
  rw [BecomesDisturbed, sectionDisturbedAt_iff, sectionDisturbedAt_iff]

/-- A section told of is listed where its state has changed, or it has been taken or freed (R25). -/
theorem entry_isSome_iff {before s : State} {k : Fin 8} (h : Told before s k.val) (cause : ReportCause) :
    ((sectionReport cause before s).entry k.val).isSome = true ↔
      before.sections[k].state ≠ s.sections[k].state ∨ IsTaken before s k.val ∨ IsFreed before s k.val := by
  rw [sectionReport_entry, told_listed h, IsTaken, IsFreed, sectionFree_at, sectionFree_at]
  cases before.sections[k].free <;> cases s.sections[k].free <;>
    by_cases hstate : before.sections[k].state = s.sections[k].state <;> simp_all

theorem enteredUntimed_iff (e : ApproachEntry) (cause : ReportCause) : enteredUntimed e cause = true ↔
    ∃ head at_ entered, cause = .wheel head .toward at_ entered ∧ ∀ h ∈ e.timingHeads, h.head ≠ head.val := by
  cases cause with
  | wheel head direction arrival entered =>
    have hnone := positionOf_none_iff e head.val
    rw [enteredUntimed, Bool.and_eq_true, beq_iff_eq, Option.isNone_iff_eq_none, hnone]
    exact ⟨fun ⟨hd, hh⟩ => ⟨head, arrival, entered, hd ▸ rfl, hh⟩, fun ⟨_, _, _, hc, hh⟩ => by
      obtain ⟨rfl, rfl, rfl, rfl⟩ := ReportCause.wheel.inj hc
      exact ⟨rfl, hh⟩⟩
  | disturb | reset | setup => simp [enteredUntimed]

theorem islandTaken_seen {i : Fin 4} {s : State} (h : s.approaches[i].islandSeen = true) (cause : ReportCause) :
    islandTaken i cause s = s := if_pos h

/-- Settles O34: a report by what it tells of the two sections; then which approaches take it, each as if alone. -/
theorem approachesTakeSectionReports : Obligations.ApproachesTakeSectionReports := by
  refine ⟨?_, fun s rep => ?_, fun s rep i => ⟨fun h => ?_, fun h => ?_⟩⟩
  · intro before s cause i a b e r ha hb hserv hserv' disturbed taken freed listed untimed takes
    have htold {k : Fin 8} (h : s.tm.tables.sectionTable[k].inService = true) : Told before s k.val :=
      fun j hj => .inl (Fin.ext hj ▸ h)
    have hta := htold hserv
    have htb := htold hserv'
    have hdisturbed (k : Fin 8) : BecomesDisturbed before s k.val ↔ disturbed k := becomesDisturbed_iff k
    have htaken (k : Fin 8) : IsTaken before s k.val ↔ taken k := isTaken_iff k
    have hfreed (k : Fin 8) : IsFreed before s k.val ↔ freed k := isFreed_iff k
    have huntimed : enteredUntimed (s.approachEntry i) cause = true ↔ untimed := enteredUntimed_iff _ cause
    have hlisted {k : Fin 8} (h : Told before s k.val) :
        ((sectionReport cause before s).entry k.val).isSome = true ↔ listed k :=
      (entry_isSome_iff h cause).trans (or_congr_right (or_congr (htaken k) (hfreed k)))
    refine ⟨fun hs => ⟨fun hd => ?_, fun hda hdb => ?_⟩, fun hs seen hseen hkept => ?_⟩
    · exact approachReport_disturbed ha hb hta htb hs (hd.imp (hdisturbed a).2 (hdisturbed b).2)
    · have hda := mt (hdisturbed a).1 hda
      have hdb := mt (hdisturbed b).1 hdb
      have hends (hu : ¬ (taken a ∧ untimed)) : approachReport i (sectionReport cause before s) s =
          endOfReport (sectionReport cause before s) i a.val b.val s :=
        approachReport_timed ha hb hta htb hs hda hdb fun h => hu ⟨(htaken a).1 h.1, huntimed.1 h.2⟩
      have hquiet (hf : ¬ freed a) : endOfReport (sectionReport cause before s) i a.val b.val s = s :=
        endOfReport_not_freed hta hs (mt (hfreed a).1 hf)
      refine ⟨fun ht hu => ?_, fun ht hu => ?_, fun hf hi => ?_, fun hf hi => ?_, fun ht hf => ?_⟩
      · exact approachReport_untimed ha hb hta htb hs hda hdb ((htaken a).2 ht) (huntimed.2 hu)
      · exact (hends fun h => hu h.2).trans (hquiet fun h => h.1 ht.1)
      · exact (hends fun h => h.1.2 hf.2).trans (endOfReport_freed hta hs hi ((hfreed a).2 hf))
      · exact (hends fun h => h.1.2 hf.2).trans (endOfReport_idle hi)
      · exact (hends fun h => ht h.1).trans (hquiet hf)
    · intro u released
      have hreport := approachReport_struck (cause := cause) ha hb htb hs
      have hu : approachReport i (sectionReport cause before s) s =
          endOfReport (sectionReport cause before s) i a.val b.val u := by
        by_cases ht : taken b
        · rw [hreport.1 ((htaken b).2 ht)]
          by_cases hi : r.islandSeen = true
          · have husame : u = s := (congrArg (s.setApproach i) (hkept (.inr hi))).trans (setApproach_same i s)
            rw [islandTaken_seen hi, husame]
          · obtain rfl := hseen ht (Bool.not_eq_true _ ▸ hi)
            refine congrArg _ ((if_neg hi).trans ?_)
            cases cause <;> rfl
        · have husame : u = s := (congrArg (s.setApproach i) (hkept (.inl ht))).trans (setApproach_same i s)
          rw [hreport.2 (mt (htaken b).1 ht), husame]
      have hself : u.approaches[i] = seen := setApproach_self i seen s
      have hstruck : u.approaches[i].state = .struck := by
        rw [hself]
        by_cases hi : taken b ∧ r.islandSeen = false
        · rw [hseen hi.1 hi.2]
          exact hs
        · rw [hkept (by grind)]
          exact hs
      have hreleased : ReleasedBy (sectionReport cause before s) i a.val b.val u ↔ released := by
        have hfree (k : Fin 8) : sectionFree u k.val = true ↔ SectionFree s.sections[k] := by
          rw [sectionFree_at, SectionRecord.free_iff]
        rw [ReleasedBy, hlisted hta, hlisted htb, hfree, hfree, hself]
      exact ⟨fun h => hu.trans (endOfReport_released hstruck (hreleased.2 h)),
        fun h => hu.trans (endOfReport_held hstruck (mt hreleased.1 h))⟩
  · rw [approachReports_eq]
    refine forEach_congr (Q := fun _ u => u.tm.tables = s.tm.tables ∧ u.crossing = s.crossing) (fun i u hu => ?_)
      (fun i j u _ hu => ?_) fun _ => ⟨rfl, rfl⟩
    · have hiff := approachActs_iff u i
      rw [hu.1, hu.2] at hiff
      simp only [takesReport, State.when, hiff]
    · have hframe := takesReport_frame rep j u
      exact ⟨(hframe.tables (by decide)).trans hu.1, (hframe.crossing (by decide)).trans hu.2⟩
  · rw [approachReports_alone, takesReport, (approachActs_iff s i).2 h]
    rfl
  · rw [approachReports_alone, takesReport, Bool.eq_false_iff.2 (mt (approachActs_iff s i).1 h)]
    rfl

end Sys2Proof.Machine
end

section
/-! SUPPORT. The crossing in use stays in use, and out of use stays out of use, through every operation of the
Sequencer but those of 4.7 (R65, R70 to R77, R82, R84). -/

namespace Sys2Proof.Machine

set_option Elab.async false

/-- The crossing is in use. -/
def Used (s : State) : Prop := s.crossing.state ≠ .outOfUse

/-- The crossing is in use in both states or in neither. -/
def SameUse (s t : State) : Prop := t.crossing.state = .outOfUse ↔ s.crossing.state = .outOfUse

theorem SameUse.refl (s : State) : SameUse s s := Iff.rfl

theorem SameUse.trans {s t u : State} (h : SameUse s t) (k : SameUse t u) : SameUse s u := Iff.trans k h

theorem SameUse.of_state {s t : State} (h : t.crossing.state = s.crossing.state) : SameUse s t := by rw [SameUse, h]

theorem SameUse.of_frame {ps : List Part} {s t : State} (h : Frame ps s t)
    (hps : Part.crossing ∉ ps := by decide) : SameUse s t :=
  .of_state (congrArg CrossingRecord.state (h.crossing hps))

theorem SameUse.of_used {s t : State} (hs : Used s) (ht : Used t) : SameUse s t := iff_of_false ht hs

theorem SameUse.used {s t : State} (h : SameUse s t) (hs : Used s) : Used t := mt h.1 hs

/-- A record in another state than OUT_OF_USE is of a crossing in use. -/
theorem used_of_state {s : State} {x : CrossingState} (h : s.crossing.state = x)
    (hx : x ≠ .outOfUse := by decide) : Used s := fun hs => hx (h.symm.trans hs)

theorem orderRole_crossing (role : BarrierRole) (d : BarrierEnd) (s : State) :
    (orderRole role d s).crossing = s.crossing := (orderRole_frame role d s).crossing (by decide)

theorem conditionEnd_crossing (c : FaultCode) (i : Option Nat) (s : State) :
    (conditionEnd c i s).crossing = s.crossing := (conditionEnd_frame c i s).crossing (by decide)

theorem conditionPresent_crossing (c : FaultCode) (i : Option Nat) (s : State) :
    (conditionPresent c i s).crossing = s.crossing := (conditionPresent_frame c i s).crossing (by decide)

/-! ## The programs (R65) -/

theorem stepEffect_state (k : ProgramStep) (s : State) : (stepEffect k s).1.crossing.state = s.crossing.state := by
  unfold stepEffect setAspect setSound
  cases k.kind with
  | lowerEntry | lowerExit | raiseEntry | raiseExit =>
    dsimp only
    rw [orderRole_crossing]
  | finish | amber | red | dark | soundOn | soundOff | wait | waitDown | waitUp => rfl

theorem runSteps_state (steps : List ProgramStep) :
    ∀ (n : Nat) (s : State), (runSteps n steps s).1.crossing.state = s.crossing.state := by
  induction steps with
  | nil => exact fun n s => rfl
  | cons k rest ih =>
    intro n s
    unfold runSteps
    split
    · rfl
    · have hk := stepEffect_state k (s.setCrossing { s.crossing with
        step := some n, stepWait := .none, waitEnd := none })
      dsimp only
      split
      next t heq =>
        rw [heq] at hk
        exact (ih _ _).trans hk
      next t w heq =>
        rw [heq] at hk
        exact hk

theorem runOpening_used {s : State} (h : Used s) (n : Nat) : Used (runOpening n s) := by
  have hstate := runSteps_state ((programTable s .opening).drop (n - 1)) n s
  unfold runOpening
  split
  next t heq => exact used_of_state (x := .isOpen) rfl
  next t heq =>
    rw [heq] at hstate
    exact used_of_state hstate h

theorem enterOpening_used (s : State) : Used (enterOpening s) := by
  refine runOpening_used ?_ 1
  exact used_of_state (x := .opening) (congrArg CrossingRecord.state (conditionEnd_crossing ..))

theorem judgePermit_used {s : State} (h : Used s) : Used (judgePermit s) := by
  unfold judgePermit
  dsimp only
  split
  · exact h
  · split
    · exact h
    · split
      · exact h
      · split
        · exact enterOpening_used s
        · exact h

theorem enterClosed_used (s : State) : Used (enterClosed s) := judgePermit_used (used_of_state (x := .closed) rfl)

theorem runClosing_used {s : State} (h : Used s) (n : Nat) : Used (runClosing n s) := by
  have hstate := runSteps_state ((programTable s .closing).drop (n - 1)) n s
  unfold runClosing
  split
  next t heq => exact enterClosed_used t
  next t heq =>
    rw [heq] at hstate
    exact used_of_state hstate h

theorem enterClosing_used (s : State) : Used (enterClosing s) :=
  runClosing_used (used_of_state (x := .closing) rfl) 1

theorem reenterClosing_used (s : State) : Used (reenterClosing s) :=
  runClosing_used (used_of_state (x := .closing) rfl) _

theorem orderExits_state (s : State) : (orderExits s).crossing.state = s.crossing.state := by
  rw [orderExits, orderRole_crossing]; rfl

theorem enterFailed_state (s : State) : (enterFailed s).crossing.state = .failed := by
  unfold enterFailed
  dsimp only
  split
  · rw [orderExits_state, orderRole_crossing]; rfl
  · rw [orderRole_crossing]; rfl

theorem enterFailed_used (s : State) : Used (enterFailed s) := used_of_state (x := .failed) (enterFailed_state s)

theorem moveOn_used {s : State} (h : Used s) : Used (moveOn s) := by
  unfold moveOn
  split
  · exact h
  · dsimp only
    split
    · refine runClosing_used ?_ _
      exact h
    · refine runOpening_used ?_ _
      exact h
    · exact h

/-! ## The turn of the Sequencer (R61, R71, R73, R76) -/

theorem takeAlarm_sameUse (s : State) : SameUse s (takeAlarm s) := by
  unfold takeAlarm
  dsimp only
  split
  · split
    next h => exact .of_used (used_of_state h) (enterFailed_used _)
    next h => exact .of_used (used_of_state h) (enterFailed_used _)
    next h => exact .of_used (used_of_state h) (enterFailed_used _)
    next h => exact .of_used (used_of_state h) (enterFailed_used _)
    next => exact .refl _
    next => exact .refl _
  · exact .refl _

theorem sequencerTurn_sameUse (before s : State) : SameUse s (sequencerTurn before s) := by
  refine (takeAlarm_sameUse s).trans ?_
  unfold sequencerTurn
  dsimp only
  have hite {c : Prop} [Decidable c] {t u v : State} (ht : SameUse t u) (hv : SameUse t v) :
      SameUse t (if c then u else v) := by
    split
    · exact ht
    · exact hv
  split
  next h => exact hite (.of_used (used_of_state h) (enterClosing_used _)) (.refl _)
  next h =>
    have hu := used_of_state h
    exact hite (.of_used hu (reenterClosing_used _)) (hite (.of_used hu (moveOn_used hu)) (.refl _))
  next h => exact hite (.of_used (used_of_state h) (moveOn_used (used_of_state h))) (.refl _)
  next h => exact hite (.of_used (used_of_state h) (judgePermit_used (used_of_state h))) (.refl _)
  next => exact .refl _
  next => exact .refl _

theorem crossingTurn_sameUse (before s : State) : SameUse s (crossingTurn before s) :=
  (sequencerTurn_sameUse before s).trans ((SameUse.of_frame (takeAspect_frame _)).trans (.of_state rfl))

/-- The end of an event keeps the crossing in use or out of use. -/
theorem finish_sameUse (before s : State) : SameUse s (finish before s) :=
  (crossingTurn_sameUse before s).trans ((SameUse.of_frame (scannerTurn_frame ..)).trans
    ((SameUse.of_frame (reportTurn_frame _)).trans (.of_frame (reportTurn_frame _))))

/-! ## The timers of the crossing (R65, R73, R74, R77, R79) -/

theorem permitLapses_sameUse (s : State) : SameUse s (permitLapses s) := by
  unfold permitLapses
  split <;> exact .of_state rfl

theorem openDelayEnds_sameUse (s : State) : SameUse s (openDelayEnds s) := by
  unfold openDelayEnds
  split
  next h => exact .of_used (used_of_state (x := .closed) (by simp_all)) (enterOpening_used s)
  next => exact .refl s

theorem exitDelayEnds_sameUse (s : State) : SameUse s (exitDelayEnds s) := by
  unfold exitDelayEnds
  split
  · exact .of_state (orderExits_state s)
  · exact .refl s

theorem longClosureEnds_sameUse (s : State) : SameUse s (longClosureEnds s) := by
  unfold longClosureEnds
  split
  · split
    · refine .of_state ?_
      rw [conditionPresent_crossing]; rfl
    · exact .refl s
  · exact .refl s

/-- The wait of a step ends; out of use no program runs (R65). -/
theorem waitEnds_sameUse {s : State} (h : InUse s) : SameUse s (waitEnds s) := by
  unfold waitEnds
  split
  · by_cases hs : s.crossing.state = .outOfUse
    · refine .of_state ?_
      have hprogram : s.crossing.program = .none := by rw [h.program, hs]; rfl
      unfold moveOn
      split
      · rfl
      · simp only [State.setCrossing_crossing, hprogram]
    · exact .of_used hs (moveOn_used hs)
  · exact .refl s

end Sys2Proof.Machine
end

section
/-! SUPPORT. The two things a crossing in use keeps of one approach: a DISTURBED section of it has struck it, and a STRUCK
approach has seen its island held (R49, R51, R54). -/

namespace Sys2Proof.Machine

set_option Elab.async false

/-- A section of the approach is DISTURBED. -/
def HasDisturbed (s : State) (i : Fin 4) : Prop :=
  SectionDisturbedAt s s.tm.tables.approach[i].approachSection ∨ SectionDisturbedAt s s.tm.tables.approach[i].islandSection

/-- What holds of an approach while the crossing is in use. -/
structure StruckInUse (s : State) (i : Fin 4) : Prop where
  disturbed : s.tm.tables.approach[i].inService = true → HasDisturbed s i → s.approaches[i].state = .struck
  island : s.tm.tables.approach[i].inService = true → s.approaches[i].state = .struck →
    sectionFree s s.tm.tables.approach[i].islandSection = false → s.approaches[i].islandSeen = true

theorem struckApproach_of_used {s : State} {i : Fin 4} (hu : Used s) (h : StruckInUse s i) : StruckApproach s i :=
  ⟨fun _ => h.disturbed, fun hs => absurd hs hu, fun hs hserv => h.island hserv hs⟩

theorem StruckApproach.inUse {s : State} {i : Fin 4} (h : StruckApproach s i) (hu : Used s) : StruckInUse s i :=
  ⟨h.disturbed hu, fun hserv hs => h.island hs hserv⟩

/-- Out of use every approach is IDLE, and that is all there is to keep. -/
theorem struck_of_outOfUse {s : State} (hs : s.crossing.state = .outOfUse)
    (hidle : ∀ i : Fin 4, s.approaches[i].state = .idle) : Struck s := fun i =>
  ⟨fun hu => absurd hs hu, fun _ => hidle i, fun h => absurd (h.symm.trans (hidle i)) (by decide)⟩

theorem struck_of_used {s : State} (hu : Used s) (h : ∀ i, StruckInUse s i) : Struck s := fun i =>
  struckApproach_of_used hu (h i)

/-- An approach out of service has nothing to keep. -/
theorem struckInUse_of_outOfService {s : State} {i : Fin 4} (h : s.tm.tables.approach[i].inService ≠ true) :
    StruckInUse s i := ⟨fun hserv => absurd hserv h, fun hserv => absurd hserv h⟩

/-- What an approach keeps rests on its entry, the sections, and two fields of its record. -/
theorem StruckInUse.congr {s u : State} {i : Fin 4} (h : StruckInUse s i) (htables : u.tm.tables = s.tm.tables)
    (hsections : u.sections = s.sections) (hstate : u.approaches[i].state = s.approaches[i].state)
    (hseen : u.approaches[i].islandSeen = s.approaches[i].islandSeen) : StruckInUse u i := by
  constructor
  · rw [htables, hstate]
    intro hserv hd
    refine h.disturbed hserv ?_
    simpa only [HasDisturbed, SectionDisturbedAt, htables, hsections] using hd
  · rw [htables, hstate, hseen, sectionFree, hsections]
    exact h.island

theorem Alike.struckInUse {s u : State} {i : Fin 4} (h : Alike i s u) (hs : StruckInUse s i) : StruckInUse u i :=
  hs.congr (congrArg TableManager.tables h.tm) h.sections (congrArg ApproachRecord.state h.record)
    (congrArg ApproachRecord.islandSeen h.record)

section
variable {s : State} {i : Fin 4}

/-- A strike leaves the approach STRUCK, with its island seen if that is held (R49). -/
theorem struckInUse_strike (h : s.approaches[i].state = .struck → StruckInUse s i) (cause : StrikeCause) :
    StruckInUse (strike i cause s) i := by
  by_cases hs : s.approaches[i].state = .struck
  · rw [strike_of_struck hs]
    exact h hs
  · refine ⟨fun _ _ => strike_is_struck i cause s, fun _ _ hfree => ?_⟩
    rw [(strike_frame i cause s).tables (by decide), strike_sectionFree] at hfree
    rw [strike_record hs]
    simpa [struckRecord, ApproachRecord.strike, State.approachEntry] using hfree

/-- A record that is not STRUCK may stand where no section of the approach is DISTURBED. -/
theorem struckInUse_setApproach (hd : s.tm.tables.approach[i].inService = true → ¬ HasDisturbed s i)
    {r : ApproachRecord} (hr : r.state ≠ .struck) : StruckInUse (s.setApproach i r) i := by
  refine ⟨fun hserv h => absurd h (hd hserv), fun _ hs => absurd hs ?_⟩
  rwa [setApproach_self]

/-- An approach not STRUCK has no DISTURBED section. -/
theorem StruckInUse.undisturbed (h : StruckInUse s i) (hs : s.approaches[i].state ≠ .struck) :
    s.tm.tables.approach[i].inService = true → ¬ HasDisturbed s i := fun hserv hd => hs (h.disturbed hserv hd)

/-! ## A wheel (R39 to R48) -/

/-- Where the deadline is discarded, the approach is TRACKING or DEFERRED (R44, R45). -/
theorem wheelOutcome_discard {p v : Nat} {first : Bool} {g : GroupContext} {st : ApproachState}
    (h : wheelOutcome s i p first v g = .discard st) : st ≠ .struck := by
  unfold wheelOutcome at h
  grind

theorem StruckInUse.applyOutcome (h : StruckInUse s i) (hs : s.approaches[i].state ≠ .struck) (p : Nat)
    {o : WheelOutcome} (ho : ∀ st, o = .discard st → st ≠ .struck) : StruckInUse (applyOutcome i p o s) i := by
  cases o with
  | nothing => exact h
  | strike cause => exact struckInUse_strike (fun _ => h) cause
  | discard st =>
    rw [applyOutcome_discard]
    split
    · exact struckInUse_setApproach (h.undisturbed hs) (ho st rfl)
    · exact h
  | deadline d =>
    by_cases ht : TakesDeadline s.approaches[i] p d
    · have harmed : StruckInUse (armedAt i p d s) i :=
        struckInUse_setApproach (h.undisturbed hs) (r := { s.approaches[i] with
          state := .armed, deadline := some d, deadlineHead := some p }) (by simp)
      rw [applyOutcome_deadline_taken ht]
      split
      · exact struckInUse_strike (fun _ => harmed) .timed
      · exact harmed
    · rw [applyOutcome_deadline_kept ht]
      exact h

theorem StruckInUse.withGroup (h : StruckInUse s i) (g : GroupContext) : StruckInUse (withGroup i s g) i := by
  refine h.congr rfl rfl ?_ ?_
  · rw [Machine.withGroup, setApproach_self]
  · rw [Machine.withGroup, setApproach_self]

theorem StruckInUse.timingWheel (h : StruckInUse s i) (p : Nat) (w : WheelEvent) :
    StruckInUse (timingWheel i p w s) i := by
  have hstate (g : GroupContext) : (Machine.withGroup i s g).approaches[i].state = s.approaches[i].state := by
    rw [Machine.withGroup, setApproach_self]
  have hjudged {g g' : GroupContext} {t : State} (ht : Alike i (Machine.withGroup i s g) t) :
      StruckInUse (judgedWheel i p w s g' t) i := by
    have hkept := ht.struckInUse (h.withGroup g)
    unfold judgedWheel
    split
    · exact hkept
    next hs =>
      refine hkept.applyOutcome ?_ p fun st ho => wheelOutcome_discard ho
      rwa [ht.record, hstate]
  by_cases hn : 4 ≤ (groupAt i p w s).wheelsUsed
  · rw [timingWheel_used_up hn]
    exact h.withGroup _
  · rw [timingWheel_measured (Nat.not_le.1 hn)]
    split
    · exact hjudged (.of_frame (eventEntered_frame ..))
    · exact hjudged (.refl ..)

theorem StruckInUse.takesWheel (h : StruckInUse s i) (w : WheelEvent) : StruckInUse (takesWheel w i s) i := by
  obtain hw | ⟨p, hw⟩ := takesWheel_cases w i s
  · rw [hw]
    exact h
  · rw [hw]
    exact h.timingWheel p w

/-! ## A report (R50 to R55) -/

theorem struckInUse_islandTaken (hs : s.approaches[i].state = .struck) (cause : ReportCause) :
    StruckInUse (islandTaken i cause s) i := by
  refine ⟨fun _ _ => islandTaken_is_struck hs cause, fun _ _ _ => ?_⟩
  unfold islandTaken
  dsimp only
  split
  next h => exact h
  next => rw [setApproach_self]

/-- A STRUCK approach that keeps what is to keep is released only where none of its sections is DISTURBED. -/
theorem StruckInUse.endOfReport (h : StruckInUse s i) (hs : s.approaches[i].state = .struck) (rep : SectionReport)
    {a b : Nat} (ha : (s.approachEntry i).approachSection = a) (hb : (s.approachEntry i).islandSection = b) :
    StruckInUse (endOfReport rep i a b s) i := by
  subst ha hb
  by_cases hr : ReleasedBy rep i (s.approachEntry i).approachSection (s.approachEntry i).islandSection s
  · rw [endOfReport_released hs hr]
    obtain ⟨-, hfree, hseen⟩ := hr
    refine (alike_release i s).struckInUse (struckInUse_setApproach (fun hserv => ?_) (r := .cold) (by decide))
    rintro (hd | hd)
    · exact Bool.false_ne_true ((sectionFree_disturbed hd).symm.trans hfree)
    · have hheld := sectionFree_disturbed hd
      exact Bool.false_ne_true (hheld.symm.trans (hseen (h.island hserv hs hheld)))
  · rw [endOfReport_held hs hr]
    exact h

end

/-- A report of sections of which every change is told: the approach keeps of the new sections what it kept of the old
(R50 to R55). -/
theorem StruckInUse.approachReport {before s : State} {i : Fin 4} (h : StruckInUse before i)
    (htables : s.tm.tables = before.tm.tables) (hrecord : s.approaches[i] = before.approaches[i])
    (htold : ∀ ref, Told before s ref) (cause : ReportCause) :
    StruckInUse (approachReport i (sectionReport cause before s) s) i := by
  by_cases hserv : s.tm.tables.approach[i].inService = true
  case neg =>
    refine struckInUse_of_outOfService ?_
    rwa [(approachReport_frame ..).tables (by decide)]
  have hserv' : before.tm.tables.approach[i].inService = true := htables ▸ hserv
  let a := (s.approachEntry i).approachSection
  let b := (s.approachEntry i).islandSection
  by_cases hs : s.approaches[i].state = .struck
  · obtain ⟨htaken, hnot⟩ := approachReport_struck (cause := cause) (a := a) (b := b) rfl rfl (htold b) hs
    by_cases ht : IsTaken before s b
    · rw [htaken ht]
      refine (struckInUse_islandTaken hs cause).endOfReport (islandTaken_is_struck hs cause) _ ?_ ?_ <;>
        rw [State.approachEntry, (islandTaken_frame ..).tables (by decide)] <;> rfl
    · rw [hnot ht]
      refine StruckInUse.endOfReport ⟨fun _ _ => hs, fun _ _ hheld => ?_⟩ hs _ rfl rfl
      have hbefore : sectionFree before b = false := by
        by_contra hf
        exact ht ⟨Bool.not_eq_false _ ▸ hf, hheld⟩
      rw [hrecord]
      refine h.island hserv' (hrecord ▸ hs) ?_
      rw [← htables]
      exact hbefore
  · have hquiet : ¬ SectionDisturbedAt before a ∧ ¬ SectionDisturbedAt before b := by
      have hnone := h.undisturbed (hrecord ▸ hs) hserv'
      rw [HasDisturbed, ← htables] at hnone
      exact not_or.1 hnone
    by_cases hd : BecomesDisturbed before s a ∨ BecomesDisturbed before s b
    · rw [approachReport_disturbed rfl rfl (htold a) (htold b) hs hd]
      exact struckInUse_strike (fun h => absurd h hs) _
    obtain ⟨hda, hdb⟩ := not_or.1 hd
    by_cases hu : IsTaken before s a ∧ enteredUntimed (s.approachEntry i) cause = true
    · rw [approachReport_untimed rfl rfl (htold a) (htold b) hs hda hdb hu.1 hu.2]
      exact struckInUse_strike (fun h => absurd h hs) _
    rw [approachReport_timed rfl rfl (htold a) (htold b) hs hda hdb hu]
    have hnone : s.tm.tables.approach[i].inService = true → ¬ HasDisturbed s i := by
      rintro - (hd | hd)
      · exact hda ⟨hd, hquiet.1⟩
      · exact hdb ⟨hd, hquiet.2⟩
    have hkept : StruckInUse s i := ⟨fun hserv hd => absurd hd (hnone hserv), fun _ h => absurd h hs⟩
    by_cases hf : IsFreed before s a ∧ s.approaches[i].state ≠ .idle
    · rw [endOfReport_freed (htold a) hs hf.2 hf.1]
      exact struckInUse_setApproach hnone (r := .cold) (by decide)
    · by_cases hi : s.approaches[i].state = .idle
      · rw [endOfReport_idle hi]
        exact hkept
      · rw [endOfReport_not_freed (htold a) hs fun h => hf ⟨h, hi⟩]
        exact hkept

end Sys2Proof.Machine
end

section
/-! SUPPORT. The invariant of the approaches through the work of each block (R37, R38, R49, R51, R54). -/

namespace Sys2Proof.Machine

set_option Elab.async false

/-! ## What leaves tables, sections and approaches alone -/

theorem Struck.step {ps : List Part} {s t : State} (h : Struck s) (hf : Frame ps s t) (hu : SameUse s t)
    (htables : Part.tables ∉ ps := by decide) (hsections : Part.sections ∉ ps := by decide)
    (happroaches : Part.approaches ∉ ps := by decide) : Struck t := by
  by_cases hs : s.crossing.state = .outOfUse
  · refine struck_of_outOfUse (hu.2 hs) fun i => ?_
    rw [hf.approach i happroaches]
    exact (h i).idle hs
  · refine struck_of_used (hu.used hs) fun i => ((h i).inUse hs).congr (hf.tables htables) (hf.sections hsections) ?_ ?_
    · rw [hf.approach i happroaches]
    · rw [hf.approach i happroaches]

theorem Struck.quiet {ps : List Part} {s t : State} (h : Struck s) (hf : Frame ps s t)
    (htables : Part.tables ∉ ps := by decide) (hsections : Part.sections ∉ ps := by decide)
    (happroaches : Part.approaches ∉ ps := by decide) (hcrossing : Part.crossing ∉ ps := by decide) : Struck t :=
  h.step hf (.of_frame hf hcrossing) htables hsections happroaches

/-- Out of use the tables and the sections may move. -/
theorem Struck.step_outOfUse {ps : List Part} {s t : State} (h : Struck s) (hs : s.crossing.state = .outOfUse)
    (hf : Frame ps s t) (hu : SameUse s t) (happroaches : Part.approaches ∉ ps := by decide) : Struck t := by
  refine struck_of_outOfUse (hu.2 hs) fun i => ?_
  rw [hf.approach i happroaches]
  exact (h i).idle hs

theorem Struck.crossingTurn {s : State} (h : Struck s) (before : State) : Struck (crossingTurn before s) :=
  h.step (crossingTurn_frame before s) (crossingTurn_sameUse before s)

theorem Struck.finish {s : State} (h : Struck s) (before : State) : Struck (finish before s) :=
  h.step (finish_frame before s) (finish_sameUse before s)

/-! ## One approach after another -/

/-- The approaches take an event in use, each as though it were alone. -/
theorem struck_of_alone {s t : State} {f : Fin 4 → State → State} (hu : Used s)
    (ht : Frame [.approaches, .banks, .faults, .newFault] s t)
    (hf : ∀ i, Frame [.approaches, .banks, .faults, .newFault] s (f i s))
    (halone : ∀ i : Fin 4, t.approaches[i] = (f i s).approaches[i]) (hkept : ∀ i, StruckInUse (f i s) i) : Struck t := by
  refine struck_of_used ((SameUse.of_frame ht).used hu) fun i => (hkept i).congr ?_ ?_ ?_ ?_
  · rw [ht.tables (by decide), (hf i).tables (by decide)]
  · rw [ht.sections (by decide), (hf i).sections (by decide)]
  · rw [halone]
  · rw [halone]

theorem Struck.approachWheel {s : State} (h : Struck s) (w : WheelEvent) : Struck (approachWheel w s) := by
  by_cases hs : s.crossing.state = .outOfUse
  · have hsame : Machine.approachWheel w s = s := by
      refine forEach_keeps (P := (· = s)) (f := takesWheel w) (fun i t ht => ?_) rfl
      subst ht
      exact takesWheel_none (.inl (by simp [approachActs, hs]))
    rw [hsame]
    exact h
  · exact struck_of_alone (f := takesWheel w) hs ((approachWheel_frame w s).mono (by decide))
      (fun i => (takesWheel_frame w i s).mono (by decide)) (approachWheel_alone w s)
      fun i => ((h i).inUse hs).takesWheel w

/-! ## The sections (R22, R26, R28) -/

/-- Of sections told of and none listed, nothing that an approach keeps has changed. -/
theorem unlisted_same {before s : State} (htold : ∀ ref, Told before s ref)
    (hnone : ∀ i, sectionListed before s i = false) (ref : Nat) :
    (SectionDisturbedAt s ref ↔ SectionDisturbedAt before ref) ∧ sectionFree s ref = sectionFree before ref := by
  by_cases hlt : ref < 8
  · obtain ⟨k, rfl⟩ : ∃ k : Fin 8, k.val = ref := ⟨⟨ref, hlt⟩, rfl⟩
    have hk := hnone k
    rw [told_listed (htold k.val), decide_eq_false_iff_not, not_or, not_not, not_not] at hk
    rw [sectionDisturbedAt_iff, sectionDisturbedAt_iff, sectionFree_at, sectionFree_at, hk.1, hk.2]
    exact ⟨Iff.rfl, rfl⟩
  · have hpast := Nat.not_lt.1 hlt
    rw [sectionFree_past s hpast, sectionFree_past before hpast]
    exact ⟨iff_of_false (not_disturbed_past s hpast) (not_disturbed_past before hpast), rfl⟩

theorem StruckInUse.unlisted {before s : State} {i : Fin 4} (h : StruckInUse before i)
    (htables : s.tm.tables = before.tm.tables) (hrecord : s.approaches[i] = before.approaches[i])
    (htold : ∀ ref, Told before s ref) (hnone : ∀ i, sectionListed before s i = false) : StruckInUse s i := by
  have hsame := unlisted_same htold hnone
  constructor
  · rw [HasDisturbed, (hsame _).1, (hsame _).1, htables, hrecord]
    exact h.disturbed
  · rw [(hsame _).2, htables, hrecord]
    exact h.island

/-- A step of the sections that its report tells of keeps the invariant, once the report has been taken. -/
theorem Struck.handReport {before s : State} (h : Struck before) (hf : Frame [.sections, .faults, .newFault] before s)
    (htold : ∀ ref, Told before s ref) (cause : ReportCause) : Struck (handReport cause before s) := by
  have htables := hf.tables (by decide)
  have hrecord (i : Fin 4) := hf.approach i (by decide)
  by_cases hs : before.crossing.state = .outOfUse
  · have hout : s.crossing.state = .outOfUse := (SameUse.of_frame hf).2 hs
    have hstruck : Struck s := h.step_outOfUse hs hf (.of_frame hf)
    unfold Machine.handReport
    dsimp only
    rw [approachReports_outOfUse hout]
    split
    · exact hstruck
    · exact hstruck.crossingTurn before
  have hu : Used s := (SameUse.of_frame hf).used hs
  by_cases hnone : ∀ i, sectionListed before s i = false
  · rw [handReport_of_none hnone]
    exact struck_of_used hu fun i => ((h i).inUse hs).unlisted htables (hrecord i) htold hnone
  · obtain ⟨i, hi⟩ := not_forall.1 hnone
    rw [handReport_of_some ⟨i, Bool.not_eq_false _ ▸ hi⟩]
    refine Struck.crossingTurn ?_ before
    refine struck_of_alone (f := takesReport (sectionReport cause before s)) hu (approachReports_frame ..)
      (fun i => takesReport_frame _ i s) (approachReports_alone _ s) fun i => ?_
    cases hacts : approachActs s i with
    | true =>
      rw [takesReport, hacts]
      exact ((h i).inUse hs).approachReport htables (hrecord i) htold cause
    | false =>
      rw [takesReport, hacts]
      refine struckInUse_of_outOfService fun hserv => ?_
      exact absurd ((approachActs_iff s i).2 ⟨hserv, hu⟩) (by simp [hacts])

/-- A move that leaves the sections out of service alone is told of. -/
theorem told_moved {next : Fin 8 → SectionRecord} {s : State}
    (h : ∀ k : Fin 8, s.tm.tables.sectionTable[k].inService ≠ true → next k = s.sections[k]) (ref : Nat) :
    Told s (moveSections next s) ref := by
  intro k _
  rw [(moveSections_frame next s).tables (by decide), moveSections_sections]
  by_cases hserv : s.tm.tables.sectionTable[k].inService = true
  · exact .inl hserv
  · exact .inr (h k hserv)

theorem Struck.disturbSections {s : State} (h : Struck s) (head : Fin 16) : Struck (disturbSections head s) := by
  rw [disturbSections_eq]
  refine h.handReport (moveSections_frame ..) (told_moved fun k hserv => ?_) .disturb
  exact disturbNext_of_not_named fun hn => hserv hn.1.1

theorem Struck.sectionWheel {s : State} (h : Struck s) (w : WheelEvent) : Struck (sectionWheel w s) := by
  rw [sectionWheel_eq]
  refine h.handReport (moveSections_frame ..) (told_moved fun k hserv => ?_) _
  exact if_neg hserv

theorem Struck.resetSectionRecord {s : State} (h : Struck s) {i : Fin 8} (hserv : (s.sectionEntry i).inService = true) :
    Struck (resetSectionRecord i s) := by
  refine h.handReport (s := resetSection i s)
    ((Frame.refl _ s).withSections.trans ((resetSection_frame i s).mono (by decide))) (fun ref k _ => ?_) .reset
  rw [resetSection_tables, resetSection_sections]
  by_cases hki : k = i
  · subst hki
    exact .inl hserv
  · exact .inr (Vector.getElem_set_ne i.isLt k.isLt fun hik => hki (Fin.ext hik.symm))

/-! ## The Head Monitor (R4 to R12) -/

section
variable {s : State} (h : Struck s) (i : Fin 16)
include h

theorem Struck.setHead (r : HeadRecord) : Struck (s.setHead i r) := h.quiet (Frame.refl [.heads] s).setHead

theorem Struck.countSkip : Struck (countSkip i s) := h.quiet (countSkip_frame i s)

theorem Struck.endLost : Struck (endLost i s) := h.quiet (endLost_frame i s)

theorem Struck.conditionEnd (c : FaultCode) (subject : Option Nat) : Struck (conditionEnd c subject s) :=
  h.quiet (conditionEnd_frame c subject s)

theorem Struck.conditionPresent (c : FaultCode) (subject : Option Nat) : Struck (conditionPresent c subject s) :=
  h.quiet (conditionPresent_frame c subject s)

theorem Struck.wheelToApproach (w : WheelEvent) : Struck (wheelToApproach w s) :=
  ((h.quiet (Frame.refl [.handed] s).withHanded).approachWheel w).crossingTurn s

theorem Struck.ordinaryWheel (w : WheelEvent) : Struck (ordinaryWheel w s) := (h.wheelToApproach w).sectionWheel w

theorem Struck.wheelTelegramFor (o : Observed) : Struck (wheelTelegramFor i o s) := by
  have hlive (state : HeadState) :
      Struck (s.setHead i (s.heads[i].adopt (o.payload.getD 0 0) o.arrival state)) := h.setHead i _
  unfold Machine.wheelTelegramFor
  dsimp only
  split
  · exact h.setHead i _
  · split
    · exact (hlive _).endLost i
    · split
      · exact ((hlive _).endLost i).wheelToApproach _
      · exact (((hlive _).endLost i).disturbSections i).countSkip i
  · exact ((hlive _).disturbSections i).countSkip i
  · exact ((hlive _).disturbSections i).countSkip i
  · exact (hlive _).ordinaryWheel _
  · split
    · split
      · exact (hlive _).ordinaryWheel _
      · split
        · exact h
        · exact (((hlive _).disturbSections i).countSkip i).wheelToApproach _
    · exact (hlive _).ordinaryWheel _

theorem Struck.when {f : State → State} (hf : ∀ u, Struck u → Struck (f u)) (c : Bool) : Struck (s.when c f) := by
  cases c
  · exact h
  · exact hf s h

theorem Struck.applyCondition (c : HealthCondition) (skip : Bool) : Struck (applyCondition i c skip s) := by
  have hskip := h.when (fun u hu => hu.countSkip i) skip
  have hdisturbed := hskip.when (fun u hu => hu.disturbSections i) (skip || c != .normal)
  unfold Machine.applyCondition
  cases c with
  | normal | sensorDisturbed => exact hdisturbed
  | sensorFault => exact (hdisturbed.setHead i _).conditionPresent _ _

theorem Struck.healthTelegramFor (o : Observed) : Struck (healthTelegramFor i o s) := by
  have hadopts (state : HeadState) :
      Struck (s.setHead i (s.heads[i].adopt (o.payload.getD 0 0) o.arrival state)) := h.setHead i _
  unfold Machine.healthTelegramFor
  dsimp only
  split
  · exact (hadopts _).applyCondition i _ _
  · exact (hadopts _).applyCondition i _ _
  · split
    · exact (hadopts _).conditionEnd _ _
    · exact hadopts _
  · split
    · split
      · exact ((hadopts _).endLost i).conditionEnd _ _
      · exact (hadopts _).endLost i
    · exact ((hadopts _).endLost i).applyCondition i _ _

theorem Struck.headSilent : Struck (headSilent i s) := by
  unfold Machine.headSilent
  dsimp only
  split
  · exact ((h.setHead i _).disturbSections i).conditionPresent _ _
  · exact h

theorem Struck.takePassed {kind : ObservedKind} {act : Fin 16 → Observed → State → State}
    (hact : ∀ i o u, Struck u → Struck (act i o u)) : Struck (takePassed kind act s) := by
  have htaken (rest : List Observed) : Struck { s with lnu := { s.lnu with passed := rest } } :=
    h.quiet (ps := [.passed]) ((Frame.refl _ s).withLnu (hd := .inl (by decide)))
  unfold Machine.takePassed
  split
  · dsimp only
    split
    · split
      · exact hact _ _ _ (htaken _)
      · exact htaken _
    · exact h
  · exact h

end

/-! ## One approach by itself (R48, R53) -/

/-- A strike in use, at an approach in service or not. -/
theorem Struck.strike {s : State} (h : Struck s) (hu : Used s) (i : Fin 4) (cause : StrikeCause) :
    Struck (strike i cause s) := by
  have hframe := strike_frame i cause s
  refine struck_of_used ((SameUse.of_frame hframe).used hu) fun j => ?_
  by_cases hji : j = i
  · subst hji
    exact struckInUse_strike (fun _ => (h j).inUse hu) cause
  · have hsame := (strike_others i cause s).kept j hji
    exact ((h j).inUse hu).congr (hframe.tables (by decide)) (hframe.sections (by decide)) (by rw [hsame]) (by rw [hsame])

/-- An approach in another state than IDLE is of a crossing in use (R37). -/
theorem Struck.used_of_not_idle {s : State} (h : Struck s) {i : Fin 4} (hi : s.approaches[i].state ≠ .idle) : Used s :=
  fun hs => hi ((h i).idle hs)

theorem Struck.deadlineEnds {s : State} (h : Struck s) (i : Fin 4) : Struck (deadlineEnds i s) := by
  unfold Machine.deadlineEnds
  split
  next hc =>
    obtain ⟨harmed, -⟩ := Bool.and_eq_true_iff.1 hc
    exact h.strike (h.used_of_not_idle (i := i) (by rw [of_decide_eq_true harmed]; decide)) i _
  next => exact h

end Sys2Proof.Machine
end

section
/-! SUPPORT. The approaches set up as the crossing comes into use (R37, R38, R84), and the table-valid flag set out of
use. -/

namespace Sys2Proof.Machine

set_option Elab.async false

/-! ## The flag set out of use leaves the crossing out of use (R178) -/

theorem handReport_sameUse (cause : ReportCause) (before s : State) : SameUse s (handReport cause before s) := by
  unfold handReport
  dsimp only
  split
  · exact .refl s
  · exact (SameUse.of_frame (approachReports_frame ..)).trans (crossingTurn_sameUse ..)

theorem setUpSections_sameUse (s : State) : SameUse s (setUpSections s) := by
  have hframe := forEach_next (ps := [.sections, .faults, .newFault, .handed]) (n := 8) (f := fun i u =>
    if s.tm.tables.sectionTable[i].inService then conditionPresent .sectionDisturbed (some i.val) u
    else conditionEnd .sectionDisturbed (some i.val) u)
    (fun i u => .ite ((conditionPresent_frame ..).mono (by decide)) ((conditionEnd_frame ..).mono (by decide)))
    ((Frame.refl _ s).withSections (x := Vector.replicate 8 .asDisturbed))
  rw [setUpSections_eq]
  exact (SameUse.of_frame hframe).trans (handReport_sameUse ..)

theorem validationPassed_sameUse (d : Derived) (s : State) : SameUse s (validationPassed d s) := by
  have hpassed : SameUse s (conditionEnd .tableInvalid none (adoptFigures d s)) :=
    (SameUse.of_frame (adoptFigures_frame d s)).trans (.of_frame (conditionEnd_frame ..))
  unfold validationPassed
  dsimp only
  split
  · exact hpassed
  · refine hpassed.trans ?_
    exact (SameUse.of_frame (produceStatus_frame _)).trans ((SameUse.of_frame (unseenHeads_frame _)).trans
      ((setUpSections_sameUse _).trans (.of_frame (beginSupervision_frame _))))

/-- A validation that passes out of use sets the flag and the blocks, with no approach acting (R37, R178). -/
theorem Struck.validationPassed {s : State} (h : Struck s) (hs : s.crossing.state = .outOfUse) (d : Derived) :
    Struck (validationPassed d s) :=
  h.step_outOfUse hs (validationPassed_outOfUse_frame hs d) (validationPassed_sameUse d s)

/-! ## An approach set up at the return to use (R38) -/

/-- One approach is set up from its sections. -/
def setsUp (i : Fin 4) (s : State) : State :=
  let e := s.approachEntry i
  if !e.inService then s
  else if sectionState s e.approachSection = some .disturbed ∨ sectionState s e.islandSection = some .disturbed then
    strike i .disturbed s
  else if !sectionFree s e.approachSection then strike i .untimeable s
  else s

theorem setUpApproaches_eq (s : State) : setUpApproaches s = forEach 4 setsUp s := rfl

theorem sectionState_disturbed_iff (s : State) (ref : Nat) :
    sectionState s ref = some .disturbed ↔ SectionDisturbedAt s ref := by
  by_cases hlt : ref < 8
  · simp [sectionState, SectionDisturbedAt, hlt]
  · simp [sectionState, SectionDisturbedAt, hlt]

section
variable {i : Fin 4} {s : State}

theorem setsUp_outOfService (h : s.tm.tables.approach[i].inService = false) : setsUp i s = s := by
  rw [setsUp, State.approachEntry, h]
  rfl

variable (h : s.tm.tables.approach[i].inService = true)
include h

theorem setsUp_disturbed (hd : HasDisturbed s i) : setsUp i s = strike i .disturbed s := by
  have hd' := hd.imp (sectionState_disturbed_iff ..).2 (sectionState_disturbed_iff ..).2
  rw [setsUp, State.approachEntry, h]
  exact if_pos hd'

theorem setsUp_undisturbed (hd : ¬ HasDisturbed s i) : setsUp i s =
    if sectionFree s s.tm.tables.approach[i].approachSection then s else strike i .untimeable s := by
  have hd' := mt (Or.imp (sectionState_disturbed_iff ..).1 (sectionState_disturbed_iff ..).1) hd
  rw [setsUp, State.approachEntry, h]
  refine (if_neg hd').trans ?_
  cases sectionFree s s.tm.tables.approach[i].approachSection <;> rfl

end

theorem setsUp_cases (i : Fin 4) (s : State) : setsUp i s = s ∨ ∃ cause, setsUp i s = strike i cause s := by
  unfold setsUp
  dsimp only
  split
  · exact .inl rfl
  · split
    · exact .inr ⟨_, rfl⟩
    · split
      · exact .inr ⟨_, rfl⟩
      · exact .inl rfl

theorem setsUp_frame (i : Fin 4) (s : State) : Frame [.approaches, .faults, .newFault] s (setsUp i s) := by
  obtain h | ⟨cause, h⟩ := setsUp_cases i s
  · rw [h]
    exact .refl _ s
  · rw [h]
    exact strike_frame ..

theorem setsUp_others (j : Fin 4) (s : State) : OthersKept j s (setsUp j s) := by
  obtain h | ⟨cause, h⟩ := setsUp_cases j s
  · rw [h]
    exact .refl j s
  · rw [h]
    exact strike_others ..

theorem Alike.setsUp {i : Fin 4} {s u : State} (h : Alike i s u) : Alike i (setsUp i s) (setsUp i u) := by
  have hstate (ref : Nat) : sectionState u ref = sectionState s ref := by simp only [sectionState, h.sections]
  unfold Machine.setsUp
  dsimp only
  rw [h.entry, hstate, hstate, h.sectionFree]
  split
  · exact h
  · split
    · exact h.strike _
    · split
      · exact h.strike _
      · exact h

/-- An approach not STRUCK, set up from its sections, keeps what is to keep of a crossing in use. -/
theorem struckInUse_setsUp {i : Fin 4} {s : State} (hs : s.approaches[i].state ≠ .struck) :
    StruckInUse (setsUp i s) i := by
  have hstrike (cause : StrikeCause) : StruckInUse (strike i cause s) i := struckInUse_strike (fun h => absurd h hs) cause
  by_cases hserv : s.tm.tables.approach[i].inService = true
  · by_cases hd : HasDisturbed s i
    · rw [setsUp_disturbed hserv hd]
      exact hstrike _
    · rw [setsUp_undisturbed hserv hd]
      split
      · exact ⟨fun _ h => absurd h hd, fun _ h => absurd h hs⟩
      · exact hstrike _
  · rw [setsUp_outOfService (Bool.not_eq_true _ ▸ hserv)]
    exact struckInUse_of_outOfService hserv

/-! ## An approach struck as loading succeeds (R37) -/

/-- One approach in service strikes DISTURBED. -/
def strikesDisturbed (i : Fin 4) (s : State) : State := s.when (s.approachEntry i).inService (strike i .disturbed)

theorem strikeAllDisturbed_eq (s : State) : strikeAllDisturbed s = forEach 4 strikesDisturbed s := rfl

theorem strikesDisturbed_frame (i : Fin 4) (s : State) :
    Frame [.approaches, .faults, .newFault] s (strikesDisturbed i s) := .ite (strike_frame ..) (.refl _ s)

theorem strikeAllDisturbed_alone (s : State) (i : Fin 4) :
    (strikeAllDisturbed s).approaches[i] = (strikesDisturbed i s).approaches[i] := by
  refine forEach_alone (f := strikesDisturbed) (fun j t => (strikesDisturbed_frame j t).mono (by decide))
    (fun j t => when_others j t (.refl j t) (strike_others j _) _) (fun j t u h => ?_) s i
  unfold strikesDisturbed
  rw [h.entry]
  exact h.when (h.strike _) _

theorem struckInUse_strikesDisturbed {i : Fin 4} {s : State} (hs : s.approaches[i].state ≠ .struck) :
    StruckInUse (strikesDisturbed i s) i := by
  unfold strikesDisturbed
  cases hserv : (s.approachEntry i).inService with
  | true => exact struckInUse_strike (fun h => absurd h hs) _
  | false =>
    refine struckInUse_of_outOfService fun h => ?_
    exact Bool.false_ne_true (hserv.symm.trans h)

/-! ## The crossing comes into use (R84, R188) -/

theorem enterOpen_used (s : State) : Used (enterOpen s) := used_of_state (x := .isOpen) rfl

theorem chooseCrossing_used (s : State) : Used (chooseCrossing s) := by
  unfold chooseCrossing
  split
  · exact enterFailed_used s
  · split
    · exact enterClosing_used s
    · split
      · exact enterOpen_used s
      · exact enterOpening_used s

/-- The crossing comes into use with every approach set up: `t` is the part after the approaches have been set up one by
one from `s`, and `u` the part with the crossing state chosen. -/
theorem struck_of_setUp {s t u : State} {f : Fin 4 → State → State}
    (ht : Frame [.approaches, .faults, .newFault] s t)
    (hf : ∀ i, Frame [.approaches, .faults, .newFault] s (f i s))
    (halone : ∀ i : Fin 4, t.approaches[i] = (f i s).approaches[i]) (hkept : ∀ i, StruckInUse (f i s) i)
    (hu : Frame [.crossing, .barriers, .faults] t u) (hused : Used u) : Struck u := by
  refine struck_of_used hused fun i => (hkept i).congr ?_ ?_ ?_ ?_
  · rw [hu.tables (by decide), ht.tables (by decide), (hf i).tables (by decide)]
  · rw [hu.sections (by decide), ht.sections (by decide), (hf i).sections (by decide)]
  · rw [hu.approach i (by decide), halone]
  · rw [hu.approach i (by decide), halone]

theorem Struck.not_struck {s : State} (h : Struck s) (hs : s.crossing.state = .outOfUse) (i : Fin 4) :
    s.approaches[i].state ≠ .struck := by
  rw [(h i).idle hs]
  decide

theorem Struck.chooseCrossing {s : State} (h : Struck s) (hs : s.crossing.state = .outOfUse) :
    Struck (chooseCrossing (setUpApproaches s)) :=
  struck_of_setUp (f := setsUp) (setUpApproaches_frame s) (fun i => setsUp_frame i s)
    (forEach_alone (fun j t => (setsUp_frame j t).mono (by decide)) setsUp_others (fun _ _ _ h => h.setsUp) s)
    (fun i => struckInUse_setsUp (h.not_struck hs i)) (chooseCrossing_frame _) (chooseCrossing_used _)

theorem Struck.enterClosing {s : State} (h : Struck s) (hs : s.crossing.state = .outOfUse) :
    Struck (enterClosing (strikeAllDisturbed s)) :=
  struck_of_setUp (f := strikesDisturbed) (strikeAllDisturbed_frame s) (fun i => strikesDisturbed_frame i s)
    (strikeAllDisturbed_alone s) (fun i => struckInUse_strikesDisturbed (h.not_struck hs i)) (enterClosing_frame _)
    (enterClosing_used _)

theorem Struck.completeLoading {s : State} (h : Struck s) (hin : InUse s) (answers : Bool) :
    Struck (completeLoading answers s) := by
  unfold Machine.completeLoading
  split
  next hl =>
    obtain ⟨hs, -⟩ := hin.loading hl
    generalize loadOutcome (readStore answers s.store) = outcome
    let t := eventEntered .coldStart none none (adoptTables outcome.1 s)
    have hframe : Frame [.loading, .tables, .faults, .newFault] s t :=
      ((adoptTables_frame ..).mono (by decide)).step (eventEntered_frame ..)
    have hout : t.crossing.state = .outOfUse := (SameUse.of_frame hframe).2 hs
    have hstruck : Struck t := h.step_outOfUse hs hframe (.of_frame hframe)
    dsimp only
    split
    next d _ =>
      have hpassed := (hstruck.validationPassed hout d).quiet (judgeAllBarriers_frame _)
      have hout' := ((validationPassed_sameUse d t).trans (.of_frame (judgeAllBarriers_frame _))).2 hout
      exact (hpassed.enterClosing hout').quiet (startBlock_frame _)
    next => exact (hstruck.quiet (loadFailed_frame _)).quiet (startBlock_frame _)
  next => exact h

end Sys2Proof.Machine
end

section
/-! SUPPORT. The invariant of the approaches through every step. -/

namespace Sys2Proof.Machine

set_option Elab.async false

/-! ## The commands of the loop -/

theorem coldStart_struck (written : Nat) (s : State) : Struck (coldStart written s) := (coldStart_isCold written s).struck

theorem restored_used (s : State) : Used (restored s) := by
  unfold restored
  split
  · exact judgePermit_used (used_of_state (x := .closed) rfl)
  · exact reenterClosing_used s

section
variable {s : State} (h : Struck s)
include h

theorem Struck.answered (q : QueuedCommand) (code : ReplyCode) (data : List Byte) : Struck (answered q code data s) :=
  (h.quiet (placeAnswer_frame q code data s)).quiet (freeProcessor_frame _)

/-- A command keeps the invariant where its own work does (R171). -/
theorem Struck.complete {own : QueuedCommand → State → Answered} (hown : ∀ q, Struck (own q s).state) (c : Command) :
    Struck (complete c own s) := by
  unfold Machine.complete
  split
  · split
    · split
      · exact h.answered _ _ _
      · exact (hown _).answered _ _ _
    · exact h
  · exact h

theorem Struck.completeRestart (written : Nat) : Struck (completeRestart written s) := by
  unfold Machine.completeRestart
  split
  · split
    · split
      · exact h.answered _ _ _
      · split
        · unfold beginRestart
          split
          · refine Struck.quiet ?_ (placeReply_frame ..)
            exact h.quiet (ps := [.queue]) ((Frame.refl _ s).withLnu (hq := .inl (by decide)))
          · exact coldStart_struck written _
        · exact h.answered _ _ _
    · exact h
  · exact h

theorem Struck.transmissionEnds (port : Port) (written : Nat) : Struck (transmissionEnds port written s) := by
  by_cases hcold : ∃ frame, (s.lnu.port port).sending = some (.inserted (.reply frame true))
  · obtain ⟨frame, hcold⟩ := hcold
    unfold Machine.transmissionEnds
    rw [hcold]
    exact coldStart_struck written _
  · exact h.quiet (transmissionEnds_frame (not_exists.1 hcold) written)

variable (q : QueuedCommand)

theorem Struck.ownCloseRequest : Struck (ownCloseRequest q s).state := by
  refine h.step (ownCloseRequest_frame q s) (.of_state ?_)
  unfold Machine.ownCloseRequest
  split
  · rfl
  · split_ifs <;> rfl

theorem Struck.ownRestore : Struck (ownRestore q s).state := by
  refine h.step (ownRestore_frame q s) ?_
  unfold Machine.ownRestore
  split
  · exact .refl s
  next hf =>
    split
    · exact .refl s
    · dsimp only [answer]
      exact .of_used (used_of_state (x := .failed) (by simpa using hf)) (restored_used s)

omit h in
theorem sequencerOutOfUse_state (s : State) : (sequencerOutOfUse s).crossing.state = .outOfUse := by
  have hstop (t : State) : (stopAll t).crossing = t.crossing := (stopAll_frame t).crossing (by decide)
  rw [sequencerOutOfUse, conditionEnd_crossing, hstop]
  rfl

theorem Struck.ownTakeOutOfUse : Struck (ownTakeOutOfUse q s).state := by
  unfold Machine.ownTakeOutOfUse
  split
  · dsimp only [answer]
    refine struck_of_outOfUse (s := idleApproaches (sequencerOutOfUse s)) (sequencerOutOfUse_state s) fun i => ?_
    simp [idleApproaches, ApproachRecord.cold]
  · exact h

theorem Struck.ownReturnToUse : Struck (ownReturnToUse q s).state := by
  unfold Machine.ownReturnToUse
  split
  next => exact h
  next hout =>
    have hs : s.crossing.state = .outOfUse := by simpa [outOfUse] using hout
    split
    · exact h
    · split
      · exact h
      next d _ =>
        dsimp only [answer]
        exact (h.validationPassed hs d).chooseCrossing ((validationPassed_sameUse d s).2 hs)

theorem Struck.ownResetSection : Struck (ownResetSection q s).state := by
  unfold Machine.ownResetSection
  split
  · dsimp only
    split
    next => exact h
    next hserv =>
      split
      · exact h
      · split
        · exact h
        · dsimp only [answer]
          exact h.resetSectionRecord (by simpa using hserv)
  · exact h

theorem Struck.ownDepart : Struck (ownDepart q s).state := by
  unfold Machine.ownDepart
  split
  next hlt =>
    dsimp only
    split
    · exact h
    · split
      next hdeferred =>
        dsimp only [answer]
        exact h.strike (h.used_of_not_idle (i := ⟨q.arg 0, hlt⟩) (by rw [hdeferred]; decide)) _ _
      next => exact h
  next => exact h

/-- A table is written out of use alone (R176). -/
theorem Struck.ownTableWrite : Struck (ownTableWrite q s).state := by
  by_cases hs : s.crossing.state = .outOfUse
  · have hframe := ownTableWrite_frame q s
    exact h.step_outOfUse hs hframe (.of_frame hframe)
  · unfold Machine.ownTableWrite
    simp only [outOfUse, beq_eq_false_iff_ne.2 hs, Bool.not_false, if_true]
    exact h

theorem Struck.ownSaveTables : Struck (ownSaveTables q s).state := by
  unfold Machine.ownSaveTables
  split
  next => exact h
  next hout =>
    have hs : s.crossing.state = .outOfUse := by simpa [outOfUse] using hout
    split
    · exact h
    · split
      · exact h
      · dsimp only [answer]
        exact (h.quiet (startSave_frame s)).validationPassed hs _

end

/-! ## A contact, and the barrier under calibration (R117, R124) -/

/-- Where no barrier is under calibration a contact moves barriers and faults alone. -/
theorem contactChanged_frame_of_idle {s : State} (h : s.cal.current = none) (i : Fin 4) (d : BarrierEnd)
    (closed : Bool) : Frame [.contacts, .barriers, .faults] s (contactChanged i d closed s) := by
  have hmoved : Frame [.contacts, .barriers, .faults] s
      (judgeBarrier i (contactMotion i d closed (setContact i d closed s))) :=
    (((setContact_frame i d closed s).mono (by decide)).step (contactMotion_frame ..)).step (judgeBarrier_frame ..)
  unfold contactChanged
  split
  · exact .refl _ s
  · dsimp only
    split
    · exact (setContact_frame i d closed s).mono (by decide)
    · split
      · unfold calibrationContact
        rw [hmoved.cal (by decide), h]
        exact hmoved
      · exact hmoved

/-- A calibration that ends writes a table out of use alone (R123, R125). -/
theorem Struck.contactChanged {s : State} (h : Struck s) (hin : InUse s) (i : Fin 4) (d : BarrierEnd) (closed : Bool) :
    Struck (contactChanged i d closed s) := by
  by_cases hcal : s.cal.current = none
  · exact h.quiet (contactChanged_frame_of_idle hcal i d closed)
  · have hframe := contactChanged_frame i d closed s
    exact h.step_outOfUse (hin.calibration (hin.calibrating hcal)) hframe (.of_frame hframe)

/-! ## Events -/

theorem InUse.advance {s : State} (h : InUse s) (dt : Time) : InUse (s.advance dt) :=
  ⟨h.program, h.valid, h.figures, h.loading, h.calibration, h.calibrating, h.lampTest, h.lampTested, h.save, h.alone⟩

theorem InUse.withPending {s : State} (h : InUse s) (rest : List Instr) : InUse { s with pending := rest } :=
  ⟨h.program, h.valid, h.figures, h.loading, h.calibration, h.calibrating, h.lampTest, h.lampTested, h.save, h.alone⟩

theorem Struck.advance {s : State} (h : Struck s) (dt : Time) : Struck (s.advance dt) := h.quiet (advance_frame dt s)

theorem Struck.withPending {s : State} (h : Struck s) (rest : List Instr) : Struck { s with pending := rest } := fun i =>
  ⟨(h i).disturbed, (h i).idle, (h i).island⟩

/-- An event keeps the invariant where its work does. -/
theorem Struck.event {s : State} (h : Struck s) (dt : Time) {work : State → State}
    (hwork : Struck (work (s.advance dt))) : Struck (event dt work s) := by
  unfold Machine.event
  split
  · exact hwork.finish _
  · exact h

/-- The same, for what a command leaves. -/
theorem Struck.next_event {s u : State} (h : Struck s) {dt : Time} {work : State → State}
    (hu : (.next (Machine.event dt work s) : Host.Outcome State Fault Refusal) = .next u)
    (hwork : Struck (s.advance dt) → Struck (work (s.advance dt))) : Struck u :=
  Host.Outcome.next.inj hu ▸ h.event dt (hwork (h.advance dt))

/-- The invariant through every command. -/
theorem Struck.exec {s u : State} (h : Struck s) (hin : InUse s) (c : Instr) (hu : exec c s = .next u) : Struck u := by
  cases c
  case powerUp written => exact Host.Outcome.next.inj hu ▸ coldStart_struck written { s with supply := true }
  case resetLineHeld written =>
    have hheld : Struck { s with resetHeld := true } := fun i => ⟨(h i).disturbed, (h i).idle, (h i).island⟩
    exact Host.Outcome.next.inj hu ▸ hheld.quiet (cutSave_frame written _)
  case resetLineRelease written =>
    have hreleased : Struck { s with resetHeld := false } := fun i => ⟨(h i).disturbed, (h i).idle, (h i).island⟩
    obtain rfl := Host.Outcome.next.inj hu
    split
    · exact coldStart_struck written _
    · exact hreleased
  case supplyFailure written =>
    have hfailed : Struck { s with supply := false } := fun i => ⟨(h i).disturbed, (h i).idle, (h i).island⟩
    exact Host.Outcome.next.inj hu ▸ hfailed.quiet (cutSave_frame written _)
  case loadingComplete dt answers => exact h.next_event hu fun k => k.completeLoading (hin.advance dt) answers
  case telegramReception => exact h.next_event hu fun k => k.quiet (receive_frame ..)
  case wheelTelegram => exact h.next_event hu fun k => k.takePassed fun i o _ hu => hu.wheelTelegramFor i o
  case healthTelegram => exact h.next_event hu fun k => k.takePassed fun i o _ hu => hu.healthTelegramFor i o
  case transmissionComplete => exact h.next_event hu fun k => k.transmissionEnds _ _
  case poll => exact h.next_event hu fun k => k.complete (fun q => k.quiet (ownPoll_frame q _)) _
  case faultRead => exact h.next_event hu fun k => k.complete (fun q => k.quiet (ownFaultRead_frame q _)) _
  case faultAccept => exact h.next_event hu fun k => k.complete (fun q => k.quiet (ownFaultAccept_frame q _)) _
  case closeRequest => exact h.next_event hu fun k => k.complete k.ownCloseRequest _
  case restore => exact h.next_event hu fun k => k.complete k.ownRestore _
  case takeOutOfUse => exact h.next_event hu fun k => k.complete k.ownTakeOutOfUse _
  case returnToUse => exact h.next_event hu fun k => k.complete k.ownReturnToUse _
  case resetSection => exact h.next_event hu fun k => k.complete k.ownResetSection _
  case depart => exact h.next_event hu fun k => k.complete k.ownDepart _
  case passageRead => exact h.next_event hu fun k => k.complete (fun q => k.quiet (ownPassageRead_frame q _)) _
  case tableWrite => exact h.next_event hu fun k => k.complete k.ownTableWrite _
  case tableRead => exact h.next_event hu fun k => k.complete (fun q => k.quiet (ownTableRead_frame q _)) _
  case saveTables => exact h.next_event hu fun k => k.complete k.ownSaveTables _
  case restart => exact h.next_event hu fun k => k.completeRestart _
  case calibrate => exact h.next_event hu fun k => k.complete (fun q => k.quiet (ownCalibrate_frame q _)) _
  case calibrateCancel => exact h.next_event hu fun k => k.complete (fun q => k.quiet (ownCalibrateCancel_frame q _)) _
  case lampTest => exact h.next_event hu fun k => k.complete (fun q => k.quiet (ownLampTest_frame q _)) _
  case measureRead => exact h.next_event hu fun k => k.complete (fun q => k.quiet (ownMeasureRead_frame q _)) _
  case passageClose => exact h.next_event hu fun k => k.complete (fun q => k.quiet (ownPassageClose_frame q _)) _
  case passageRelease => exact h.next_event hu fun k => k.complete (fun q => k.quiet (ownPassageRelease_frame q _)) _
  case unknownCommand => exact h.next_event hu fun k => k.quiet (completeUnknown_frame _)
  case unanswerableCommand => exact h.next_event hu fun k => k.quiet (completeUnanswerable_frame _)
  case headSilenceExpiry => exact h.next_event hu fun k => k.headSilent _
  case deadlineExpiry => exact h.next_event hu fun k => k.deadlineEnds _
  case waitExpiry dt =>
    exact h.next_event hu fun k => k.step (waitEnds_frame _) (waitEnds_sameUse (hin.advance dt))
  case permitLapse => exact h.next_event hu fun k => k.step (permitLapses_frame _) (permitLapses_sameUse _)
  case openDelayExpiry => exact h.next_event hu fun k => k.step (openDelayEnds_frame _) (openDelayEnds_sameUse _)
  case exitDelayExpiry => exact h.next_event hu fun k => k.step (exitDelayEnds_frame _) (exitDelayEnds_sameUse _)
  case longClosureExpiry => exact h.next_event hu fun k => k.step (longClosureEnds_frame _) (longClosureEnds_sameUse _)
  case halfPeriodExpiry => exact h.next_event hu fun k => k.quiet (halfPeriodEnds_frame _)
  case darkTimerExpiry => exact h.next_event hu fun k => k.quiet (darkTimerEnds_frame ..)
  case lampTestSlotEnd => exact h.next_event hu fun k => k.quiet (slotEnds_frame _)
  case startPhaseExpiry => exact h.next_event hu fun k => k.quiet (startPhaseEnds_frame ..)
  case reversePauseExpiry => exact h.next_event hu fun k => k.quiet (pauseEnds_frame ..)
  case trippedPauseExpiry => exact h.next_event hu fun k => k.quiet (pauseEnds_frame ..)
  case travelExpiry => exact h.next_event hu fun k => k.quiet (travelEnds_frame ..)
  case disagreementTimerExpiry => exact h.next_event hu fun k => k.quiet (disagreementEnds_frame ..)
  case calibrationLimitExpiry => exact h.next_event hu fun k => k.quiet (calibrationLimitEnds_frame _)
  case contactChange dt i d closed =>
    obtain rfl := Host.Outcome.next.inj hu
    split
    · exact h.event dt ((h.advance dt).contactChanged (hin.advance dt) i d closed)
    · exact h.quiet (setContact_frame ..)
  case strobe => exact h.next_event hu fun k => k.quiet (strobeTaken_frame ..)
  case quietEndExpiry => exact h.next_event hu fun k => k.quiet (quietEnds_frame _)
  case statusDueExpiry => exact h.next_event hu fun k => k.quiet (statusDueEnds_frame _)
  case linkEndExpiry => exact h.next_event hu fun k => k.quiet (linkEnds_frame _)
  case saveRunComplete => exact h.next_event hu fun k => k.quiet (completeSave_frame ..)

/-- Settles O59: command by command, each by the work of its event. -/
theorem disturbanceStaysStruck : Obligations.DisturbanceStaysStruck := by
  intro s t hin h hstep
  unfold step at hstep
  split at hstep
  next c rest _ => exact (h.withPending rest).exec (hin.withPending rest) c hstep
  next => exact Host.Outcome.next.inj hstep ▸ h

end Sys2Proof.Machine
end

section
/-! SUPPORT. What the Sequencer asks of the other blocks, and its turn crossing state by crossing state (R61, R66, R67,
R71, R73, R75, R76, R78, R85). -/

namespace Sys2Proof.Machine

set_option Elab.async false

/-! ## Closure demand, barriers at their ends, red on the road sides (R61, R66, R67) -/

theorem anyStruck_iff (s : State) : anyStruck s = true ↔
    ∃ i : Fin 4, s.tm.tables.approach[i].inService = true ∧ s.approaches[i].state = .struck := by
  simp [anyStruck]

theorem anyIslandHeld_iff (s : State) : anyIslandHeld s = true ↔
    ∃ i : Fin 8, s.tm.tables.sectionTable[i].inService = true ∧ s.tm.tables.sectionTable[i].kind = .island ∧
      ¬ SectionFree s.sections[i] := by
  simp [anyIslandHeld, ← SectionRecord.free_iff, and_assoc]

theorem demand_iff (s : State) : demand s = true ↔ ClosureDemand s := by
  rw [demand, Bool.or_eq_true, Bool.or_eq_true, anyStruck_iff, anyIslandHeld_iff, or_assoc, ClosureDemand]

theorem demand_eq_iff (s t : State) : demand s = demand t ↔ (ClosureDemand s ↔ ClosureDemand t) := by
  rw [Bool.eq_iff_iff, demand_iff, demand_iff]

theorem allProved_iff (d : BarrierEnd) (s : State) : allProved d s = true ↔ AllProved d s := by
  simp only [allProved, List.all_eq_true, List.mem_finRange, forall_const, State.barrierEntry, Bool.or_eq_true,
    Bool.not_eq_true', ← Bool.not_eq_true, ← imp_iff_not_or, AllProved]

/-- Every road side on which an in-service barrier of a role stands has red proved (R66). -/
def RedOn (role : BarrierRole) (s : State) : Prop :=
  ∀ i : Fin 4, s.tm.tables.barrier[i].inService = true → s.tm.tables.barrier[i].role = role →
    s.lamp.redProved.get s.tm.tables.barrier[i].roadSide = true

theorem roleRed_iff (role : BarrierRole) (s : State) : roleRed role s = true ↔ RedOn role s := by
  simp only [roleRed, List.all_eq_true, List.mem_finRange, forall_const, State.barrierEntry, Bool.or_eq_true,
    Bool.not_eq_true', ← Bool.not_eq_true, ← imp_iff_not_or, Bool.and_eq_true, beq_iff_eq, and_imp, RedOn]

theorem StepKind.lowered_iff (k : StepKind) (role : BarrierRole) : k.lowered = some role ↔
    (k = .lowerEntry ∧ role = .entry) ∨ (k = .lowerExit ∧ role = .exit) := by
  cases k <;> simp [StepKind.lowered, eq_comm]

/-! ## The wait of the current step (R66, R67) -/

/-- The step at which a program stands, `steps` being its table, lowers barriers of a role whose sides have red
proved. -/
def LowersOnRed (steps : List ProgramStep) (s : State) : Prop :=
  ∃ n k, s.crossing.step = some n ∧ steps[n - 1]? = some k ∧
    ((k.kind = .lowerEntry ∧ RedOn .entry s) ∨ (k.kind = .lowerExit ∧ RedOn .exit s))

theorem lowersOnRed_of_step {s : State} {n : Nat} {steps : List ProgramStep} (h : s.crossing.step = some n) :
    LowersOnRed steps s ↔ ∃ k role, steps[n - 1]? = some k ∧ k.kind.lowered = some role ∧ RedOn role s := by
  constructor
  · rintro ⟨m, k, hm, hk, hlower⟩
    obtain rfl : m = n := Option.some.inj (hm.symm.trans h)
    obtain ⟨hkind, hred⟩ | ⟨hkind, hred⟩ := hlower
    · exact ⟨k, .entry, hk, (k.kind.lowered_iff _).2 (.inl ⟨hkind, rfl⟩), hred⟩
    · exact ⟨k, .exit, hk, (k.kind.lowered_iff _).2 (.inr ⟨hkind, rfl⟩), hred⟩
  · rintro ⟨k, role, hk, hrole, hred⟩
    obtain ⟨hkind, rfl⟩ | ⟨hkind, rfl⟩ := (k.kind.lowered_iff role).1 hrole
    · exact ⟨n, k, h, hk, .inl ⟨hkind, hred⟩⟩
    · exact ⟨n, k, h, hk, .inr ⟨hkind, hred⟩⟩

theorem waitHolds_redProved {s : State} (h : s.crossing.stepWait = .redProved) :
    waitHolds s = true ↔ LowersOnRed (programTable s s.crossing.program) s := by
  cases hstep : s.crossing.step with
  | none => simp [waitHolds, h, hstep, LowersOnRed]
  | some n =>
    rw [lowersOnRed_of_step hstep]
    cases hk : (programTable s s.crossing.program)[n - 1]? with
    | none => simp [waitHolds, h, hstep, hk]
    | some k => cases hrole : k.kind.lowered <;> simp [waitHolds, h, hstep, hk, hrole, roleRed_iff]

theorem waitHolds_iff (s : State) : waitHolds s = true ↔
    (s.crossing.stepWait = .allDown ∧ AllProved .down s) ∨ (s.crossing.stepWait = .allUp ∧ AllProved .up s) ∨
      (s.crossing.stepWait = .redProved ∧ LowersOnRed (programTable s s.crossing.program) s) := by
  cases h : s.crossing.stepWait with
  | redProved => simp [waitHolds_redProved h]
  | allDown => simp [waitHolds, h, allProved_iff]
  | allUp => simp [waitHolds, h, allProved_iff]
  | none => simp [waitHolds, h]
  | time => simp [waitHolds, h]

/-! ## The alarm notice (R76) -/

theorem takeAlarm_of_none {s : State} (h : s.handed.alarm = false) : takeAlarm s = s := by
  have hs : { s with handed := { s.handed with alarm := false } } = s := by
    rw [← h]
  simp only [takeAlarm, h, hs, Bool.false_eq_true, if_false]

theorem takeAlarm_ends {s : State} (h : s.handed.alarm = true) :
    (takeAlarm s).crossing.state = .failed ∨ (takeAlarm s).crossing.state = .outOfUse := by
  have hfails (hs : takeAlarm s = enterFailed { s with handed := { s.handed with alarm := false } }) :
      (takeAlarm s).crossing.state = .failed := by rw [hs, enterFailed_state]
  have hstays (hs : takeAlarm s = { s with handed := { s.handed with alarm := false } }) :
      (takeAlarm s).crossing.state = s.crossing.state := by rw [hs]
  cases hs : s.crossing.state with
  | isOpen | closing | closed | opening => exact .inl (hfails (by simp only [takeAlarm, h, hs, if_true]))
  | failed => exact .inl ((hstays (by simp only [takeAlarm, h, hs, if_true])).trans hs)
  | outOfUse => exact .inr ((hstays (by simp only [takeAlarm, h, hs, if_true])).trans hs)

/-! ## The turn of the Sequencer (R61, R66, R67, R71, R73, R75) -/

theorem sequencerTurn_of_alarm {s : State} (h : s.handed.alarm = true) (before : State) :
    sequencerTurn before s = takeAlarm s := by
  obtain hs | hs := takeAlarm_ends h <;> simp only [sequencerTurn, hs]

section
variable {before s : State} (h : s.handed.alarm = false)
include h

theorem sequencerTurn_isOpen (hs : s.crossing.state = .isOpen) :
    sequencerTurn before s = if demand s then enterClosing s else s := by
  simp only [sequencerTurn, takeAlarm_of_none h, hs]

theorem sequencerTurn_opening (hs : s.crossing.state = .opening) : sequencerTurn before s =
    if demand s then reenterClosing s else if waitHolds s then moveOn s else s := by
  simp only [sequencerTurn, takeAlarm_of_none h, hs]

theorem sequencerTurn_closing (hs : s.crossing.state = .closing) :
    sequencerTurn before s = if waitHolds s then moveOn s else s := by
  simp only [sequencerTurn, takeAlarm_of_none h, hs]

theorem sequencerTurn_closed (hs : s.crossing.state = .closed) : sequencerTurn before s =
    if demand s != demand before || deadlinesHeld s != deadlinesHeld before then judgePermit s else s := by
  simp only [sequencerTurn, takeAlarm_of_none h, hs]

theorem sequencerTurn_stays (hs : s.crossing.state = .failed ∨ s.crossing.state = .outOfUse) :
    sequencerTurn before s = s := by
  obtain hs | hs := hs <;> simp only [sequencerTurn, takeAlarm_of_none h, hs]

end

/-! ## The proved indication (R78) -/

theorem judgeProved_eq {s : State} {proved : Bool} (h : proved = true ↔ s.crossing.state = .closed ∧
    AllProved .down s ∧ s.lamp.redProved.north = true ∧ s.lamp.redProved.south = true) :
    judgeProved s = { s with crossing := { s.crossing with proved := proved } } := by
  have heq : proved = (s.crossing.state == .closed && allProved .down s && s.lamp.redProved.north &&
      s.lamp.redProved.south) := by
    rw [Bool.eq_iff_iff, h]
    simp only [Bool.and_eq_true, beq_iff_eq, allProved_iff, and_assoc]
  rw [heq]
  rfl

/-- Settles O45: the alarm notice leads to a state that stays, and in the others the turn is read off the crossing
state. -/
theorem sequencerTakesWhatIsHandedOn : Obligations.SequencerTakesWhatIsHandedOn := by
  refine ⟨?_, ?_, fun w s => ⟨rfl, rfl⟩, fun before s => rfl⟩
  · intro before s turn red steps holds moved deadlines
    have hholds : waitHolds s = true ↔ holds := waitHolds_iff s
    refine ⟨fun h => sequencerTurn_of_alarm h before, fun h => ⟨?_, ?_, ?_, ?_, ?_, ?_, ?_, ?_, ?_, ?_⟩⟩
    · intro hs hd
      exact (sequencerTurn_isOpen h hs).trans (if_pos ((demand_iff s).2 hd))
    · intro hs hd
      exact (sequencerTurn_isOpen h hs).trans (if_neg (mt (demand_iff s).1 hd))
    · intro hs hd
      exact (sequencerTurn_opening h hs).trans (if_pos ((demand_iff s).2 hd))
    · intro hs hd hw
      exact (sequencerTurn_opening h hs).trans
        ((if_neg (mt (demand_iff s).1 hd)).trans (if_neg (mt hholds.1 hw)))
    · intro n hs hd hw hp hn
      exact (sequencerTurn_opening h hs).trans
        ((if_neg (mt (demand_iff s).1 hd)).trans ((if_pos (hholds.2 hw)).trans (moveOn_opening hn hp)))
    · intro hs hw
      exact (sequencerTurn_closing h hs).trans (if_neg (mt hholds.1 hw))
    · intro n hs hw hp hn
      exact (sequencerTurn_closing h hs).trans ((if_pos (hholds.2 hw)).trans (moveOn_closing hn hp))
    · intro hs hchange
      refine (sequencerTurn_closed h hs).trans (if_pos ?_)
      rw [Bool.or_eq_true, bne_iff_ne, bne_iff_ne, Ne, demand_eq_iff]
      exact hchange
    · intro hs hdemand hdeadlines
      refine (sequencerTurn_closed h hs).trans (if_neg ?_)
      rw [Bool.or_eq_true, bne_iff_ne, bne_iff_ne, Ne, demand_eq_iff]
      exact fun hchange => hchange.elim (absurd hdemand) (absurd hdeadlines)
    · exact fun hs => sequencerTurn_stays h hs
  · intro before s u hu proved hproved
    rw [crossingTurn, hu]
    exact judgeProved_eq hproved

end Sys2Proof.Machine
end

section
/-! SUPPORT. The crossing taken out of use and returned to use (R38, R82 to R84). -/

namespace Sys2Proof.Machine

set_option Elab.async false

/-! ## TAKE_OUT_OF_USE (R82) -/

theorem allIdle_iff (s : State) : allIdle s = true ↔
    ∀ i : Fin 4, s.tm.tables.approach[i].inService = true → s.approaches[i].state = .idle := by
  simp only [allIdle, List.all_eq_true, List.mem_finRange, forall_const, State.approachEntry, Bool.or_eq_true,
    Bool.not_eq_true', ← Bool.not_eq_true, ← imp_iff_not_or, beq_iff_eq]

theorem mayGoOut_iff (s : State) : mayGoOut s = true ↔ s.crossing.state = .failed ∨ (s.crossing.state = .isOpen ∧
    ∀ i : Fin 4, s.tm.tables.approach[i].inService = true → s.approaches[i].state = .idle) := by
  simp only [mayGoOut, Bool.or_eq_true, Bool.and_eq_true, beq_iff_eq, allIdle_iff]

/-- The stop orders reach each barrier once. -/
theorem stopAll_eq (s : State) : stopAll s = { s with barriers := s.barriers.map BarrierRecord.stopped } := by
  have halone : stopAll s = { s with barriers := (stopAll s).barriers } := rfl
  have hbarriers : (stopAll s).barriers = s.barriers.map BarrierRecord.stopped := by
    simp only [stopAll, forEach, List.finRange_succ, List.finRange_zero, List.map, List.foldl]
    ext1 i hi
    obtain rfl | rfl | rfl | rfl : i = 0 ∨ i = 1 ∨ i = 2 ∨ i = 3 := by omega
    all_goals simp
  rw [halone, hbarriers]

theorem idleApproaches_eq (s : State) : idleApproaches s = { s with approaches := Vector.replicate 4 .cold } := by
  rw [idleApproaches, Vector.map_const']

/-- The crossing record out of use. -/
def CrossingRecord.outOfUse (c : CrossingRecord) : CrossingRecord :=
  { c with
    state := .outOfUse, program := .none, step := none, stepWait := .none, waitEnd := none, aspect := .dark,
    sound := false, openDelayEnd := none, permitLapse := none, exitDelayEnd := none, closedSince := none,
    longReported := false, closureRequest := false }

/-- What going out of use makes of the part (R37, R82, R111). -/
theorem goneOut_eq (s : State) : idleApproaches (sequencerOutOfUse s) = { conditionEnd .longClosure none s with
    crossing := s.crossing.outOfUse
    barriers := s.barriers.map BarrierRecord.stopped
    approaches := Vector.replicate 4 .cold } := by
  rw [idleApproaches_eq, sequencerOutOfUse, stopAll_eq, conditionEnd_eq, conditionEnd_eq]
  rfl

theorem ownTakeOutOfUse_taken {s : State} (h : mayGoOut s = true) (q : QueuedCommand) :
    ownTakeOutOfUse q s = answer .done (idleApproaches (sequencerOutOfUse s)) := if_pos h

theorem ownTakeOutOfUse_refused {s : State} (h : ¬ mayGoOut s = true) (q : QueuedCommand) :
    ownTakeOutOfUse q s = refuse .refusedState s := if_neg h

/-! ## RETURN_TO_USE (R83, R84) -/

theorem anyRunning_iff (s : State) : anyRunning s = true ↔ ¬ NothingRuns s := by
  simp only [anyRunning, NothingRuns, Bool.or_eq_true, beq_iff_eq, not_and_or, not_not, or_assoc]

theorem alarmPresent_iff (s : State) : alarmPresent s = true ↔ AlarmHeld s := by
  simp only [alarmPresent, AlarmHeld, List.any_eq_true, Bool.and_eq_true, beq_iff_eq, bne_iff_ne]

/-- The event of a RETURN_TO_USE from a signaller: it is the one signaller command for which the tables need not be
valid (R172). -/
theorem returnToUse_event {s : State} {q : QueuedCommand} (hq : Processes s q 7 [])
    (hrole : HasRole s q.source .signaller) {dt : Time} {reply : ReplyCode} {data : List Byte} {u : State}
    (hown : ownReturnToUse q (s.advance dt) = { state := u, code := reply, data := data }) :
    exec (.returnToUse dt) s = .next (finish (s.advance dt) (answered q reply data u)) := by
  have hcheck : generalCheck .returnToUse q (s.advance dt) = none := by
    have hholds : holdsRole s.tm.tables q.source .signaller = true := (holdsRole_iff s _ _).2 hrole
    have hlength : Command.returnToUse.lengthFits q.payload.length = true := by rw [hq.payload_length]; rfl
    simp [generalCheck, authorised, Command.cls, hholds, hlength]
  have hevent : event dt (complete .returnToUse ownReturnToUse) s =
      finish (s.advance dt) (answered q reply data u) := by
    rw [event_of_running hq.1, complete_of_processes hq rfl hcheck, hown]
  exact congrArg Host.Outcome.next hevent

section
variable {s : State} (q : QueuedCommand)

theorem ownReturnToUse_refused (h : s.crossing.state ≠ .outOfUse ∨ ¬ NothingRuns s) :
    ownReturnToUse q s = refuse .refusedState s := by
  unfold ownReturnToUse
  split
  · rfl
  next hout =>
    have hs : s.crossing.state = .outOfUse := by simpa [outOfUse] using hout
    exact if_pos ((anyRunning_iff s).2 (h.resolve_left (absurd hs)))

variable (hs : s.crossing.state = .outOfUse) (hruns : NothingRuns s)
include hs hruns

theorem ownReturnToUse_validates : ownReturnToUse q s = match validate s.tm.tables with
    | .failed f => { state := s, code := .refusedArgument, data := failureData f }
    | .passed d => answer .done (chooseCrossing (setUpApproaches (validationPassed d s))) := by
  have hout : ¬ (!outOfUse s) = true := by simp [outOfUse, hs]
  have hrun : ¬ anyRunning s = true := mt (anyRunning_iff s).1 (not_not.2 hruns)
  exact (if_neg hout).trans (if_neg hrun)

theorem ownReturnToUse_failed {f : Failure} (h : validate s.tm.tables = .failed f) :
    ownReturnToUse q s = { state := s, code := .refusedArgument, data := failureData f } := by
  rw [ownReturnToUse_validates q hs hruns, h]

theorem ownReturnToUse_passed {d : Derived} (h : validate s.tm.tables = .passed d) :
    ownReturnToUse q s = answer .done (chooseCrossing (setUpApproaches (validationPassed d s))) := by
  rw [ownReturnToUse_validates q hs hruns, h]

end

/-! ## The crossing state chosen in stages (R84) -/

section
variable {s : State}

theorem chooseCrossing_failed (h : AlarmHeld s) : chooseCrossing s = enterFailed s :=
  if_pos ((alarmPresent_iff s).2 h)

variable (h : ¬ AlarmHeld s)
include h

theorem chooseCrossing_closing (hd : ClosureDemand s) : chooseCrossing s = enterClosing s :=
  (if_neg (mt (alarmPresent_iff s).1 h)).trans (if_pos ((demand_iff s).2 hd))

variable (hd : ¬ ClosureDemand s)
include hd

theorem chooseCrossing_open (hup : AllProved .up s) : chooseCrossing s = enterOpen s :=
  (if_neg (mt (alarmPresent_iff s).1 h)).trans
    ((if_neg (mt (demand_iff s).1 hd)).trans (if_pos ((allProved_iff .up s).2 hup)))

theorem chooseCrossing_opening (hup : ¬ AllProved .up s) : chooseCrossing s = enterOpening s :=
  (if_neg (mt (alarmPresent_iff s).1 h)).trans
    ((if_neg (mt (demand_iff s).1 hd)).trans (if_neg (mt (allProved_iff .up s).1 hup)))

end

/-! ## The approaches set up (R38) -/

/-- What setting up makes of an approach, by the cause with which it strikes. -/
theorem setsUp_outcome {i : Fin 4} {s : State} {outcome : Option StrikeCause}
    (hout : s.tm.tables.approach[i].inService = false → outcome = none)
    (hserv : s.tm.tables.approach[i].inService = true → ∃ a b : Fin 8,
      s.tm.tables.approach[i].approachSection = a.val ∧ s.tm.tables.approach[i].islandSection = b.val ∧
      let disturbed := s.sections[a].state = .disturbed ∨ s.sections[b].state = .disturbed
      (disturbed → outcome = some .disturbed) ∧
      (¬ disturbed → ¬ SectionFree s.sections[a] → outcome = some .untimeable) ∧
      (¬ disturbed → SectionFree s.sections[a] → outcome = none)) :
    setsUp i s = match outcome with
      | some cause => strike i cause s
      | none => s := by
  cases h : s.tm.tables.approach[i].inService with
  | false => rw [setsUp_outOfService h, hout h]
  | true =>
    obtain ⟨a, b, ha, hb, hdisturbed, hheld, hfree⟩ := hserv h
    have hiff : HasDisturbed s i ↔ s.sections[a].state = .disturbed ∨ s.sections[b].state = .disturbed := by
      rw [HasDisturbed, ha, hb, sectionDisturbedAt_iff, sectionDisturbedAt_iff]
    by_cases hd : HasDisturbed s i
    · rw [setsUp_disturbed h hd, hdisturbed (hiff.1 hd)]
    · rw [setsUp_undisturbed h hd, ha, sectionFree_at]
      by_cases hf : SectionFree s.sections[a]
      · rw [hfree (mt hiff.2 hd) hf, if_pos ((SectionRecord.free_iff _).2 hf)]
      · rw [hheld (mt hiff.2 hd) hf, if_neg (mt (SectionRecord.free_iff _).1 hf)]

/-- Settles O15: each command by the lemma of its branch, and the setting up approach by approach. -/
theorem crossingLeavesAndReturnsToUse : Obligations.CrossingLeavesAndReturnsToUse := by
  refine ⟨fun s q dt hq => ?_, fun s q dt hq hrole => ?_, fun s outcome hout hserv => ?_⟩
  · intro idle replied
    have hexec {reply : ReplyCode} {u : State}
        (hown : ownTakeOutOfUse q (s.advance dt) = { state := u, code := reply, data := [] }) :
        exec (.takeOutOfUse dt) s = .next (finish (s.advance dt) (answered q reply [] u)) :=
      congrArg Host.Outcome.next (hq.event_eq (c := .takeOutOfUse) rfl rfl rfl hown)
    have hmay : mayGoOut (s.advance dt) = true ↔
        s.crossing.state = .failed ∨ (s.crossing.state = .isOpen ∧ idle) :=
      mayGoOut_iff _
    exact ⟨fun h => hexec ((ownTakeOutOfUse_taken (hmay.2 h) q).trans (congrArg (answer .done) (goneOut_eq _))),
      fun h => hexec (ownTakeOutOfUse_refused (mt hmay.1 h) q)⟩
  · refine ⟨fun h => returnToUse_event hq hrole (ownReturnToUse_refused (s := s.advance dt) q h),
      fun f hs hruns hf => returnToUse_event hq hrole (ownReturnToUse_failed (s := s.advance dt) q hs hruns hf),
      fun d hs hruns hd => ?_⟩
    intro u
    have hchosen {v : State} (hv : chooseCrossing u = v) :
        exec (.returnToUse dt) s = .next (finish (s.advance dt) (answered q .done [] v)) :=
      returnToUse_event hq hrole
        ((ownReturnToUse_passed (s := s.advance dt) q hs hruns hd).trans (congrArg (answer .done) hv))
    clear_value u
    exact ⟨fun h => hchosen (chooseCrossing_failed h), fun h hd => hchosen (chooseCrossing_closing h hd),
      fun h hd hup => hchosen (chooseCrossing_open h hd hup),
      fun h hd hup => hchosen (chooseCrossing_opening h hd hup)⟩
  · rw [setUpApproaches_eq]
    refine forEach_congr (Q := fun _ u => u.tm.tables = s.tm.tables ∧ u.sections = s.sections) (fun i u hu => ?_)
      (fun i j u _ hu => ?_) (fun _ => ⟨rfl, rfl⟩)
    · obtain ⟨htables, hsections⟩ := hu
      refine setsUp_outcome ?_ ?_
      · rw [htables]
        exact hout i
      · rw [htables, hsections]
        exact hserv i
    · have hframe := setsUp_frame j u
      exact ⟨(hframe.tables (by decide)).trans hu.1, (hframe.sections (by decide)).trans hu.2⟩

end Sys2Proof.Machine
end

section
/-! SUPPORT. The image checks, and the part as loading completes (R37, R183, R187, R188). -/

namespace Sys2Proof.Machine

set_option Elab.async false

/-! ## The image (R183, R187) -/

theorem foldl_add_toNat (ws : List Word) (a : Word) :
    (ws.foldl (· + ·) a).toNat = (a.toNat + (ws.map (·.toNat)).sum) % 65536 := by
  induction ws generalizing a with
  | nil => exact (Nat.mod_eq_of_lt a.isLt).symm
  | cons w ws ih =>
    rw [List.foldl_cons, ih, List.map_cons, List.sum_cons, BitVec.toNat_add]
    omega

theorem wordSum_eq_zero_iff (ws : List Word) : wordSum ws = 0 ↔ (ws.map (·.toNat)).sum % 65536 = 0 := by
  rw [BitVec.toNat_eq, wordSum, foldl_add_toNat]
  simp

theorem imagePasses_iff (ws : List Word) : imagePasses ws = true ↔
    ws.getD 0 0 = 426 ∧ ws.getD 1 0 = 1 ∧ (ws.map (·.toNat)).sum % 65536 = 0 := by
  have hlength : BitVec.ofNat 16 Config.imageWords = 426 := rfl
  rw [imagePasses, hlength, Bool.and_eq_true, Bool.and_eq_true, beq_iff_eq, beq_iff_eq, beq_iff_eq,
    wordSum_eq_zero_iff, and_assoc]

theorem readStore_length (answers : Bool) (store : List Word) : (readStore answers store).length = 426 := by
  cases answers with
  | true => exact (List.length_map _).trans List.length_range
  | false => exact List.length_replicate

theorem readStore_answers {store : List Word} (h : store.length = 426) : readStore true store = store :=
  List.ext_getElem ((readStore_length true store).trans h.symm) fun i _ hi => by simp [readStore, hi]

/-- A store that does not answer gives no length word (R187). -/
theorem imagePasses_readStore_silent (store : List Word) : imagePasses (readStore false store) = false := by
  have hword : (readStore false store).getD 0 0 = 0xFFFF := rfl
  refine Bool.eq_false_iff.2 fun h => ?_
  obtain ⟨hlength, -, -⟩ := (imagePasses_iff _).1 h
  exact absurd (hword.symm.trans hlength) (by decide)

/-! ## The outcome of loading (R187, R188) -/

section
variable {image : List Word}

theorem loadOutcome_passed {d : Derived} (h : imagePasses image = true)
    (hv : validate (loadImage image) = .passed d) : loadOutcome image = (loadImage image, some d) := by
  rw [loadOutcome, if_pos h, hv]

theorem loadOutcome_failed {f : Failure} (h : imagePasses image = true)
    (hv : validate (loadImage image) = .failed f) : loadOutcome image = (loadImage image, none) := by
  rw [loadOutcome, if_pos h, hv]

theorem loadOutcome_blank (h : imagePasses image = false) : loadOutcome image = (Tables.blank, none) := by
  rw [loadOutcome, if_neg (Bool.eq_false_iff.1 h)]

end

section
variable {s : State} {answers : Bool} {ts : Tables} (h : s.loading = true)
include h

theorem completeLoading_some {d : Derived} (hout : loadOutcome (readStore answers s.store) = (ts, some d)) :
    completeLoading answers s =
      startBlock (enterClosing (strikeAllDisturbed (forEach 4 judgeBarrier
        (validationPassed d (eventEntered .coldStart none none (adoptTables ts s)))))) := by
  rw [completeLoading, if_pos h, hout]
  rfl

theorem completeLoading_none (hout : loadOutcome (readStore answers s.store) = (ts, none)) :
    completeLoading answers s = startBlock (forEach 4 judgeBarrier
      (conditionPresent .tableInvalid none (eventEntered .coldStart none none (adoptTables ts s)))) := by
  rw [completeLoading, if_pos h, hout]
  rfl

end

/-! ## Every approach strikes DISTURBED (R37, R49) -/

theorem strikesDisturbed_approaches (i : Fin 4) (s : State) :
    strikesDisturbed i s = { s with approaches := (strikesDisturbed i s).approaches } := by
  unfold strikesDisturbed State.when
  split
  · by_cases hs : s.approaches[i].state = .struck
    · rw [strike_of_struck hs]
    · rw [strike_eq hs (by decide)]
      rfl
  · rfl

theorem strikeAllDisturbed_approaches (s : State) :
    strikeAllDisturbed s = { s with approaches := (strikeAllDisturbed s).approaches } := by
  refine forEach_keeps (P := fun t => t = { s with approaches := t.approaches }) (f := strikesDisturbed)
    (fun i t ht => ?_) rfl
  rw [strikesDisturbed_approaches, ht]

section
variable {i : Fin 4} {s : State}

theorem strikesDisturbed_struck (hserv : s.tm.tables.approach[i].inService = true)
    (hs : s.approaches[i].state ≠ .struck) :
    (strikesDisturbed i s).approaches[i] = struckRecord i .disturbed s := by
  have hstrikes : strikesDisturbed i s = strike i .disturbed s := if_pos hserv
  rw [hstrikes, strike_record hs]

theorem strikesDisturbed_kept (h : s.tm.tables.approach[i].inService = false ∨ s.approaches[i].state = .struck) :
    strikesDisturbed i s = s := by
  obtain h | h := h
  · exact if_neg (Bool.eq_false_iff.1 h)
  · exact (if_congr Iff.rfl (strike_of_struck h _) rfl).trans (ite_self s)

end

/-- Settles O5: the outcome of the image and its validation, then the part that each leaves. -/
theorem loadingCompletes : Obligations.LoadingCompletes := by
  intro s dt answers hrun hl image loaded
  have hexec {u : State} (hu : completeLoading answers (s.advance dt) = u) :
      exec (.loadingComplete dt answers) s = .next (finish (s.advance dt) u) := next_event hrun dt hu
  have hl' : (s.advance dt).loading = true := hl
  have hsome {ts : Tables} {d : Derived} (hout : loadOutcome image = (ts, some d)) :
      completeLoading answers (s.advance dt) = startBlock (enterClosing
        (strikeAllDisturbed (forEach 4 judgeBarrier (validationPassed d (loaded ts))))) :=
    completeLoading_some hl' hout
  have hnone {ts : Tables} (hout : loadOutcome image = (ts, none)) :
      completeLoading answers (s.advance dt) =
        startBlock (forEach 4 judgeBarrier (conditionPresent .tableInvalid none (loaded ts))) :=
    completeLoading_none hl' hout
  refine ⟨fun d hp hv => hexec (hsome (loadOutcome_passed hp hv)),
    fun f hp hv => hexec (hnone (loadOutcome_failed hp hv)),
    fun hp => hexec (hnone (loadOutcome_blank hp)), fun hsilent => ?_, imagePasses_iff image,
    readStore_length answers s.store, fun hanswers hlength => ?_, fun u => ?_⟩
  · subst hsilent
    exact imagePasses_readStore_silent s.store
  · subst hanswers
    exact readStore_answers hlength
  · intro struck
    refine ⟨strikeAllDisturbed_approaches u, fun i => ⟨fun hserv hs => ?_, fun h => ?_⟩⟩
    · exact (strikeAllDisturbed_alone u i).trans (strikesDisturbed_struck hserv hs)
    · exact (strikeAllDisturbed_alone u i).trans (by rw [strikesDisturbed_kept h])

end Sys2Proof.Machine
end

section
/-! SUPPORT. The program that runs is that of the crossing state, through every operation of the Sequencer (R65, R71,
R74). -/

namespace Sys2Proof.Machine

set_option Elab.async false

/-- The program that runs is that of the crossing state (R65, R71, R74). -/
def ProgramFits (s : State) : Prop := s.crossing.program = programOf s.crossing.state

theorem ProgramFits.congr {s t : State} (h : ProgramFits s) (hs : t.crossing.state = s.crossing.state)
    (hp : t.crossing.program = s.crossing.program) : ProgramFits t := by
  rw [ProgramFits, hs, hp]
  exact h

theorem ProgramFits.of_crossing {s t : State} (h : ProgramFits s) (hc : t.crossing = s.crossing) : ProgramFits t :=
  h.congr (congrArg CrossingRecord.state hc) (congrArg CrossingRecord.program hc)

theorem ProgramFits.of_frame {ps : List Part} {s t : State} (h : ProgramFits s) (hf : Frame ps s t)
    (hps : Part.crossing ∉ ps := by decide) : ProgramFits t := h.of_crossing (hf.crossing hps)

/-! ## The programs (R65) -/

theorem stepEffect_program (k : ProgramStep) (s : State) :
    (stepEffect k s).1.crossing.program = s.crossing.program := by
  unfold stepEffect setAspect setSound
  cases k.kind with
  | lowerEntry | lowerExit | raiseEntry | raiseExit =>
    dsimp only
    rw [orderRole_crossing]
  | finish | amber | red | dark | soundOn | soundOff | wait | waitDown | waitUp => rfl

theorem runSteps_program (steps : List ProgramStep) :
    ∀ (n : Nat) (s : State), (runSteps n steps s).1.crossing.program = s.crossing.program := by
  induction steps with
  | nil => exact fun n s => rfl
  | cons k rest ih =>
    intro n s
    unfold runSteps
    split
    · rfl
    · have hk := stepEffect_program k (s.setCrossing { s.crossing with
        step := some n, stepWait := .none, waitEnd := none })
      dsimp only
      split
      next t heq =>
        rw [heq] at hk
        exact (ih _ _).trans hk
      next t w heq =>
        rw [heq] at hk
        exact hk

theorem ProgramFits.runSteps {s : State} (h : ProgramFits s) (n : Nat) (steps : List ProgramStep) :
    ProgramFits (runSteps n steps s).1 := h.congr (runSteps_state ..) (runSteps_program ..)

theorem ProgramFits.runOpening {s : State} (h : ProgramFits s) (n : Nat) : ProgramFits (runOpening n s) := by
  have hsteps := h.runSteps n ((programTable s .opening).drop (n - 1))
  unfold Machine.runOpening
  split
  next => rfl
  next t heq =>
    rw [heq] at hsteps
    exact hsteps

theorem enterOpening_fits (s : State) : ProgramFits (enterOpening s) := by
  refine ProgramFits.runOpening (ProgramFits.of_crossing ?_ (conditionEnd_crossing ..)) 1
  rfl

theorem ProgramFits.judgePermit {s : State} (h : ProgramFits s) : ProgramFits (judgePermit s) := by
  unfold Machine.judgePermit
  dsimp only
  split
  · exact h
  · split
    · exact h
    · split
      · exact h
      · split
        · exact enterOpening_fits s
        · exact h

theorem enterClosed_fits (s : State) : ProgramFits (enterClosed s) := ProgramFits.judgePermit rfl

theorem ProgramFits.runClosing {s : State} (h : ProgramFits s) (n : Nat) : ProgramFits (runClosing n s) := by
  have hsteps := h.runSteps n ((programTable s .closing).drop (n - 1))
  unfold Machine.runClosing
  split
  next t heq => exact enterClosed_fits t
  next t heq =>
    rw [heq] at hsteps
    exact hsteps

theorem enterClosing_fits (s : State) : ProgramFits (enterClosing s) := by
  refine ProgramFits.runClosing ?_ 1
  rfl

theorem reenterClosing_fits (s : State) : ProgramFits (reenterClosing s) := by
  refine ProgramFits.runClosing ?_ _
  rfl

theorem ProgramFits.orderExits {s : State} (h : ProgramFits s) : ProgramFits (orderExits s) := by
  refine ProgramFits.of_crossing ?_ (orderRole_crossing ..)
  exact h

theorem enterFailed_fits (s : State) : ProgramFits (enterFailed s) := by
  unfold enterFailed
  dsimp only
  have hfailed (c : CrossingRecord) (hc : c.program = programOf c.state) :
      ProgramFits (orderRole .entry .down (s.setCrossing c)) := by
    refine ProgramFits.of_crossing ?_ (orderRole_crossing ..)
    exact hc
  split
  · exact (hfailed _ rfl).orderExits
  · exact hfailed _ rfl

theorem ProgramFits.moveOn {s : State} (h : ProgramFits s) : ProgramFits (moveOn s) := by
  unfold Machine.moveOn
  split
  · exact h
  · dsimp only
    split
    · refine ProgramFits.runClosing ?_ _
      exact h
    · refine ProgramFits.runOpening ?_ _
      exact h
    · exact h

/-! ## The turn of the Sequencer (R61, R71, R73, R76) -/

theorem ProgramFits.takeAlarm {s : State} (h : ProgramFits s) : ProgramFits (takeAlarm s) := by
  unfold Machine.takeAlarm
  dsimp only
  split
  · split
    · exact enterFailed_fits _
    · exact enterFailed_fits _
    · exact enterFailed_fits _
    · exact enterFailed_fits _
    · exact h
    · exact h
  · exact h

theorem ProgramFits.sequencerTurn {s : State} (h : ProgramFits s) (before : State) :
    ProgramFits (sequencerTurn before s) := by
  have htaken := h.takeAlarm
  unfold Machine.sequencerTurn
  dsimp only
  have hite {c : Prop} [Decidable c] {u v : State} (hu : ProgramFits u) (hv : ProgramFits v) :
      ProgramFits (if c then u else v) := by
    split
    · exact hu
    · exact hv
  split
  · exact hite (enterClosing_fits _) htaken
  · exact hite (reenterClosing_fits _) (hite htaken.moveOn htaken)
  · exact hite htaken.moveOn htaken
  · exact hite htaken.judgePermit htaken
  · exact htaken
  · exact htaken

theorem ProgramFits.crossingTurn {s : State} (h : ProgramFits s) (before : State) :
    ProgramFits (crossingTurn before s) := by
  have htaken := (h.sequencerTurn before).of_frame (takeAspect_frame _)
  exact htaken.congr rfl rfl

theorem ProgramFits.finish {s : State} (h : ProgramFits s) (before : State) : ProgramFits (finish before s) :=
  (((h.crossingTurn before).of_frame (scannerTurn_frame ..)).of_frame (reportTurn_frame _)).of_frame (reportTurn_frame _)

end Sys2Proof.Machine
end

section
/-! SUPPORT. What holds of a crossing in use, through what moves each part of it (R65, R83, R100, R123, R178, R184,
R187). -/

namespace Sys2Proof.Machine

set_option Elab.async false

/-! ## The crossing alone moves, or nothing that counts -/

theorem InUse.nothingRuns {s : State} (h : InUse s) (hu : Used s) : NothingRuns s :=
  ⟨mt h.calibration hu, fun hr => hu (h.lampTest hr).1, mt h.save hu⟩

/-- The crossing may move, and be in use where the tables are valid and nothing runs; and, once loaded, the queue and
the processor may. -/
theorem InUse.move {ps : List Part} {s t : State} (h : InUse s) (hf : Frame ps s t)
    (hused : Used t → s.tm.valid = true ∧ NothingRuns s) (hfits : ProgramFits t)
    (hqueue : Part.queue ∉ ps ∨ s.loading = false := by exact .inl (by decide))
    (hloading : Part.loading ∉ ps := by decide) (hflag : Part.flag ∉ ps := by decide)
    (hsave : Part.save ∉ ps := by decide) (hcal : Part.cal ∉ ps := by decide)
    (htest : Part.lampTest ∉ ps := by decide) : InUse t := by
  have hruns : NothingRuns t ↔ NothingRuns s := by
    rw [NothingRuns, NothingRuns, hf.cal hcal, hf.lampTest htest, hf.saveRun hsave]
  have hout (hn : ¬ NothingRuns s) : t.crossing.state = .outOfUse := not_not.1 fun hu => hn (hused hu).2
  constructor
  case program => exact hfits
  case valid => rw [hf.valid hflag]; exact fun hu => (hused hu).1
  case figures => rw [hf.valid hflag, hf.derived hflag]; exact h.figures
  case loading =>
    rw [hf.loading hloading, hf.valid hflag, hruns]
    intro hl
    obtain ⟨-, hvalid, hnone, hproc⟩ := h.loading hl
    refine ⟨not_not.1 fun hu => Bool.false_ne_true (hvalid.symm.trans (hused hu).1), hvalid, hnone, ?_⟩
    obtain hqueue | hloaded := hqueue
    · exact (hf.processor hqueue).trans hproc
    · exact absurd (hloaded.symm.trans hl) Bool.false_ne_true
  case calibration => rw [hf.cal hcal]; exact fun hr => hout fun hn => hn.1 hr
  case calibrating => rw [hf.cal hcal]; exact h.calibrating
  case lampTest =>
    rw [hf.lampTest htest, hf.valid hflag]
    exact fun hr => ⟨hout fun hn => hn.2.1 hr, (h.lampTest hr).2⟩
  case lampTested => rw [hf.lampTest htest]; exact h.lampTested
  case save => rw [hf.saveRun hsave]; exact fun hr => hout fun hn => hn.2.2 hr
  case alone => rw [hf.cal hcal, hf.lampTest htest, hf.saveRun hsave]; exact h.alone

/-- The crossing may move, in use or out of use. -/
theorem InUse.step {ps : List Part} {s t : State} (h : InUse s) (hf : Frame ps s t) (huse : SameUse s t)
    (hfits : ProgramFits t) (hqueue : Part.queue ∉ ps ∨ s.loading = false := by exact .inl (by decide))
    (hloading : Part.loading ∉ ps := by decide) (hflag : Part.flag ∉ ps := by decide)
    (hsave : Part.save ∉ ps := by decide) (hcal : Part.cal ∉ ps := by decide)
    (htest : Part.lampTest ∉ ps := by decide) : InUse t :=
  h.move hf (fun hu => ⟨h.valid (mt huse.2 hu), h.nothingRuns (mt huse.2 hu)⟩) hfits hqueue hloading hflag hsave hcal
    htest

theorem InUse.quiet {ps : List Part} {s t : State} (h : InUse s) (hf : Frame ps s t)
    (hqueue : Part.queue ∉ ps ∨ s.loading = false := by exact .inl (by decide))
    (hcrossing : Part.crossing ∉ ps := by decide) (hloading : Part.loading ∉ ps := by decide)
    (hflag : Part.flag ∉ ps := by decide) (hsave : Part.save ∉ ps := by decide)
    (hcal : Part.cal ∉ ps := by decide) (htest : Part.lampTest ∉ ps := by decide) : InUse t :=
  h.step hf (.of_frame hf hcrossing) (ProgramFits.of_frame h.program hf hcrossing) hqueue hloading hflag hsave hcal
    htest

theorem InUse.crossingTurn {s : State} (h : InUse s) (before : State) : InUse (crossingTurn before s) :=
  h.step (crossingTurn_frame before s) (crossingTurn_sameUse before s) (ProgramFits.crossingTurn h.program before)

theorem InUse.finish {s : State} (h : InUse s) (before : State) : InUse (finish before s) :=
  h.step (finish_frame before s) (finish_sameUse before s) (ProgramFits.finish h.program before)

/-! ## Loading finds nothing running and no command taken (R187) -/

theorem InUse.loaded_of_processor {s : State} (h : InUse s) {q : QueuedCommand} (hq : s.lnu.processor = some q) :
    s.loading = false := by
  refine Bool.eq_false_iff.2 fun hl => ?_
  obtain ⟨-, -, -, hnone⟩ := h.loading hl
  exact Option.some_ne_none q (hq.symm.trans hnone)

theorem InUse.loaded_of_runs {s : State} (h : InUse s) (hruns : ¬ NothingRuns s) : s.loading = false := by
  refine Bool.eq_false_iff.2 fun hl => ?_
  obtain ⟨-, -, hnone, -⟩ := h.loading hl
  exact hruns hnone

theorem InUse.loaded_of_valid {s : State} (h : InUse s) (hv : s.tm.valid = true) : s.loading = false := by
  refine Bool.eq_false_iff.2 fun hl => ?_
  obtain ⟨-, hvalid, -⟩ := h.loading hl
  exact Bool.false_ne_true (hvalid.symm.trans hv)

theorem InUse.answered {s : State} (h : InUse s) (hl : s.loading = false) (q : QueuedCommand) (code : ReplyCode)
    (data : List Byte) : InUse (answered q code data s) :=
  (h.quiet (placeAnswer_frame q code data s)).quiet (freeProcessor_frame _)
    (.inr (((placeAnswer_frame q code data s).loading (by decide)).trans hl))

/-! ## A calibration, a lamp test or a save that runs (R100, R123, R184) -/

/-- A calibration that runs may end, and names a barrier only while it runs. -/
theorem InUse.setCal {s : State} (h : InUse s) (hrun : s.cal.run = .running) {c : CalibrationRun}
    (hc : c.current ≠ none → c.run = .running) : InUse (s.setCal c) where
  program := h.program
  valid := h.valid
  figures := h.figures
  loading hl := absurd ((h.loaded_of_runs fun hn => hn.1 hrun).symm.trans hl) Bool.false_ne_true
  calibration _ := h.calibration hrun
  calibrating := hc
  lampTest := h.lampTest
  lampTested := h.lampTested
  save := h.save
  alone := ⟨fun hr => h.alone.1 ⟨hrun, hr.2⟩, fun hr => h.alone.2.1 ⟨hrun, hr.2⟩, h.alone.2.2⟩

/-- A lamp test that runs may end, and names a lamp only while it runs. -/
theorem InUse.withTest {s : State} (h : InUse s) (hrun : s.lamp.test.run = .running) {x : LampTest}
    (hx : x.lamp ≠ none → x.run = .running) : InUse { s with lamp := { s.lamp with test := x } } where
  program := h.program
  valid := h.valid
  figures := h.figures
  loading hl := absurd ((h.loaded_of_runs fun hn => hn.2.1 hrun).symm.trans hl) Bool.false_ne_true
  calibration := h.calibration
  calibrating := h.calibrating
  lampTest _ := h.lampTest hrun
  lampTested := hx
  save := h.save
  alone := ⟨fun hr => h.alone.1 ⟨hr.1, hrun⟩, h.alone.2.1, fun hr => h.alone.2.2 ⟨hrun, hr.2⟩⟩

/-- A save run may end. -/
theorem InUse.withSave {s : State} (h : InUse s) {run : RunState} (hrun : run = .running → s.tm.saveRun = .running)
    (image : List Word) (store : List Word) :
    InUse { s with store := store, tm := { s.tm with saveRun := run, saveImage := image } } where
  program := h.program
  valid := h.valid
  figures := h.figures
  loading hl :=
    let ⟨hout, hvalid, ⟨hcal, htest, hsave⟩, hproc⟩ := h.loading hl
    ⟨hout, hvalid, ⟨hcal, htest, mt hrun hsave⟩, hproc⟩
  calibration := h.calibration
  calibrating := h.calibrating
  lampTest := h.lampTest
  lampTested := h.lampTested
  save hr := h.save (hrun hr)
  alone := ⟨h.alone.1, fun hr => h.alone.2.1 ⟨hr.1, hrun hr.2⟩, fun hr => h.alone.2.2 ⟨hr.1, hrun hr.2⟩⟩

section
variable {s : State} (h : InUse s) (hs : s.crossing.state = .outOfUse) (hruns : NothingRuns s)
  (hl : s.loading = false)
include h hs hruns hl

/-- Out of use, with nothing running, a calibration may start (R123). -/
theorem InUse.startsCal {c : CalibrationRun} (hc : c.run = .running) : InUse (s.setCal c) where
  program := h.program
  valid := h.valid
  figures := h.figures
  loading hloading := absurd (hl.symm.trans hloading) Bool.false_ne_true
  calibration _ := hs
  calibrating _ := hc
  lampTest := h.lampTest
  lampTested := h.lampTested
  save := h.save
  alone := ⟨fun hr => hruns.2.1 hr.2, fun hr => hruns.2.2 hr.2, h.alone.2.2⟩

/-- Out of use with valid tables, with nothing running, a lamp test may start (R100). -/
theorem InUse.startsTest (hv : s.tm.valid = true) {x : LampTest} (hx : x.run = .running) :
    InUse { s with lamp := { s.lamp with test := x } } where
  program := h.program
  valid := h.valid
  figures := h.figures
  loading hloading := absurd (hl.symm.trans hloading) Bool.false_ne_true
  calibration := h.calibration
  calibrating := h.calibrating
  lampTest _ := ⟨hs, hv⟩
  lampTested _ := hx
  save := h.save
  alone := ⟨fun hr => hruns.1 hr.1, h.alone.2.1, fun hr => hruns.2.2 hr.2⟩

/-- Out of use, with nothing running, a save may start (R184). -/
theorem InUse.startSave : InUse (startSave s) where
  program := h.program
  valid := h.valid
  figures := h.figures
  loading hloading := absurd (hl.symm.trans hloading) Bool.false_ne_true
  calibration := h.calibration
  calibrating := h.calibrating
  lampTest := h.lampTest
  lampTested := h.lampTested
  save _ := hs
  alone := ⟨h.alone.1, fun hr => hruns.1 hr.1, fun hr => hruns.2.1 hr.1⟩

end

/-! ## The table-valid flag (R178, R182) -/

theorem lampsOnClear_test {s : State} (h : s.lamp.test.lamp ≠ none → s.lamp.test.run = .running) :
    (lampsOnClear s).lamp.test.run ≠ .running ∧ (lampsOnClear s).lamp.test.lamp = none := by
  obtain ⟨_, _, test, -, hran, hnot, hlamp⟩ := lampsOnClear_lamp s
  rw [hlamp]
  by_cases hrun : s.lamp.test.run = .running
  · obtain ⟨hrun', hnone⟩ := hran hrun
    exact ⟨by rw [hrun']; decide, hnone⟩
  · rw [hnot hrun]
    exact ⟨hrun, not_not.1 (mt h hrun)⟩

/-- Out of use the flag may be cleared: a lamp test ends (R101). -/
theorem InUse.clearValid {s : State} (h : InUse s) (hs : s.crossing.state = .outOfUse) : InUse (clearValid s) := by
  cases hv : s.tm.valid with
  | false => rwa [Machine.clearValid, hv, if_neg Bool.false_ne_true]
  | true =>
    have hframe := clearValid_frame s
    have hstate : (Machine.clearValid s).crossing.state = .outOfUse := (SameUse.of_frame hframe).2 hs
    have hvalid : (Machine.clearValid s).tm.valid = false := by rw [clearValid_of_valid hv, blocksOnClear_tm]
    obtain ⟨hrun, hlamp⟩ : (Machine.clearValid s).lamp.test.run ≠ .running ∧
        (Machine.clearValid s).lamp.test.lamp = none := by
      rw [clearValid_of_valid hv, blocksOnClear_lamp]
      refine lampsOnClear_test ?_
      rw [(headsOnClear_frame _).lamp (by decide)]
      exact h.lampTested
    have hsave := hframe.saveRun (by decide)
    have hcal := hframe.cal (by decide)
    constructor
    case program => exact ProgramFits.of_frame h.program hframe
    case valid => exact fun hn => absurd hstate hn
    case figures => rw [hvalid]; exact fun hf => absurd hf Bool.false_ne_true
    case loading =>
      rw [hframe.loading (by decide), h.loaded_of_valid hv]
      exact fun hf => absurd hf Bool.false_ne_true
    case calibration => exact fun _ => hstate
    case calibrating => rw [hcal]; exact h.calibrating
    case lampTest => exact fun hr => absurd hr hrun
    case lampTested => exact fun hn => absurd hlamp hn
    case save => exact fun _ => hstate
    case alone =>
      rw [hcal, hsave]
      exact ⟨fun hr => hrun hr.2, h.alone.2.1, fun hr => hrun hr.1⟩

/-- Once loaded, figures may be adopted. -/
theorem InUse.adoptFigures {s : State} (h : InUse s) (hl : s.loading = false) (d : Derived) :
    InUse (adoptFigures d s) where
  program := h.program
  valid _ := rfl
  figures _ := Option.some_ne_none d
  loading hloading := absurd (hl.symm.trans hloading) Bool.false_ne_true
  calibration := h.calibration
  calibrating := h.calibrating
  lampTest hr := ⟨(h.lampTest hr).1, rfl⟩
  lampTested := h.lampTested
  save := h.save
  alone := h.alone

end Sys2Proof.Machine
end

section
/-! SUPPORT. What the Head Monitor's telegrams and silences keep of the part: whatever its shared operations keep (R4 to
R13). -/

namespace Sys2Proof.Machine

set_option Elab.async false

/-- The shared operations of the Head Monitor keep a property: its own records and faults, a disturb request, a wheel
event taken by the Approach Timer, and one taken by the Section Counter. -/
structure HeadsKeep (P : State → Prop) : Prop where
  quiet : ∀ {s t : State}, P s → Frame [.heads, .faults, .newFault] s t → P t
  disturbs : ∀ {s : State}, P s → ∀ i : Fin 16, P (disturbSections i s)
  wheel : ∀ {s : State}, P s → ∀ w : WheelEvent, P (wheelToApproach w s)
  counts : ∀ {s : State}, P s → ∀ w : WheelEvent, P (sectionWheel w s)

section
variable {P : State → Prop} (k : HeadsKeep P) {s : State} (h : P s) (i : Fin 16)
include k h

theorem HeadsKeep.setHead (r : HeadRecord) : P (s.setHead i r) := k.quiet h (Frame.refl _ s).setHead

theorem HeadsKeep.countSkip : P (countSkip i s) := k.quiet h ((countSkip_frame i s).mono (by decide))

theorem HeadsKeep.conditionEnd (c : FaultCode) (subject : Option Nat) : P (conditionEnd c subject s) :=
  k.quiet h ((conditionEnd_frame c subject s).mono (by decide))

theorem HeadsKeep.ordinaryWheel (w : WheelEvent) : P (ordinaryWheel w s) := k.counts (k.wheel h w) w

theorem HeadsKeep.wheelTelegramFor (o : Observed) : P (wheelTelegramFor i o s) := by
  have hadopts (state : HeadState) : P (s.setHead i (s.heads[i].adopt (o.payload.getD 0 0) o.arrival state)) :=
    k.setHead h i _
  have hfound (state : HeadState) := k.conditionEnd (hadopts state) .headLost (some i.val)
  unfold Machine.wheelTelegramFor
  dsimp only
  split
  next => exact k.setHead h i _
  next =>
    split
    · exact hfound _
    · split
      · exact k.wheel (hfound _) _
      · exact k.countSkip (k.disturbs (hfound _) i) i
  next => exact k.countSkip (k.disturbs (hadopts _) i) i
  next => exact k.countSkip (k.disturbs (hadopts _) i) i
  next => exact k.ordinaryWheel (hadopts _) _
  next =>
    split
    · split
      · exact k.ordinaryWheel (hadopts _) _
      · split
        · exact h
        · exact k.wheel (k.countSkip (k.disturbs (hadopts _) i) i) _
    · exact k.ordinaryWheel (hadopts _) _

theorem HeadsKeep.applyCondition (c : HealthCondition) (skip : Bool) : P (applyCondition i c skip s) := by
  have hskip : P (if skip then Machine.countSkip i s else s) := by
    split
    · exact k.countSkip h i
    · exact h
  unfold Machine.applyCondition
  dsimp only
  generalize (if skip then Machine.countSkip i s else s) = t at hskip ⊢
  have hdisturbed : P (if skip || c != .normal then disturbSections i t else t) := by
    split
    · exact k.disturbs hskip i
    · exact hskip
  cases c with
  | normal | sensorDisturbed => exact hdisturbed
  | sensorFault =>
    exact k.quiet (k.setHead hdisturbed i _) ((conditionPresent_quiet_frame (by decide) ..).mono (by decide))

theorem HeadsKeep.healthTelegramFor (o : Observed) : P (healthTelegramFor i o s) := by
  have hadopts (state : HeadState) : P (s.setHead i (s.heads[i].adopt (o.payload.getD 0 0) o.arrival state)) :=
    k.setHead h i _
  have hfound (state : HeadState) := k.conditionEnd (hadopts state) .headLost (some i.val)
  unfold Machine.healthTelegramFor
  dsimp only
  split
  next => exact k.applyCondition (hadopts _) i _ _
  next => exact k.applyCondition (hadopts _) i _ _
  next =>
    split
    · exact k.conditionEnd (hadopts _) _ _
    · exact hadopts _
  next =>
    split
    · split
      · exact k.conditionEnd (hfound _) _ _
      · exact hfound _
    · exact k.applyCondition (hfound _) i _ _

theorem HeadsKeep.headSilent : P (headSilent i s) := by
  unfold Machine.headSilent
  dsimp only
  split
  · exact k.quiet (k.disturbs (k.setHead h i _) i) ((conditionPresent_quiet_frame (by decide) ..).mono (by decide))
  · exact h

end

end Sys2Proof.Machine
end

section
/-! SUPPORT. What holds of a crossing in use, through the work of each block. -/

namespace Sys2Proof.Machine

set_option Elab.async false

theorem InUse.ite {c : Prop} [Decidable c] {s t : State} (hs : InUse s) (ht : InUse t) : InUse (if c then s else t) := by
  split
  · exact hs
  · exact ht

theorem NothingRuns.of_frame {ps : List Part} {s t : State} (h : NothingRuns s) (hf : Frame ps s t)
    (hcal : Part.cal ∉ ps := by decide) (htest : Part.lampTest ∉ ps := by decide)
    (hsave : Part.save ∉ ps := by decide) : NothingRuns t := by
  rwa [NothingRuns, hf.cal hcal, hf.lampTest htest, hf.saveRun hsave]

/-! ## The sections and the heads -/

theorem InUse.handReport {s : State} (h : InUse s) (cause : ReportCause) (before : State) :
    InUse (handReport cause before s) := by
  unfold Machine.handReport
  exact InUse.ite h ((h.quiet (approachReports_frame ..)).crossingTurn before)

theorem InUse.setUpSections {s : State} (h : InUse s) : InUse (setUpSections s) := by
  rw [setUpSections_eq]
  have hblank : InUse { s with sections := Vector.replicate 8 .asDisturbed } :=
    h.quiet (Frame.refl [.sections] s).withSections
  refine (forEach_keeps (fun i u hu => ?_) hblank).handReport _ _
  exact InUse.ite (hu.quiet (conditionPresent_frame ..)) (hu.quiet (conditionEnd_frame ..))

theorem InUse.resetSectionRecord {s : State} (h : InUse s) (i : Fin 8) : InUse (resetSectionRecord i s) :=
  ((h.quiet (Frame.refl [.sections] s).setSection).quiet (resetSection_frame i s)).handReport .reset s

/-- What the Head Monitor hands on keeps the crossing as its invariant has it (R57). -/
theorem inUse_headsKeep : HeadsKeep InUse where
  quiet h hf := h.quiet hf
  disturbs {s} h i := by
    rw [disturbSections_eq]
    exact (h.quiet (moveSections_frame ..)).handReport _ s
  wheel {s} h w := ((h.quiet (Frame.refl [.handed] s).withHanded).quiet (approachWheel_frame w _)).crossingTurn s
  counts {s} h w := by
    rw [sectionWheel_eq]
    exact (h.quiet (moveSections_frame ..)).handReport _ s

theorem InUse.takePassed {s : State} (h : InUse s) {kind : ObservedKind} {act : Fin 16 → Observed → State → State}
    (hact : ∀ i o u, InUse u → InUse (act i o u)) : InUse (takePassed kind act s) := by
  have htaken (rest : List Observed) : InUse { s with lnu := { s.lnu with passed := rest } } :=
    h.quiet (ps := [.passed]) ((Frame.refl _ s).withLnu (hd := .inl (by decide)))
  unfold Machine.takePassed
  split
  · dsimp only
    refine InUse.ite ?_ h
    split
    · exact hact _ _ _ (htaken _)
    · exact htaken _
  · exact h

/-! ## A validation that passes (R178, R182) -/

theorem InUse.validationPassed {s : State} (h : InUse s) (hl : s.loading = false) (d : Derived) :
    InUse (validationPassed d s) := by
  have hpassed := (h.adoptFigures hl d).quiet (conditionEnd_frame .tableInvalid none _)
  unfold Machine.validationPassed
  dsimp only
  refine InUse.ite hpassed ?_
  exact ((hpassed.quiet (produceStatus_frame _)).quiet (unseenHeads_frame _)).setUpSections.quiet
    (beginSupervision_frame _)

theorem validationPassed_valid (d : Derived) (s : State) : (validationPassed d s).tm.valid = true := by
  have hpassed : (conditionEnd .tableInvalid none (adoptFigures d s)).tm.valid = true :=
    (conditionEnd_frame ..).valid (by decide)
  unfold validationPassed
  dsimp only
  split
  · exact hpassed
  · exact ((setUpOnValid_frame _).valid (by decide)).trans hpassed

/-! ## The lamp test (R100, R101) -/

theorem InUse.openSlot {s : State} (h : InUse s) (hrun : s.lamp.test.run = .running) (from_ : Nat) :
    InUse (openSlot from_ s) := by
  unfold Machine.openSlot
  split
  · refine InUse.quiet ?_ (setMode_frame ..)
    exact h.withTest hrun fun _ => hrun
  · exact h.withTest hrun fun hn => absurd rfl hn

theorem InUse.slotEnds {s : State} (h : InUse s) : InUse (slotEnds s) := by
  unfold Machine.slotEnds
  split
  next i hi =>
    have hrun : s.lamp.test.run = .running := h.lampTested (by rw [hi]; exact Option.some_ne_none i)
    refine InUse.ite ?_ h
    dsimp only
    let t : State := { s with lamp := { s.lamp with test := { s.lamp.test with
      allPassed := s.lamp.test.allPassed && (s.lampRecord i).proved } } }
    have ht : InUse t := h.withTest hrun fun _ => hrun
    have hframe : Frame [.lamp, .redProved, .barriers, .faults] t (formBothRed (setMode i .dark t)) :=
      ((setMode_frame ..).mono (by decide)).step (formBothRed_frame _)
    refine InUse.openSlot (ht.quiet hframe) ?_ _
    rw [hframe.lampTest (by decide)]
    exact hrun
  next => exact h

theorem InUse.startLampTest {s : State} (h : InUse s) (hs : s.crossing.state = .outOfUse) (hruns : NothingRuns s)
    (hv : s.tm.valid = true) : InUse (startLampTest s) := by
  let t : State := { s with lamp := { s.lamp with
    test := { run := .running, lamp := none, slotEnd := none, allPassed := true } } }
  have ht : InUse t := h.startsTest hs hruns (h.loaded_of_valid hv) hv rfl
  have hframe : Frame [.lamp, .faults] t (forEach 12 (fun i u => setMode i .dark u) t) :=
    forEach_frame (fun i u => setMode_frame ..) t
  refine InUse.openSlot (ht.quiet hframe) ?_ 0
  rw [hframe.lampTest (by decide)]

/-! ## The calibration (R123 to R126) -/

section
variable {s : State} (h : InUse s) (hrun : s.cal.run = .running)
include h hrun

theorem InUse.beginMovement (c : CalBarrier) (stage : CalStage) (d : BarrierEnd) :
    InUse (beginMovement c stage d s) := by
  refine InUse.quiet ?_ (driveCalibration_frame ..)
  exact h.setCal hrun fun _ => hrun

theorem InUse.beginReading (c : CalBarrier) (stage : CalStage) : InUse (beginReading c stage s) := by
  refine InUse.quiet ?_ (stopBarrier_frame ..)
  exact h.setCal hrun fun _ => hrun

theorem InUse.beginBarrier (i : Fin 4) : InUse (beginBarrier i s) := by
  have hset (r : BarrierRecord) : InUse (s.setBarrier i r) := h.quiet (Frame.refl [.barriers] s).setBarrier
  unfold Machine.beginBarrier
  exact InUse.ite ((hset _).beginReading hrun _ _) ((hset _).beginMovement hrun _ _ _)

theorem InUse.nextBarrier : InUse (nextBarrier s) := by
  unfold Machine.nextBarrier
  split
  · refine InUse.beginBarrier (h.setCal hrun fun hn => absurd rfl hn) ?_ _
    exact hrun
  · exact h.setCal hrun fun hn => absurd rfl hn

theorem InUse.failBarrier (c : CalBarrier) (reason : CalReason) : InUse (failBarrier c reason s) := by
  have hframe : Frame [.barriers, .faults, .newFault] s
      (eventEntered .calibrationFailed (some c.barrier.val) (some reason) (stopBarrier c.barrier s)) :=
    ((stopBarrier_frame ..).mono (by decide)).step (eventEntered_frame ..)
  have hrun' := (congrArg CalibrationRun.run (hframe.cal (by decide))).trans hrun
  refine InUse.nextBarrier ((h.quiet hframe).setCal hrun' fun hn => absurd rfl hn) ?_
  exact hrun'

theorem InUse.judgeCalibration (c : CalBarrier) (travelUp : Nat) : InUse (judgeCalibration c travelUp s) := by
  unfold Machine.judgeCalibration
  refine InUse.ite (h.failBarrier hrun c _) (InUse.ite (h.failBarrier hrun c _) ?_)
  dsimp only
  generalize hts : s.tm.tables.barrier.set c.barrier _ = bs
  let t : State := { s with tm := { s.tm with tables := { s.tm.tables with barrier := bs } } }
  have ht : InUse t := h.quiet (Frame.refl [.tables] s).withTm
  refine InUse.nextBarrier (s := stopBarrier c.barrier (Machine.clearValid t))
    ((ht.clearValid (h.calibration hrun)).quiet (stopBarrier_frame ..)) ?_
  have hcal : (Machine.clearValid t).cal = s.cal := (clearValid_frame t).cal (by decide)
  exact (congrArg CalibrationRun.run hcal).trans hrun

theorem InUse.afterReading (c : CalBarrier) (stage : CalStage) (d : BarrierEnd) : InUse (afterReading c stage d s) :=
  InUse.ite (h.failBarrier hrun c _) (h.beginMovement hrun c _ _)

theorem InUse.cancelCalibration : InUse (cancelCalibration s) :=
  (h.setCal hrun fun hn => absurd rfl hn).quiet (stopAll_frame _)

end

section
variable {s : State} (h : InUse s)
include h

/-- A barrier under calibration is one of a calibration that runs. -/
theorem InUse.calibrates {c : CalBarrier} (hc : s.cal.current = some c) : s.cal.run = .running :=
  h.calibrating (by rw [hc]; exact Option.some_ne_none c)

theorem InUse.calibrationContact (i : Fin 4) (d : BarrierEnd) : InUse (calibrationContact i d s) := by
  unfold Machine.calibrationContact
  split
  next => exact h
  next c hc =>
    have hrun := h.calibrates hc
    refine InUse.ite h ?_
    dsimp only
    split
    · exact h.beginReading hrun _ _
    · exact h.beginReading hrun _ _
    · exact (h.quiet (stopBarrier_frame i s)).judgeCalibration hrun c _
    all_goals exact h

theorem InUse.calibrationAngle (i : Fin 4) (res : ScanResult) : InUse (calibrationAngle i res s) := by
  unfold Machine.calibrationAngle
  split
  next => exact h
  next c hc =>
    have hrun := h.calibrates hc
    have hreading : InUse (
        if res.overrange then Machine.failBarrier c .span s
        else
          let codes := c.codes ++ [res.code]
          if codes.length < Config.calibrationReads then
            s.setCal { s.cal with current := some { c with codes := codes } }
          else
            let mean := codes.sum / Config.calibrationReads
            if c.stage = .readUp then Machine.afterReading { c with upCode := mean } .lower .down s
            else Machine.afterReading { c with downCode := mean } .raise .up s) :=
      InUse.ite (h.failBarrier hrun c _) (InUse.ite (h.setCal hrun fun _ => hrun)
        (InUse.ite (h.afterReading hrun ..) (h.afterReading hrun ..)))
    refine InUse.ite h ?_
    split
    · exact h
    · exact h
    · exact h
    · exact hreading
    · exact hreading

theorem InUse.calibrationCurrent (i : Fin 4) (res : ScanResult) : InUse (calibrationCurrent i res s) := by
  unfold Machine.calibrationCurrent
  split
  next => exact h
  next c hc =>
    have hrun := h.calibrates hc
    have hframe : Frame [.barriers, .faults, .newFault] s
        (eventEntered .barrierOvercurrent (some i.val) none (stopBarrier i s)) :=
      ((stopBarrier_frame ..).mono (by decide)).step (eventEntered_frame ..)
    have hrun' := (congrArg CalibrationRun.run (hframe.cal (by decide))).trans hrun
    exact InUse.ite h (InUse.ite ((h.quiet hframe).failBarrier hrun' c _)
      (InUse.ite (h.setCal hrun fun _ => hrun) h))

theorem InUse.calibrationLimitEnds : InUse (calibrationLimitEnds s) := by
  unfold Machine.calibrationLimitEnds
  split
  next => exact h
  next c hc => exact InUse.ite (h.failBarrier (h.calibrates hc) c _) h

/-! ## The inputs of the road side (R117, R130, R132) -/

theorem InUse.contactChanged (i : Fin 4) (d : BarrierEnd) (closed : Bool) : InUse (contactChanged i d closed s) := by
  have hset := h.quiet (setContact_frame i d closed s)
  have hjudged := (hset.quiet (contactMotion_frame i d closed _)).quiet (judgeBarrier_frame i _)
  unfold Machine.contactChanged
  exact InUse.ite h (InUse.ite hset (InUse.ite (hjudged.calibrationContact i d) hjudged))

theorem InUse.takeAngle (i : Fin 4) (res : ScanResult) : InUse (takeAngle i res s) :=
  (h.quiet (angleResult_frame i res s)).calibrationAngle i res

theorem InUse.takeCurrent (i : Fin 4) (res : ScanResult) : InUse (takeCurrent i res s) :=
  InUse.ite (h.calibrationCurrent i res) (h.quiet (currentResult_frame i res s))

theorem InUse.handResult (n : Fin 24) (res : ScanResult) : InUse (handResult n res s) := by
  unfold Machine.handResult
  have hlamps := forEach_keeps (P := InUse) (n := 12)
    (f := fun i u => if (u.lampEntry i).inService && (u.lampEntry i).scanEntry == n.val then lampResult i res u else u)
    (fun i u hu => InUse.ite (hu.quiet (lampResult_frame i res u)) hu) h
  have haudible (i : Fin 2) (ref : State → Nat) {u : State} (hu : InUse u) :
      InUse (if ref u = n.val then audibleResult i res u else u) :=
    InUse.ite (hu.quiet (audibleResult_frame i res u)) hu
  have hangles {u : State} (hu : InUse u) := forEach_keeps (P := InUse) (n := 4)
    (f := fun i u => if (u.barrierEntry i).angleEntry = n.val then Machine.takeAngle i res u else u)
    (fun i u hu => InUse.ite (hu.takeAngle i res) hu) hu
  have hcurrents {u : State} (hu : InUse u) := forEach_keeps (P := InUse) (n := 4)
    (f := fun i u => if (u.barrierEntry i).currentEntry = n.val then Machine.takeCurrent i res u else u)
    (fun i u hu => InUse.ite (hu.takeCurrent i res) hu) hu
  have htaken := hcurrents (hangles (haudible 1 (·.params.audibleEntry1) (haudible 0 (·.params.audibleEntry0) hlamps)))
  exact InUse.ite (htaken.quiet (batteryResult_frame res _)) htaken

theorem InUse.strobeTaken (inputs : List AnalogueLevels) : InUse (strobeTaken inputs s) := by
  have hcompleted : InUse (completeBlock inputs s) := by
    unfold completeBlock
    split
    · refine InUse.handResult (h.quiet (ps := [.block, .results]) ?_) _ _
      exact (Frame.refl _ s).withScan
    · exact h
  exact InUse.ite (hcompleted.quiet (startBlock_frame _)) h

end

end Sys2Proof.Machine
end

section
/-! SUPPORT. What holds of a crossing in use, through the loop, the commands and the completion of loading. -/

namespace Sys2Proof.Machine

set_option Elab.async false

/-! ## The loop (R162, R163, R165, R186) -/

/-- While loading there is no answering address, and nothing is consumed (R163). -/
theorem loaded_of_consumed {s : State} {t : Telegram} (h : disposition (answeringAddress s) t = .consumed) :
    s.loading = false := by
  refine Bool.eq_false_iff.2 fun hl => ?_
  simp only [answeringAddress, hl, if_true, disposition, reduceCtorEq, if_false] at h
  split at h <;> cases h

section
variable {s : State} (h : InUse s)
include h

theorem InUse.receive (port : Port) (frame : List Byte) : InUse (receive port frame s) := by
  unfold Machine.receive
  split
  next t _ =>
    unfold dispose
    split
    next => exact h
    next hconsumed => exact h.quiet (consume_frame port t s) (.inr (loaded_of_consumed hconsumed))
    next => exact (h.quiet (observe_frame t s)).quiet (forwardTo_frame ..)
    next => exact h.quiet (forwardTo_frame ..)
  next => exact h

theorem InUse.transmissionEnds (port : Port) (written : Nat) : InUse (transmissionEnds port written s) := by
  by_cases hcold : ∃ frame, (s.lnu.port port).sending = some (.inserted (.reply frame true))
  · obtain ⟨frame, hcold⟩ := hcold
    unfold Machine.transmissionEnds
    rw [hcold]
    exact (coldStart_isCold written _).inUse
  · exact h.quiet (transmissionEnds_frame (not_exists.1 hcold) written)

/-! ## The command processor (R171, R186) -/

theorem InUse.loaded_of_completing {q : QueuedCommand} (hq : completing s = some q) : s.loading = false := by
  unfold completing at hq
  split at hq
  · cases hq
  · exact h.loaded_of_processor hq

/-- A command keeps the invariant where its own work does; none completes while loading. -/
theorem InUse.complete {ps : List Part} {own : QueuedCommand → State → Answered}
    (hframe : ∀ q, Frame ps s (own q s).state) (hown : s.loading = false → ∀ q, InUse (own q s).state) (c : Command)
    (hps : Part.loading ∉ ps := by decide) : InUse (Machine.complete c own s) := by
  unfold Machine.complete
  split
  next q hq =>
    have hl := h.loaded_of_completing hq
    refine InUse.ite ?_ h
    split
    · exact h.answered hl _ _ _
    · exact (hown hl q).answered (((hframe q).loading hps).trans hl) _ _ _
  next => exact h

/-- A command whose own work moves nothing that counts. -/
theorem InUse.completeQuiet {ps : List Part} {own : QueuedCommand → State → Answered}
    (hframe : ∀ q, Frame ps s (own q s).state) (c : Command)
    (hqueue : Part.queue ∉ ps ∨ s.loading = false := by exact .inl (by decide))
    (hcrossing : Part.crossing ∉ ps := by decide) (hloading : Part.loading ∉ ps := by decide)
    (hflag : Part.flag ∉ ps := by decide) (hsave : Part.save ∉ ps := by decide)
    (hcal : Part.cal ∉ ps := by decide) (htest : Part.lampTest ∉ ps := by decide) : InUse (Machine.complete c own s) :=
  h.complete hframe (fun _ q => h.quiet (hframe q) hqueue hcrossing hloading hflag hsave hcal htest) c hloading

theorem InUse.completeUnknown : InUse (completeUnknown s) := by
  unfold Machine.completeUnknown
  split
  next hq => exact InUse.ite (h.answered (h.loaded_of_completing hq) _ _ _) h
  next => exact h

theorem InUse.completeUnanswerable : InUse (completeUnanswerable s) := by
  unfold Machine.completeUnanswerable
  split
  next hq => exact InUse.ite h (h.quiet (freeProcessor_frame s) (.inr (h.loaded_of_completing hq)))
  next => exact h

theorem InUse.completeRestart (written : Nat) : InUse (completeRestart written s) := by
  unfold Machine.completeRestart
  split
  next q hq =>
    have hl := h.loaded_of_completing hq
    refine InUse.ite ?_ h
    split
    · exact h.answered hl _ _ _
    · refine InUse.ite (InUse.ite ?_ (coldStart_isCold written s).inUse) (h.answered hl _ _ _)
      refine InUse.quiet ?_ (placeReply_frame ..)
      exact h.quiet (ps := [.queue]) ((Frame.refl _ s).withLnu (hq := .inl (by decide))) (.inr hl)
  next => exact h

/-! ## The signaller's commands (R80 to R84) -/

variable (q : QueuedCommand)

theorem InUse.ownCloseRequest : InUse (ownCloseRequest q s).state := by
  have hcrossing : (Machine.ownCloseRequest q s).state.crossing.state = s.crossing.state ∧
      (Machine.ownCloseRequest q s).state.crossing.program = s.crossing.program := by
    unfold Machine.ownCloseRequest
    split
    · exact ⟨rfl, rfl⟩
    · split_ifs <;> exact ⟨rfl, rfl⟩
  obtain ⟨hstate, hprogram⟩ := hcrossing
  exact h.step (ownCloseRequest_frame q s) (.of_state hstate) (ProgramFits.congr h.program hstate hprogram)

omit h in
theorem restored_fits (s : State) : ProgramFits (restored s) := by
  unfold restored
  split
  · exact ProgramFits.judgePermit rfl
  · exact reenterClosing_fits s

theorem InUse.ownRestore : InUse (ownRestore q s).state := by
  unfold Machine.ownRestore
  split
  next => exact h
  next hf =>
    split
    next => exact h
    next =>
      have hused : Used s := used_of_state (x := .failed) (by simpa using hf)
      exact h.step (restored_frame s) (.of_used hused (restored_used s)) (restored_fits s)

theorem InUse.ownTakeOutOfUse : InUse (ownTakeOutOfUse q s).state := by
  unfold Machine.ownTakeOutOfUse
  split
  · refine InUse.quiet (s := sequencerOutOfUse s) ?_ (idleApproaches_frame _)
    have hstate := sequencerOutOfUse_state s
    have hfits : ProgramFits (sequencerOutOfUse s) := by
      refine ProgramFits.of_frame ?_ (conditionEnd_frame ..)
      refine ProgramFits.of_frame ?_ (stopAll_frame _)
      rfl
    exact h.move (sequencerOutOfUse_frame s) (fun hu => absurd hstate hu) hfits
  · exact h

omit h in
theorem chooseCrossing_fits (s : State) : ProgramFits (chooseCrossing s) := by
  unfold chooseCrossing
  split
  · exact enterFailed_fits s
  · split
    · exact enterClosing_fits s
    · split
      · rfl
      · exact enterOpening_fits s

theorem InUse.ownReturnToUse (hl : s.loading = false) : InUse (ownReturnToUse q s).state := by
  unfold Machine.ownReturnToUse
  split
  · exact h
  · split
    next => exact h
    next hnone =>
      split
      next => exact h
      next d _ =>
        have hruns : NothingRuns s := not_not.1 (mt (anyRunning_iff s).2 hnone)
        let t := setUpApproaches (Machine.validationPassed d s)
        have hframe : Frame [.approaches, .faults, .newFault] (Machine.validationPassed d s) t := setUpApproaches_frame _
        have ht : InUse t := (h.validationPassed hl d).quiet hframe
        have hvalid : t.tm.valid = true := (hframe.valid (by decide)).trans (validationPassed_valid d s)
        have hruns' : NothingRuns (Machine.validationPassed d s) := hruns.of_frame (validationPassed_frame d s)
        dsimp only [answer]
        exact ht.move (chooseCrossing_frame t) (fun _ => ⟨hvalid, hruns'.of_frame hframe⟩) (chooseCrossing_fits t)

theorem InUse.ownResetSection : InUse (ownResetSection q s).state := by
  unfold Machine.ownResetSection
  split
  next hlt =>
    have hreset := h.resetSectionRecord ⟨q.arg 0, hlt⟩
    dsimp only
    split_ifs
    · exact h
    · exact h
    · exact h
    · exact hreset
  next => exact h

/-! ## The maintenance terminal's commands (R100, R123, R126, R176, R184) -/

theorem InUse.ownTableWrite : InUse (ownTableWrite q s).state := by
  by_cases hs : s.crossing.state = .outOfUse
  · have hwrites (t : TableId) (first : Nat) (entries : List (List Byte)) : InUse (writeTable t first entries s) := by
      let r := storeEntries t first entries s.tm.tables
      let u : State := { s with tm := { s.tm with tables := r.value } }
      have hframe : Frame [.tables, .barriers, .faults, .block, .results] s
          (afterWrite t first entries.length s.tm.tables u) :=
        ((Frame.refl _ s).withTm (x := u.tm)).step (afterWrite_frame ..)
      exact (h.quiet hframe).clearValid ((SameUse.of_frame hframe).2 hs)
    unfold Machine.ownTableWrite
    dsimp only
    split_ifs
    · exact h
    · exact h
    · split
      · exact h
      · split
        · exact h
        · split
          · exact h
          · exact hwrites ..
  · unfold Machine.ownTableWrite
    simp only [outOfUse, beq_eq_false_iff_ne.2 hs, Bool.not_false, if_true]
    exact h

theorem InUse.ownSaveTables (hl : s.loading = false) : InUse (ownSaveTables q s).state := by
  unfold Machine.ownSaveTables
  split
  next => exact h
  next hout =>
    split
    next => exact h
    next hnone =>
      split
      · exact h
      · have hs : s.crossing.state = .outOfUse := by simpa [outOfUse] using hout
        have hruns : NothingRuns s := not_not.1 (mt (anyRunning_iff s).2 hnone)
        exact (h.startSave hs hruns hl).validationPassed hl _

theorem InUse.ownCalibrate (hl : s.loading = false) : InUse (ownCalibrate q s).state := by
  unfold Machine.ownCalibrate
  dsimp only
  split
  next => exact h
  next hout =>
    split
    next => exact h
    next hnone =>
      have hs : s.crossing.state = .outOfUse := by simpa [outOfUse] using hout
      have hruns : NothingRuns s := not_not.1 (mt (anyRunning_iff s).2 hnone)
      split_ifs
      · exact h
      · exact h
      · refine InUse.nextBarrier (h.startsCal hs hruns hl rfl) ?_
        rfl

theorem InUse.ownCalibrateCancel : InUse (ownCalibrateCancel q s).state := by
  unfold Machine.ownCalibrateCancel
  split
  next hrun => exact h.cancelCalibration hrun
  next => exact h

theorem InUse.ownLampTest : InUse (ownLampTest q s).state := by
  unfold Machine.ownLampTest
  split
  next => exact h
  next hv =>
    split
    next => exact h
    next hout =>
      split
      next => exact h
      next hnone =>
        have hs : s.crossing.state = .outOfUse := by simpa [outOfUse] using hout
        dsimp only [answer]
        exact h.startLampTest hs (not_not.1 (mt (anyRunning_iff s).2 hnone)) (by simpa using hv)

/-! ## The completion of loading (R187, R188) -/

omit q in
/-- Loading ends with nothing running and no command taken. -/
theorem InUse.adoptTables (ts : Tables) : InUse (adoptTables ts s) where
  program := h.program
  valid := h.valid
  figures := h.figures
  loading hl := absurd hl Bool.false_ne_true
  calibration := h.calibration
  calibrating := h.calibrating
  lampTest := h.lampTest
  lampTested := h.lampTested
  save := h.save
  alone := h.alone

omit q in
theorem InUse.loadSucceeded (hl : s.loading = false) (hruns : NothingRuns s) (d : Derived) :
    InUse (loadSucceeded d s) := by
  let t := strikeAllDisturbed (judgeAllBarriers (Machine.validationPassed d s))
  have hframe : Frame [.barriers, .approaches, .faults, .newFault] (Machine.validationPassed d s) t :=
    ((judgeAllBarriers_frame _).mono (by decide)).step (strikeAllDisturbed_frame _)
  have ht : InUse t := (h.validationPassed hl d).quiet hframe
  have hvalid : t.tm.valid = true := (hframe.valid (by decide)).trans (validationPassed_valid d s)
  have hruns' : NothingRuns (Machine.validationPassed d s) := hruns.of_frame (validationPassed_frame d s)
  exact ht.move (enterClosing_frame t) (fun _ => ⟨hvalid, hruns'.of_frame hframe⟩) (enterClosing_fits t)

omit q in
theorem InUse.completeLoading (answers : Bool) : InUse (completeLoading answers s) := by
  unfold Machine.completeLoading
  split
  next hl =>
    obtain ⟨-, -, hruns, -⟩ := h.loading hl
    generalize loadOutcome (readStore answers s.store) = outcome
    let t := eventEntered .coldStart none none (Machine.adoptTables outcome.1 s)
    have hframe : Frame [.faults, .newFault] (Machine.adoptTables outcome.1 s) t := eventEntered_frame ..
    have ht : InUse t := (h.adoptTables outcome.1).quiet hframe
    have hloaded : t.loading = false := hframe.loading (by decide)
    have hruns' : NothingRuns (Machine.adoptTables outcome.1 s) := hruns
    dsimp only
    split
    · exact (ht.loadSucceeded hloaded (hruns'.of_frame hframe) _).quiet (startBlock_frame _)
    · exact (ht.quiet (loadFailed_frame t)).quiet (startBlock_frame _)
  next => exact h

omit q in
theorem InUse.completeSave (readBack : List Word) : InUse (completeSave readBack s) := by
  unfold Machine.completeSave
  refine InUse.ite (h.withSave ?_ _ _) h
  split <;> exact fun hr => by cases hr

omit q in
/-- A save run that is cut off ends (R185). -/
theorem InUse.cutSave (written : Nat) : InUse (cutSave written s) := by
  refine h.withSave (image := s.tm.saveImage) ?_ _
  split
  · exact fun hr => by cases hr
  · exact id

/-! ## The timers of the crossing (R65, R73, R74, R77, R79) -/

omit q in
theorem InUse.waitEnds : InUse (waitEnds s) := by
  refine h.step (waitEnds_frame s) (waitEnds_sameUse h) ?_
  unfold Machine.waitEnds
  split
  · exact ProgramFits.moveOn h.program
  · exact h.program

omit q in
theorem InUse.permitLapses : InUse (permitLapses s) := by
  refine h.step (permitLapses_frame s) (permitLapses_sameUse s) ?_
  unfold Machine.permitLapses
  split <;> exact h.program

omit q in
theorem InUse.openDelayEnds : InUse (openDelayEnds s) := by
  refine h.step (openDelayEnds_frame s) (openDelayEnds_sameUse s) ?_
  unfold Machine.openDelayEnds
  split
  · exact enterOpening_fits s
  · exact h.program

omit q in
theorem InUse.exitDelayEnds : InUse (exitDelayEnds s) := by
  refine h.step (exitDelayEnds_frame s) (exitDelayEnds_sameUse s) ?_
  unfold Machine.exitDelayEnds
  split
  · exact ProgramFits.orderExits h.program
  · exact h.program

omit q in
theorem InUse.longClosureEnds : InUse (longClosureEnds s) := by
  refine h.step (longClosureEnds_frame s) (longClosureEnds_sameUse s) ?_
  unfold Machine.longClosureEnds
  split
  · split
    · refine ProgramFits.of_crossing ?_ (conditionPresent_crossing ..)
      exact h.program
    · exact h.program
  · exact h.program

end

end Sys2Proof.Machine
end

section
/-! SUPPORT. Under closure demand the crossing is shut, shutting, failed or out of use, at the end of every event (R61,
R71, R73 to R76). -/

namespace Sys2Proof.Machine

set_option Elab.async false

theorem closureDemand_of_frame {ps : List Part} {s t : State} (hf : Frame ps s t)
    (htables : Part.tables ∉ ps := by decide) (hsections : Part.sections ∉ ps := by decide)
    (happroaches : Part.approaches ∉ ps := by decide) (hrequest : Part.request ∉ ps := by decide) :
    ClosureDemand t ↔ ClosureDemand s := by
  rw [ClosureDemand, ClosureDemand, hf.tables htables, hf.sections hsections, hf.approaches happroaches,
    hf.request hrequest]

theorem ClosureSafe.of_frame {ps : List Part} {s t : State} (h : ClosureSafe s) (hf : Frame ps s t)
    (htables : Part.tables ∉ ps := by decide) (hsections : Part.sections ∉ ps := by decide)
    (happroaches : Part.approaches ∉ ps := by decide) (hrequest : Part.request ∉ ps := by decide)
    (hcrossing : Part.crossing ∉ ps := by decide) : ClosureSafe t := by
  rw [ClosureSafe, closureDemand_of_frame hf htables hsections happroaches hrequest, hf.crossing hcrossing]
  exact h

theorem closureSafe_of_closing {s : State} (h : s.crossing.state = .closing) : ClosureSafe s := fun _ => .inl h

theorem closureSafe_of_closed {s : State} (h : s.crossing.state = .closed) : ClosureSafe s := fun _ => .inr (.inl h)

theorem closureSafe_of_stays {s : State} (h : s.crossing.state = .failed ∨ s.crossing.state = .outOfUse) :
    ClosureSafe s := fun _ => .inr (.inr h)

theorem closureSafe_of_not_demand {s : State} (h : ¬ ClosureDemand s) : ClosureSafe s := fun hd => absurd hd h

/-! ## The programs and the permit (R65, R71 to R75) -/

/-- The opening program runs on without closure demand. -/
theorem runOpening_closureSafe {s : State} (h : ¬ ClosureDemand s) (n : Nat) : ClosureSafe (runOpening n s) :=
  closureSafe_of_not_demand (mt (closureDemand_of_frame (runOpening_frame n s)).1 h)

theorem enterOpening_closureSafe {s : State} (h : ¬ ClosureDemand s) : ClosureSafe (enterOpening s) :=
  closureSafe_of_not_demand (mt (closureDemand_of_frame (enterOpening_frame s)).1 h)

/-- The permit opens the crossing only where no demand holds. -/
theorem judgePermit_closureSafe {s : State} (hs : s.crossing.state = .closed) : ClosureSafe (judgePermit s) := by
  unfold judgePermit
  dsimp only
  split
  next => exact closureSafe_of_closed hs
  next =>
    split
    next => exact closureSafe_of_closed hs
    next hpermit =>
      have hdemand : ¬ ClosureDemand s := fun hd => hpermit (by rw [(demand_iff s).2 hd, Bool.true_or])
      split
      · exact closureSafe_of_closed hs
      · split
        · exact enterOpening_closureSafe hdemand
        · exact closureSafe_of_closed hs

theorem runClosing_closureSafe {s : State} (hs : s.crossing.state = .closing) (n : Nat) :
    ClosureSafe (runClosing n s) := by
  have hstate := runSteps_state ((programTable s .closing).drop (n - 1)) n s
  unfold runClosing
  split
  next =>
    refine judgePermit_closureSafe ?_
    rfl
  next t heq =>
    rw [heq] at hstate
    exact closureSafe_of_closing (hstate.trans hs)

theorem enterClosing_closureSafe (s : State) : ClosureSafe (enterClosing s) := by
  refine runClosing_closureSafe ?_ 1
  rfl

theorem reenterClosing_closureSafe (s : State) : ClosureSafe (reenterClosing s) := by
  refine runClosing_closureSafe ?_ _
  rfl

theorem programOf_eq_closing {x : CrossingState} (h : programOf x = .closing) : x = .closing := by
  cases x with
  | closing => rfl
  | outOfUse | isOpen | closed | opening | failed => cases h

theorem programOf_eq_opening {x : CrossingState} (h : programOf x = .opening) : x = .opening := by
  cases x with
  | opening => rfl
  | outOfUse | isOpen | closing | closed | failed => cases h

/-- A program that moves on is that of its crossing state: the closing one shuts, and the opening one opens only where
no demand holds. -/
theorem ClosureSafe.moveOn {s : State} (h : ClosureSafe s) (hfits : ProgramFits s) : ClosureSafe (moveOn s) := by
  unfold Machine.moveOn
  split
  · exact h
  · dsimp only
    split
    next hp =>
      refine runClosing_closureSafe ?_ _
      exact programOf_eq_closing (hfits.symm.trans hp)
    next hp =>
      have hopening : s.crossing.state = .opening := programOf_eq_opening (hfits.symm.trans hp)
      have hdemand : ¬ ClosureDemand s := fun hd => by
        obtain hs | hs | hs | hs := h hd <;> cases hopening.symm.trans hs
      refine runOpening_closureSafe ?_ _
      exact hdemand
    next => exact h

/-! ## The end of an event (R61, R71, R75) -/

/-- The turn of the Sequencer answers the demand, whatever the crossing state was. -/
theorem sequencerTurn_closureSafe (before : State) {s : State} (hfits : ProgramFits s) :
    ClosureSafe (sequencerTurn before s) := by
  cases halarm : s.handed.alarm with
  | true =>
    rw [sequencerTurn_of_alarm halarm]
    exact closureSafe_of_stays (takeAlarm_ends halarm)
  | false =>
    cases hs : s.crossing.state with
    | isOpen =>
      rw [sequencerTurn_isOpen halarm hs]
      split
      next => exact enterClosing_closureSafe s
      next hd => exact closureSafe_of_not_demand (mt (demand_iff s).2 hd)
    | opening =>
      rw [sequencerTurn_opening halarm hs]
      split
      next => exact reenterClosing_closureSafe s
      next hd =>
        have hsafe := closureSafe_of_not_demand (mt (demand_iff s).2 hd)
        split
        · exact hsafe.moveOn hfits
        · exact hsafe
    | closing =>
      rw [sequencerTurn_closing halarm hs]
      split
      · exact (closureSafe_of_closing hs).moveOn hfits
      · exact closureSafe_of_closing hs
    | closed =>
      rw [sequencerTurn_closed halarm hs]
      split
      · exact judgePermit_closureSafe hs
      · exact closureSafe_of_closed hs
    | failed =>
      rw [sequencerTurn_stays halarm (.inl hs)]
      exact closureSafe_of_stays (.inl hs)
    | outOfUse =>
      rw [sequencerTurn_stays halarm (.inr hs)]
      exact closureSafe_of_stays (.inr hs)

theorem finish_closureSafe (before : State) {s : State} (hfits : ProgramFits s) : ClosureSafe (finish before s) := by
  have htaken := (sequencerTurn_closureSafe before hfits).of_frame (takeAspect_frame _)
  have hturn : ClosureSafe (crossingTurn before s) := htaken
  exact ((hturn.of_frame (scannerTurn_frame ..)).of_frame (reportTurn_frame _)).of_frame (reportTurn_frame _)

end Sys2Proof.Machine
end

section
/-! SUPPORT. What holds of a crossing in use, and closure demand, through every step. -/

namespace Sys2Proof.Machine

set_option Elab.async false

/-- What a command leaves of a part with the invariant: the end of an event whose work keeps it, or a part that keeps it
and in which demand is answered as it was. -/
inductive LeavesInUse (s : State) : State → Prop where
  | ended {before w : State} (h : InUse w) : LeavesInUse s (finish before w)
  | stands {u : State} (h : InUse u) (hsafe : ClosureSafe s → ClosureSafe u) : LeavesInUse s u

theorem LeavesInUse.inUse {s u : State} (h : LeavesInUse s u) : InUse u := by
  cases h with
  | ended hw => exact hw.finish _
  | stands hu _ => exact hu

theorem LeavesInUse.closureSafe {s u : State} (h : LeavesInUse s u) (hs : ClosureSafe s) : ClosureSafe u := by
  cases h with
  | ended hw => exact finish_closureSafe _ hw.program
  | stands _ hsafe => exact hsafe hs

theorem coldStart_leavesInUse (written : Nat) (s t : State) : LeavesInUse s (coldStart written t) :=
  .stands (coldStart_isCold written t).inUse fun _ => (coldStart_isCold written t).closureSafe

section
variable {s : State} (h : InUse s)
include h

theorem InUse.event (dt : Time) {work : State → State} (hwork : InUse (work (s.advance dt))) :
    LeavesInUse s (event dt work s) := by
  unfold Machine.event
  split
  · exact .ended hwork
  · exact .stands h id

theorem InUse.next_event {u : State} {dt : Time} {work : State → State}
    (hu : (.next (Machine.event dt work s) : Host.Outcome State Fault Refusal) = .next u)
    (hwork : InUse (s.advance dt) → InUse (work (s.advance dt))) : LeavesInUse s u :=
  Host.Outcome.next.inj hu ▸ h.event dt (hwork (h.advance dt))

/-- The invariant through every command: each by the work of its event. -/
theorem InUse.exec {u : State} (c : Instr) (hu : exec c s = .next u) : LeavesInUse s u := by
  have hlines (supply held : Bool) : InUse { s with supply := supply, resetHeld := held } :=
    h.quiet (ps := [.lines]) ⟨fun p hp => by
      cases p with
      | lines => exact absurd (by decide) hp
      | _ => simp [Part.same]⟩
  cases c
  case powerUp written => exact Host.Outcome.next.inj hu ▸ coldStart_leavesInUse written s _
  case resetLineHeld written =>
    exact Host.Outcome.next.inj hu ▸ .stands ((hlines s.supply true).cutSave written) id
  case resetLineRelease written =>
    obtain rfl := Host.Outcome.next.inj hu
    split
    · exact coldStart_leavesInUse written s _
    · exact .stands (hlines s.supply false) id
  case supplyFailure written =>
    exact Host.Outcome.next.inj hu ▸ .stands ((hlines false s.resetHeld).cutSave written) id
  case loadingComplete => exact h.next_event hu fun k => k.completeLoading _
  case telegramReception => exact h.next_event hu fun k => k.receive _ _
  case wheelTelegram =>
    exact h.next_event hu fun k => k.takePassed fun i o _ hu => inUse_headsKeep.wheelTelegramFor hu i o
  case healthTelegram =>
    exact h.next_event hu fun k => k.takePassed fun i o _ hu => inUse_headsKeep.healthTelegramFor hu i o
  case transmissionComplete => exact h.next_event hu fun k => k.transmissionEnds _ _
  case poll => exact h.next_event hu fun k => k.completeQuiet (fun q => ownPoll_frame q _) _
  case faultRead => exact h.next_event hu fun k => k.completeQuiet (fun q => ownFaultRead_frame q _) _
  case faultAccept => exact h.next_event hu fun k => k.completeQuiet (fun q => ownFaultAccept_frame q _) _
  case closeRequest =>
    exact h.next_event hu fun k => k.complete (fun q => ownCloseRequest_frame q _) (fun _ => k.ownCloseRequest) _
  case restore => exact h.next_event hu fun k => k.complete (fun q => ownRestore_frame q _) (fun _ => k.ownRestore) _
  case takeOutOfUse =>
    exact h.next_event hu fun k => k.complete (fun q => ownTakeOutOfUse_frame q _) (fun _ => k.ownTakeOutOfUse) _
  case returnToUse =>
    exact h.next_event hu fun k => k.complete (fun q => ownReturnToUse_frame q _) (fun hl q => k.ownReturnToUse q hl) _
  case resetSection =>
    exact h.next_event hu fun k => k.complete (fun q => ownResetSection_frame q _) (fun _ => k.ownResetSection) _
  case depart => exact h.next_event hu fun k => k.completeQuiet (fun q => ownDepart_frame q _) _
  case passageRead => exact h.next_event hu fun k => k.completeQuiet (fun q => ownPassageRead_frame q _) _
  case tableWrite =>
    exact h.next_event hu fun k => k.complete (fun q => ownTableWrite_frame q _) (fun _ => k.ownTableWrite) _
  case tableRead => exact h.next_event hu fun k => k.completeQuiet (fun q => ownTableRead_frame q _) _
  case saveTables =>
    exact h.next_event hu fun k => k.complete (fun q => ownSaveTables_frame q _) (fun hl q => k.ownSaveTables q hl) _
  case restart => exact h.next_event hu fun k => k.completeRestart _
  case calibrate =>
    exact h.next_event hu fun k => k.complete (fun q => ownCalibrate_frame q _) (fun hl q => k.ownCalibrate q hl) _
  case calibrateCancel =>
    exact h.next_event hu fun k => k.complete (fun q => ownCalibrateCancel_frame q _) (fun _ => k.ownCalibrateCancel) _
  case lampTest => exact h.next_event hu fun k => k.complete (fun q => ownLampTest_frame q _) (fun _ => k.ownLampTest) _
  case measureRead => exact h.next_event hu fun k => k.completeQuiet (fun q => ownMeasureRead_frame q _) _
  case passageClose => exact h.next_event hu fun k => k.completeQuiet (fun q => ownPassageClose_frame q _) _
  case passageRelease => exact h.next_event hu fun k => k.completeQuiet (fun q => ownPassageRelease_frame q _) _
  case unknownCommand => exact h.next_event hu fun k => k.completeUnknown
  case unanswerableCommand => exact h.next_event hu fun k => k.completeUnanswerable
  case headSilenceExpiry => exact h.next_event hu fun k => inUse_headsKeep.headSilent k _
  case deadlineExpiry => exact h.next_event hu fun k => k.quiet (deadlineEnds_frame ..)
  case waitExpiry => exact h.next_event hu fun k => k.waitEnds
  case permitLapse => exact h.next_event hu fun k => k.permitLapses
  case openDelayExpiry => exact h.next_event hu fun k => k.openDelayEnds
  case exitDelayExpiry => exact h.next_event hu fun k => k.exitDelayEnds
  case longClosureExpiry => exact h.next_event hu fun k => k.longClosureEnds
  case halfPeriodExpiry => exact h.next_event hu fun k => k.quiet (halfPeriodEnds_frame _)
  case darkTimerExpiry => exact h.next_event hu fun k => k.quiet (darkTimerEnds_frame ..)
  case lampTestSlotEnd => exact h.next_event hu fun k => k.slotEnds
  case startPhaseExpiry => exact h.next_event hu fun k => k.quiet (startPhaseEnds_frame ..)
  case reversePauseExpiry => exact h.next_event hu fun k => k.quiet (pauseEnds_frame ..)
  case trippedPauseExpiry => exact h.next_event hu fun k => k.quiet (pauseEnds_frame ..)
  case travelExpiry => exact h.next_event hu fun k => k.quiet (travelEnds_frame ..)
  case disagreementTimerExpiry => exact h.next_event hu fun k => k.quiet (disagreementEnds_frame ..)
  case calibrationLimitExpiry => exact h.next_event hu fun k => k.calibrationLimitEnds
  case contactChange dt i d closed =>
    obtain rfl := Host.Outcome.next.inj hu
    have hframe := setContact_frame i d closed s
    split
    · exact h.event dt ((h.advance dt).contactChanged i d closed)
    · exact .stands (h.quiet hframe) fun hs => hs.of_frame hframe
  case strobe => exact h.next_event hu fun k => k.strobeTaken _
  case quietEndExpiry => exact h.next_event hu fun k => k.quiet (quietEnds_frame _)
  case statusDueExpiry => exact h.next_event hu fun k => k.quiet (statusDueEnds_frame _)
  case linkEndExpiry => exact h.next_event hu fun k => k.quiet (linkEnds_frame _)
  case saveRunComplete => exact h.next_event hu fun k => k.completeSave _

theorem InUse.leaves {t : State} (hstep : Machine.step s = .next t) : LeavesInUse s t := by
  unfold Machine.step at hstep
  split at hstep
  next c rest _ =>
    have hexec := (h.withPending rest).exec c hstep
    exact .stands hexec.inUse fun hs => hexec.closureSafe (hs : ClosureSafe { s with pending := rest })
  next => exact Host.Outcome.next.inj hstep ▸ .stands h id

end

/-- Settles O56: command by command, each by the work of its event. -/
theorem inUseIsKept : Obligations.InUseIsKept := fun _ _ h hstep => (h.leaves hstep).inUse

/-- Settles O57: the end of an event answers the demand that stands then, and what is no event keeps demand and crossing
as they were. -/
theorem demandKeepsTheCrossingClosed : Obligations.DemandKeepsTheCrossingClosed :=
  fun _ _ h hsafe hstep => (h.leaves hstep).closureSafe hsafe

end Sys2Proof.Machine
end

section
/-! SUPPORT. How red proved is formed of the lamps, and what it does to the dark timers (R98, R99, R113). -/

namespace Sys2Proof.Machine

set_option Elab.async false

theorem PerSide.set_get_self {α : Type} (p : PerSide α) (side : Side) : p.set side (p.get side) = p := by
  cases side <;> rfl

/-- An in-service red lamp of the side is proved (R98). -/
def SideLit (s : State) (side : Side) : Prop :=
  ∃ i : Fin 12, s.tm.tables.lamp[i].inService = true ∧ s.tm.tables.lamp[i].colour = .red ∧
    s.tm.tables.lamp[i].roadSide = side ∧ s.lamp.lamps[i].proved = true

theorem sideHasRed_iff (s : State) (side : Side) : sideHasRed s side = true ↔ SideLit s side := by
  simp only [sideHasRed, List.any_eq_true, List.mem_finRange, true_and, State.lampEntry, State.lampRecord,
    Bool.and_eq_true, beq_iff_eq, and_assoc, SideLit]

/-- Red proved is read off the tables and the lamp records. -/
theorem sideHasRed_congr {s t : State} (htables : t.tm.tables = s.tm.tables) (hlamps : t.lamp.lamps = s.lamp.lamps)
    (side : Side) : sideHasRed t side = sideHasRed s side := by
  rw [Bool.eq_iff_iff, sideHasRed_iff, sideHasRed_iff, SideLit, SideLit, htables, hlamps]

/-! ## One side, case by case -/

section
variable {s : State} {side : Side}

theorem formRed_same (h : sideHasRed s side = s.lamp.redProved.get side) : formRed side s = s := if_pos h

theorem formRed_gained (hlit : sideHasRed s side = true) (hred : s.lamp.redProved.get side = false) :
    formRed side s = gateSide side true (conditionEnd .roadSideDark (some (sideNumber side)) { s with
      lamp := { s.lamp with
        redProved := s.lamp.redProved.set side true, darkEnd := s.lamp.darkEnd.set side none } }) := by
  simp only [formRed, hlit, hred, Bool.true_eq_false, if_false, if_true]

theorem formRed_lost_underRed (hlit : sideHasRed s side = false) (hred : s.lamp.redProved.get side = true)
    (ha : s.lamp.aspect = .red) : formRed side s = gateSide side false { s with lamp := { s.lamp with
      redProved := s.lamp.redProved.set side false
      darkEnd := s.lamp.darkEnd.set side (some (after s.now (twoFlashPeriods s))) } } := by
  simp only [formRed, hlit, hred, ha, Bool.false_eq_true, if_false, if_true]
  rfl

theorem formRed_lost_elsewhere (hlit : sideHasRed s side = false) (hred : s.lamp.redProved.get side = true)
    (ha : s.lamp.aspect ≠ .red) : formRed side s = gateSide side false { s with lamp := { s.lamp with
      redProved := s.lamp.redProved.set side false } } := by
  simp only [formRed, hlit, hred, ha, Bool.false_eq_true, if_false]

end

/-! ## What forming leaves -/

/-- The dark timer of a side once its flag is formed: none where red proved is gained, running where it is lost under
RED, else as it was (R99). -/
def formedDark (s : State) (side : Side) : Option Time :=
  if sideHasRed s side = s.lamp.redProved.get side then s.lamp.darkEnd.get side
  else if sideHasRed s side then none
  else if s.lamp.aspect = .red then some (after s.now (twoFlashPeriods s))
  else s.lamp.darkEnd.get side

/-- Forming the flag of a side moves that flag and that dark timer, no other part of the Lamp Controller. -/
theorem formRed_lamp (side : Side) (s : State) : (formRed side s).lamp = { s.lamp with
    redProved := s.lamp.redProved.set side (sideHasRed s side)
    darkEnd := s.lamp.darkEnd.set side (formedDark s side) } := by
  cases hlit : sideHasRed s side <;> cases hred : s.lamp.redProved.get side
  case false.false | true.true =>
    have hset : s.lamp.redProved.set side (s.lamp.redProved.get side) = s.lamp.redProved :=
      s.lamp.redProved.set_get_self side
    rw [hred] at hset
    rw [formRed_same (hlit.trans hred.symm), formedDark, if_pos (hlit.trans hred.symm), PerSide.set_get_self, hset]
  case true.false =>
    rw [formRed_gained hlit hred, gateSide_lamp, conditionEnd_eq]
    simp only [formedDark, hlit, hred, Bool.true_eq_false, if_false, if_true]
  case false.true =>
    by_cases ha : s.lamp.aspect = .red
    · rw [formRed_lost_underRed hlit hred ha, gateSide_lamp]
      simp only [formedDark, hlit, hred, ha, Bool.false_eq_true, if_false, if_true]
    · rw [formRed_lost_elsewhere hlit hred ha, gateSide_lamp]
      simp only [formedDark, hlit, hred, ha, Bool.false_eq_true, if_false, PerSide.set_get_self]

/-- A gain ends ROAD_SIDE_DARK of the side, and forming enters no fault (R99). -/
theorem formRed_faults (side : Side) (s : State) :
    (formRed side s).faults = s.faults ∨
      (formRed side s).faults = (conditionEnd .roadSideDark (some (sideNumber side)) s).faults := by
  have hgate (red : Bool) (u : State) : (gateSide side red u).faults = u.faults :=
    (gateSide_frame side red u).faults (by decide)
  cases hlit : sideHasRed s side <;> cases hred : s.lamp.redProved.get side
  case false.false | true.true => exact .inl (congrArg State.faults (formRed_same (hlit.trans hred.symm)))
  case true.false =>
    refine .inr ?_
    rw [formRed_gained hlit hred, hgate, conditionEnd_eq, conditionEnd_eq]
  case false.true =>
    refine .inl ?_
    by_cases ha : s.lamp.aspect = .red
    · rw [formRed_lost_underRed hlit hred ha, hgate]
    · rw [formRed_lost_elsewhere hlit hred ha, hgate]

/-- Both flags are formed of the lamps as they stand, each side by itself. -/
theorem formBothRed_lamp (s : State) : (formBothRed s).lamp = { s.lamp with
    redProved := ⟨sideHasRed s .north, sideHasRed s .south⟩
    darkEnd := ⟨formedDark s .north, formedDark s .south⟩ } := by
  have hnorth := formRed_lamp .north s
  have hframe := formRed_frame .north s
  have htables := hframe.tables (by decide)
  have hlit : sideHasRed (formRed .north s) .south = sideHasRed s .south :=
    sideHasRed_congr htables (by rw [hnorth]) .south
  have hdark : formedDark (formRed .north s) .south = formedDark s .south := by
    simp only [formedDark, hlit, hnorth, twoFlashPeriods, halfPeriod, State.params, htables, hframe.now (by decide)]
    rfl
  rw [formBothRed, formRed_lamp, hlit, hdark, hnorth]
  rfl

theorem formBothRed_get (s : State) (side : Side) : (formBothRed s).lamp.redProved.get side = sideHasRed s side := by
  rw [formBothRed_lamp]
  cases side <;> rfl

theorem formBothRed_darkEnd (s : State) (side : Side) : (formBothRed s).lamp.darkEnd.get side = formedDark s side := by
  rw [formBothRed_lamp]
  cases side <;> rfl

/-- Under RED, a side without red proved whose dark timer runs to the time given, or that has just lost red proved, has
that timer. -/
theorem formedDark_underRed {s : State} {side : Side} {e : Time} (ha : s.lamp.aspect = .red)
    (hlit : sideHasRed s side = false) (he : e = after s.now (twoFlashPeriods s))
    (hdark : s.lamp.redProved.get side = false → s.lamp.darkEnd.get side = some e) : formedDark s side = some e := by
  subst he
  cases hred : s.lamp.redProved.get side with
  | false => rw [formedDark, hlit, hred, if_pos rfl, hdark hred]
  | true => simp only [formedDark, hlit, hred, ha, Bool.false_eq_true, if_false, if_true]

end Sys2Proof.Machine
end

section
/-! SUPPORT. The modes of the lamps and the lit intervals, one lamp after another (R89, R94, R97). -/

namespace Sys2Proof.Machine

set_option Elab.async false

/-- Two lists of operations keep a relation between their states, where those of each index do. -/
theorem forEach_relates {R : State → State → Prop} {n : Nat} {f g : Fin n → State → State}
    (h : ∀ i s t, R s t → R (f i s) (g i t)) {s t : State} (hst : R s t) : R (forEach n f s) (forEach n g t) := by
  have along (l : List (Fin n)) (s t : State) (hst : R s t) :
      R (l.foldl (fun s i => f i s) s) (l.foldl (fun s i => g i s) t) := by
    induction l generalizing s t with
    | nil => exact hst
    | cons i l ih => exact ih _ _ (h i s t hst)
  exact along _ s t hst

/-- Setting one lamp's record leaves another's. -/
theorem lamps_set_other {i j : Fin 12} (h : i ≠ j) (lamps : Vector LampRecord 12) (r : LampRecord) :
    (lamps.set j r)[i] = lamps[i] :=
  Vector.getElem_set_ne j.isLt i.isLt fun hj => h (Fin.ext hj.symm)

/-! ## One lamp takes a mode (R89, R97) -/

section
variable {s : State} {i : Fin 12} {m : LampMode}

theorem setMode_same (h : m = s.lamp.lamps[i].mode) : setMode i m s = s := if_pos h.symm

theorem setMode_darkened (h : m ≠ s.lamp.lamps[i].mode) (hd : m = .dark) :
    setMode i m s = s.setLamp i (s.lamp.lamps[i].withMode m s.now) :=
  (if_neg (Ne.symm h)).trans (if_pos hd)

theorem setMode_lit (h : m ≠ s.lamp.lamps[i].mode) (hd : m ≠ .dark) : setMode i m s =
    conditionEnd .lampStuckOn (some i.val) (s.setLamp i (s.lamp.lamps[i].withMode m s.now)) :=
  (if_neg (Ne.symm h)).trans (if_neg hd)

end

theorem LampRecord.withMode_dark (r : LampRecord) (now : Time) : r.withMode .dark now = { r with
    mode := .dark, modeSince := now, intervalStart := none, intervalEnd := none, intervalOk := false
    proved := false } := rfl

theorem LampRecord.withMode_lit {m : LampMode} (h : m ≠ .dark) (r : LampRecord) (now : Time) :
    r.withMode m now = { r with
      mode := m, modeSince := now, intervalStart := none, intervalEnd := none, intervalOk := false
      stuckOn := false } := if_neg h

theorem LampRecord.withMode_since (r : LampRecord) (m : LampMode) (now : Time) : (r.withMode m now).modeSince = now := by
  cases m <;> rfl

theorem LampRecord.withMode_interval (r : LampRecord) (m : LampMode) (now : Time) :
    (r.withMode m now).intervalStart = none := by
  cases m <;> rfl

/-- The record of a lamp that is given a mode, the same or another. -/
def LampRecord.given (r : LampRecord) (m : LampMode) (now : Time) : LampRecord :=
  if r.mode = m then r else r.withMode m now

theorem LampRecord.given_same {r : LampRecord} {m : LampMode} (h : m = r.mode) (now : Time) : r.given m now = r :=
  if_pos h.symm

theorem LampRecord.given_other {r : LampRecord} {m : LampMode} (h : m ≠ r.mode) (now : Time) :
    r.given m now = r.withMode m now := if_neg (Ne.symm h)

theorem LampRecord.given_mode (r : LampRecord) (m : LampMode) (now : Time) : (r.given m now).mode = m := by
  by_cases h : m = r.mode
  · rw [given_same h, h]
  · rw [given_other h]
    by_cases hd : m = .dark
    · rw [hd, withMode_dark]
    · rw [withMode_lit hd]

theorem setMode_lamp (i : Fin 12) (m : LampMode) (s : State) :
    (setMode i m s).lamp = (s.setLamp i (s.lamp.lamps[i].given m s.now)).lamp := by
  by_cases h : m = s.lamp.lamps[i].mode
  · have hset : s.lamp.lamps.set i s.lamp.lamps[i] = s.lamp.lamps := Vector.set_getElem_self i.isLt
    rw [setMode_same h, LampRecord.given_same h, State.setLamp_lamp, hset]
  · rw [LampRecord.given_other h]
    by_cases hd : m = .dark
    · rw [setMode_darkened h hd]
    · rw [setMode_lit h hd]
      exact (conditionEnd_frame ..).lamp (by decide)

/-- LAMP_STUCK_ON of a lamp ends as it takes another mode than DARK (R97). -/
def stuckEnds (i : Fin 12) (was m : LampMode) (s : State) : State :=
  if m ≠ .dark ∧ m ≠ was then conditionEnd .lampStuckOn (some i.val) s else s

theorem stuckEnds_congr {s t : State} (h : s.faults = t.faults) (i : Fin 12) (was m : LampMode) :
    (stuckEnds i was m s).faults = (stuckEnds i was m t).faults := by
  unfold stuckEnds
  split
  · rw [conditionEnd_eq, conditionEnd_eq, h]
  · exact h

/-! ## Every lamp takes its mode -/

/-- Each lamp is given a mode. -/
def giveModes (mode : Fin 12 → LampMode) (s : State) : State := forEach 12 (fun i u => setMode i (mode i) u) s

theorem giveModes_frame (mode : Fin 12 → LampMode) (s : State) : Frame [.lamp, .faults] s (giveModes mode s) :=
  forEach_frame (fun i u => setMode_frame i (mode i) u) s

/-- No part of the Lamp Controller but the lamp records has moved. -/
def LampsMoved (s u : State) : Prop := u.lamp = { s.lamp with lamps := u.lamp.lamps }

/-- The record of lamp `i` and the time are those of `s`. -/
def LampStands (s : State) (i : Fin 12) (u : State) : Prop := u.lamp.lamps[i] = s.lamp.lamps[i] ∧ u.now = s.now

theorem lampStands_setMode {s u : State} {i j : Fin 12} (hij : i ≠ j) (m : LampMode) (h : LampStands s i u) :
    LampStands s i (setMode j m u) := by
  refine ⟨?_, ((setMode_frame j m u).now (by decide)).trans h.2⟩
  rw [setMode_lamp]
  exact (lamps_set_other hij u.lamp.lamps _).trans h.1

/-- The mode of each lamp is given with the record and the time as they were before any of them. -/
theorem giveModes_eq (mode : Fin 12 → LampMode) (s : State) : giveModes mode s = forEach 12 (fun i u =>
    stuckEnds i s.lamp.lamps[i].mode (mode i) (u.setLamp i (s.lamp.lamps[i].given (mode i) s.now))) s := by
  refine forEach_congr (Q := LampStands s) ?_ (fun i j u hij hu => lampStands_setMode hij _ hu) fun i => ⟨rfl, rfl⟩
  rintro i u ⟨hrecord, hnow⟩
  unfold stuckEnds
  rw [← hrecord, ← hnow]
  by_cases h : mode i = u.lamp.lamps[i].mode
  · rw [setMode_same h, if_neg fun hn => hn.2 h, LampRecord.given_same h]
    simp only [State.setLamp, Fin.getElem_fin, Vector.set_getElem_self]
  · rw [LampRecord.given_other h]
    by_cases hd : mode i = .dark
    · rw [setMode_darkened h hd, if_neg fun hn => hn.1 hd]
    · rw [setMode_lit h hd, if_pos ⟨hd, h⟩]

theorem stuckEnds_lamp (i : Fin 12) (was m : LampMode) (s : State) : (stuckEnds i was m s).lamp = s.lamp := by
  unfold stuckEnds
  split
  · exact (conditionEnd_frame ..).lamp (by decide)
  · rfl

theorem giveModes_lamps (mode : Fin 12 → LampMode) (s : State) (i : Fin 12) :
    (giveModes mode s).lamp.lamps[i] = s.lamp.lamps[i].given (mode i) s.now := by
  rw [giveModes_eq]
  refine forEach_establishes (P := fun _ => True) (Q := fun i u => u.lamp.lamps[i] = s.lamp.lamps[i].given (mode i) s.now)
    (fun _ _ _ => trivial) (fun i u _ => ?_) (fun i j u hu => ?_) trivial i
  · rw [stuckEnds_lamp]
    exact Vector.getElem_set_self _
  · rw [stuckEnds_lamp]
    by_cases hij : i = j
    · subst hij
      exact Vector.getElem_set_self _
    · exact (lamps_set_other hij u.lamp.lamps _).trans hu

/-- The fault table takes the ends of LAMP_STUCK_ON alone. -/
theorem giveModes_faults (mode : Fin 12 → LampMode) {s t : State} (h : s.faults = t.faults) :
    (giveModes mode s).faults = (forEach 12 (fun i v => stuckEnds i s.lamp.lamps[i].mode (mode i) v) t).faults := by
  rw [giveModes_eq]
  refine forEach_relates (R := fun u v => u.faults = v.faults) (fun i u v huv => ?_) h
  exact stuckEnds_congr (s := u.setLamp i _) huv _ _ _

/-! ## The lit interval of a half-period (R94 to R96) -/

/-- A judged interval gives the lamp its proved flag and its count. -/
theorem countJudged_lamp (i : Fin 12) (ok : Bool) (s : State) : ∃ (proved : Bool) (unproved : Nat),
    (countJudged i ok s).lamp = { s.lamp with
      lamps := s.lamp.lamps.set i { s.lamp.lamps[i] with proved := proved, unproved := unproved } } := by
  unfold countJudged
  dsimp only
  split
  · refine ⟨true, 0, ?_⟩
    rw [conditionEnd_eq]
    rfl
  · refine ⟨false, min 2 (s.lamp.lamps[i].unproved + 1), ?_⟩
    split
    · exact (conditionPresent_frame ..).lamp (by decide)
    · rfl

/-- The lamp is flashing in the phase. -/
def FlashesIn (phase : Phase) (s : State) (i : Fin 12) : Prop :=
  s.lamp.lamps[i].mode = .flash ∧ s.tm.tables.lamp[i].phase = phase

theorem openLit_of_not {phase : Phase} {i : Fin 12} {s : State} (h : ¬ FlashesIn phase s i) : openLit phase i s = s :=
  if_neg h

/-- A lamp that flashes in the phase has its lit interval opened now; one not yet judged is judged first (R94). -/
theorem openLit_lamp {phase : Phase} {i : Fin 12} {s : State} (h : FlashesIn phase s i) :
    ∃ (proved : Bool) (unproved : Nat), (openLit phase i s).lamp = { s.lamp with
      lamps := s.lamp.lamps.set i { s.lamp.lamps[i] with
        proved := proved, unproved := unproved, intervalStart := some s.now
        intervalEnd := some (after s.now (halfPeriod s)), intervalOk := false } } := by
  have hflash : (s.lampRecord i).mode = .flash ∧ (s.lampEntry i).phase = phase := h
  unfold openLit
  rw [if_pos hflash]
  dsimp only
  split
  · let dropped := s.setLamp i (s.lampRecord i).dropInterval
    have hjudged : judgeInterval i s = countJudged i (s.lampRecord i).intervalOk dropped := rfl
    have hframe := judgeInterval_frame i s
    have hhalf : halfPeriod (judgeInterval i s) = halfPeriod s := by
      rw [halfPeriod, State.params, hframe.tables (by decide)]; rfl
    obtain ⟨proved, unproved, hlamp⟩ := countJudged_lamp i (s.lampRecord i).intervalOk dropped
    rw [← hjudged] at hlamp
    refine ⟨proved, unproved, ?_⟩
    simp only [State.setLamp_lamp, State.lampRecord, LampRecord.openInterval, hhalf, hframe.now (by decide), hlamp]
    simp [dropped, State.lampRecord, LampRecord.dropInterval]
  · exact ⟨s.lamp.lamps[i].proved, s.lamp.lamps[i].unproved, rfl⟩

/-- What the half-period start of a phase leaves of one lamp: its mode and what goes with it; and of one that does not
flash in the phase, all. -/
structure LitFrom (phase : Phase) (s u : State) (i : Fin 12) : Prop where
  mode : u.lamp.lamps[i].mode = s.lamp.lamps[i].mode
  since : u.lamp.lamps[i].modeSince = s.lamp.lamps[i].modeSince
  stuck : u.lamp.lamps[i].stuckOn = s.lamp.lamps[i].stuckOn
  others : ¬ FlashesIn phase s i → u.lamp.lamps[i] = s.lamp.lamps[i]

/-- Between two states of a half-period start nothing but lamp records and faults has moved. -/
structure Lighting (phase : Phase) (s u : State) : Prop where
  frame : Frame [.lamp, .faults, .newFault] s u
  rest : LampsMoved s u
  lamp : ∀ i, LitFrom phase s u i

theorem Lighting.flashesIn {phase : Phase} {s u : State} (h : Lighting phase s u) (i : Fin 12) :
    FlashesIn phase u i ↔ FlashesIn phase s i := by
  rw [FlashesIn, FlashesIn, (h.lamp i).mode, h.frame.tables (by decide)]

/-- The interval of a lamp is the lit one that starts now. -/
def LitNow (s : State) (r : LampRecord) : Prop :=
  r.intervalStart = some s.now ∧ r.intervalEnd = some (after s.now (halfPeriod s)) ∧ r.intervalOk = false

theorem Lighting.openLit {phase : Phase} {s u : State} (h : Lighting phase s u) (j : Fin 12) :
    Lighting phase s (openLit phase j u) := by
  by_cases hj : FlashesIn phase u j
  · obtain ⟨proved, unproved, hlamp⟩ := openLit_lamp hj
    have hrest : LampsMoved s (Machine.openLit phase j u) := by
      have hrest := h.rest
      rw [LampsMoved] at hrest
      rw [LampsMoved, hlamp, hrest]
    refine ⟨h.frame.trans (openLit_frame phase j u), hrest, fun i => ?_⟩
    rw [h.flashesIn] at hj
    by_cases hij : i = j
    · subst hij
      have hself : (Machine.openLit phase i u).lamp.lamps[i] = { u.lamp.lamps[i] with
          proved := proved, unproved := unproved, intervalStart := some u.now
          intervalEnd := some (after u.now (halfPeriod u)), intervalOk := false } := by
        rw [hlamp]
        exact Vector.getElem_set_self _
      constructor
      · rw [hself]; exact (h.lamp i).mode
      · rw [hself]; exact (h.lamp i).since
      · rw [hself]; exact (h.lamp i).stuck
      · exact fun hn => absurd hj hn
    · have hother : (Machine.openLit phase j u).lamp.lamps[i] = u.lamp.lamps[i] := by
        rw [hlamp]
        exact lamps_set_other hij u.lamp.lamps _
      constructor
      · rw [hother]; exact (h.lamp i).mode
      · rw [hother]; exact (h.lamp i).since
      · rw [hother]; exact (h.lamp i).stuck
      · rw [hother]; exact (h.lamp i).others
  · rw [openLit_of_not hj]
    exact h

theorem lightLamps_lighting (phase : Phase) (s : State) : Lighting phase s (forEach 12 (openLit phase) s) :=
  forEach_keeps (fun j _ hu => hu.openLit j) ⟨.refl _ s, rfl, fun _ => ⟨rfl, rfl, rfl, fun _ => rfl⟩⟩

/-- Every lamp that flashes in the phase has its lit interval opened. -/
theorem lightLamps_litNow {phase : Phase} {s : State} {i : Fin 12} (h : FlashesIn phase s i) :
    LitNow s (forEach 12 (openLit phase) s).lamp.lamps[i] := by
  have hlit {u : State} (hu : Lighting phase s u) {j : Fin 12} (hj : FlashesIn phase s j) :
      LitNow s (openLit phase j u).lamp.lamps[j] := by
    obtain ⟨proved, unproved, hlamp⟩ := openLit_lamp ((hu.flashesIn j).2 hj)
    have hnow := hu.frame.now (by decide)
    have hhalf : halfPeriod u = halfPeriod s := by rw [halfPeriod, State.params, hu.frame.tables (by decide)]; rfl
    simp [hlamp, hnow, hhalf, LitNow]
  refine (forEach_establishes (P := fun u => Lighting phase s u)
    (Q := fun j u => Lighting phase s u ∧ (FlashesIn phase s j → LitNow s u.lamp.lamps[j]))
    (fun j u hu => hu.openLit j) (fun j u hu => ⟨hu.openLit j, hlit hu⟩) (fun j k u hu => ?_)
    ⟨.refl _ s, rfl, fun _ => ⟨rfl, rfl, rfl, fun _ => rfl⟩⟩ i).2 h
  refine ⟨hu.1.openLit k, fun hj => ?_⟩
  by_cases hjk : j = k
  · subst hjk
    exact hlit hu.1 hj
  · by_cases hk : FlashesIn phase u k
    · obtain ⟨proved, unproved, hlamp⟩ := openLit_lamp hk
      have hother : (openLit phase k u).lamp.lamps[j] = u.lamp.lamps[j] := by
        rw [hlamp]
        exact lamps_set_other hjk u.lamp.lamps _
      rw [hother]
      exact hu.2 hj
    · rw [openLit_of_not hk]
      exact hu.2 hj

end Sys2Proof.Machine
end

section
/-! SUPPORT. What taking an aspect comes to: the lamps, the generator and the dark timers together (R62, R89, R90,
R98, R99). -/

namespace Sys2Proof.Machine

set_option Elab.async false

/-- The mode an aspect gives a lamp, by the three conditions of R89. -/
theorem aspectMode_eq (s : State) (i : Fin 12) (a : Aspect) : aspectMode (s.lampEntry i) a =
    if s.tm.tables.lamp[i].inService = true ∧ a = .red ∧ s.tm.tables.lamp[i].colour = .red then .flash
    else if s.tm.tables.lamp[i].inService = true ∧ a = .amber ∧ s.tm.tables.lamp[i].colour = .amber then .steady
    else .dark := by
  rw [State.lampEntry]
  generalize s.tm.tables.lamp[i] = e
  obtain ⟨inService, side, colour, phase, entry⟩ := e
  cases inService
  · rfl
  · cases a <;> cases colour <;> rfl

/-! ## Both dark timers as the aspect is taken (R99) -/

/-- The dark timer of a side as the aspect becomes RED. -/
def darkOnRed (s : State) (side : Side) : Option Time :=
  if s.lamp.redProved.get side then s.lamp.darkEnd.get side else some (after s.now (twoFlashPeriods s))

theorem darkTimerOnAspect_underRed {s : State} (ha : s.lamp.aspect = .red) (side : Side) :
    darkTimerOnAspect side s =
      { s with lamp := { s.lamp with darkEnd := s.lamp.darkEnd.set side (darkOnRed s side) } } := by
  cases hred : s.lamp.redProved.get side with
  | true => rw [darkTimerOnAspect, if_pos ha, hred, if_pos rfl, darkOnRed, hred, if_pos rfl, PerSide.set_get_self]
  | false => simp only [darkTimerOnAspect, darkOnRed, ha, hred, if_true, Bool.false_eq_true, if_false]

theorem darkTimerOnAspect_elsewhere {s : State} (ha : s.lamp.aspect ≠ .red) (side : Side) :
    darkTimerOnAspect side s = conditionEnd .roadSideDark (some (sideNumber side))
      { s with lamp := { s.lamp with darkEnd := s.lamp.darkEnd.set side none } } := if_neg ha

/-- Both dark timers as the aspect is taken. -/
def darkTimers (s : State) : State := darkTimerOnAspect .south (darkTimerOnAspect .north s)

theorem darkTimers_underRed {s : State} (ha : s.lamp.aspect = .red) : darkTimers s =
    { s with lamp := { s.lamp with darkEnd := ⟨darkOnRed s .north, darkOnRed s .south⟩ } } := by
  rw [darkTimers, darkTimerOnAspect_underRed ha, darkTimerOnAspect_underRed (by exact ha)]
  rfl

theorem darkTimers_elsewhere {s : State} (ha : s.lamp.aspect ≠ .red) : darkTimers s =
    conditionEnd .roadSideDark (some 1) (conditionEnd .roadSideDark (some 0)
      { s with lamp := { s.lamp with darkEnd := ⟨none, none⟩ } }) := by
  have hkeeps : (darkTimerOnAspect .north s).lamp.aspect = s.lamp.aspect :=
    (darkTimerOnAspect_frame .north s).aspect (by decide)
  rw [darkTimers, darkTimerOnAspect_elsewhere (by rw [hkeeps]; exact ha), darkTimerOnAspect_elsewhere ha]
  simp only [conditionEnd_eq, sideNumber]
  rfl

/-! ## The lamps of a new aspect, and red proved formed of them -/

/-- The aspect is held, the lamps as they were. -/
def State.withAspect (s : State) (a : Aspect) : State := { s with lamp := { s.lamp with aspect := a } }

theorem State.withAspect_lamps (s : State) (a : Aspect) : (s.withAspect a).lamp.lamps = s.lamp.lamps := rfl

theorem State.withAspect_now (s : State) (a : Aspect) : (s.withAspect a).now = s.now := rfl

theorem withAspect_frame (a : Aspect) (s : State) : Frame [.lamp, .handedOn] s (s.withAspect a) := (Frame.refl _ s).withLamp

/-- The aspect is held, and every lamp has the mode it gives. -/
@[irreducible] def aspected (a : Aspect) (s : State) : State :=
  giveModes (fun i => aspectMode (s.lampEntry i) a) (s.withAspect a)

theorem aspected_eq (a : Aspect) (s : State) :
    aspected a s = giveModes (fun i => aspectMode (s.lampEntry i) a) (s.withAspect a) := by
  delta aspected
  rfl

/-- Red proved is formed of the lamps of a new aspect. -/
@[irreducible] def aspectFormed (a : Aspect) (s : State) : State := formBothRed (aspected a s)

theorem aspectFormed_eq (a : Aspect) (s : State) : aspectFormed a s = formBothRed (aspected a s) := by
  delta aspectFormed
  rfl

theorem aspected_frame (a : Aspect) (s : State) : Frame [.lamp, .handedOn, .faults] s (aspected a s) := by
  rw [aspected_eq]
  exact ((withAspect_frame a s).mono (by decide)).step (giveModes_frame _ _)

theorem aspectFormed_frame (a : Aspect) (s : State) :
    Frame [.lamp, .handedOn, .redProved, .barriers, .faults] s (aspectFormed a s) := by
  rw [aspectFormed_eq]
  exact ((aspected_frame a s).mono (by decide)).step (formBothRed_frame _)

theorem aspected_lamps (a : Aspect) (s : State) (i : Fin 12) :
    (aspected a s).lamp.lamps[i] = s.lamp.lamps[i].given (aspectMode (s.lampEntry i) a) s.now := by
  rw [aspected_eq, giveModes_lamps, State.withAspect_lamps, State.withAspect_now]

theorem aspectFormed_lamps (a : Aspect) (s : State) : (aspectFormed a s).lamp.lamps = (aspected a s).lamp.lamps := by
  rw [aspectFormed_eq, formBothRed_lamp]

theorem withAspect_formed_frame (a : Aspect) (s : State) :
    Frame [.lamp, .redProved, .barriers, .faults] (s.withAspect a) (aspectFormed a s) := by
  rw [aspectFormed_eq, aspected_eq]
  exact ((giveModes_frame _ _).mono (by decide)).step (formBothRed_frame _)

theorem aspectFormed_aspect (a : Aspect) (s : State) : (aspectFormed a s).lamp.aspect = a :=
  (withAspect_formed_frame a s).aspect (by decide)

theorem aspectFormed_sound (a : Aspect) (s : State) : (aspectFormed a s).lamp.sound = s.lamp.sound :=
  (withAspect_formed_frame a s).sound (by decide)

theorem halfPeriod_of_tables {s t : State} (h : t.tm.tables = s.tm.tables) : halfPeriod t = halfPeriod s := by
  rw [halfPeriod, halfPeriod, State.params, State.params, h]

theorem aspectFormed_half (a : Aspect) (s : State) : halfPeriod (aspectFormed a s) = halfPeriod s :=
  halfPeriod_of_tables ((aspectFormed_frame a s).tables (by decide))

theorem aspectFormed_now (a : Aspect) (s : State) : (aspectFormed a s).now = s.now :=
  (aspectFormed_frame a s).now (by decide)

/-- The generator is stopped (R90). -/
def generatorStopped (s : State) : State := { s with lamp := { s.lamp with phase := none, phaseEnd := none } }

/-- The model's list of operations gives the modes of the tables before it. -/
theorem forEach_setMode_aspect (a : Aspect) (s : State) :
    forEach 12 (fun i u => setMode i (aspectMode (u.lampEntry i) a) u) (s.withAspect a) = aspected a s := by
  rw [aspected_eq, giveModes]
  refine forEach_congr (Q := fun _ u => u.tm.tables = s.tm.tables) (fun i u hu => ?_) (fun i j u _ hu => ?_) fun _ => rfl
  · have hentry : u.lampEntry i = s.lampEntry i := by rw [State.lampEntry, hu, State.lampEntry]
    rw [hentry]
  · exact ((setMode_frame ..).tables (by decide)).trans hu

/-- Taking an aspect, with its first two stages named. -/
theorem changeAspect_eq (a : Aspect) (s : State) : changeAspect a s =
    if a = .red then startHalfPeriod .a (darkTimers (aspectFormed a s))
    else if s.lamp.aspect = .red then darkTimers (generatorStopped (aspectFormed a s))
    else generatorStopped (aspectFormed a s) := by
  rw [aspectFormed_eq, ← forEach_setMode_aspect]
  simp only [changeAspect, darkTimers, generatorStopped, State.withAspect]

theorem changeAspect_red (s : State) : changeAspect .red s = startHalfPeriod .a (darkTimers (aspectFormed .red s)) := by
  rw [changeAspect_eq, if_pos rfl]

theorem changeAspect_calm {a : Aspect} {s : State} (ha : a ≠ .red) (hwas : s.lamp.aspect ≠ .red) :
    changeAspect a s = generatorStopped (aspectFormed a s) := by
  rw [changeAspect_eq, if_neg ha, if_neg hwas]

theorem changeAspect_leavesRed {a : Aspect} {s : State} (ha : a ≠ .red) (hwas : s.lamp.aspect = .red) :
    changeAspect a s = darkTimers (generatorStopped (aspectFormed a s)) := by
  rw [changeAspect_eq, if_neg ha, if_pos hwas]

end Sys2Proof.Machine
end

section
/-! What a new aspect and a new sound make of the Lamp Controller: obligation O41 (R62, R89, R90, R94, R97 to R99, R102,
R113). -/

namespace Sys2Proof.Machine

set_option Elab.async false

/-! ## RED, and any other aspect -/

/-- RED is taken, its dark timers set and the generator started in phase A, the lamps of phase A not yet lit. -/
def redStarted (s : State) : State :=
  let formed := aspectFormed .red s
  { formed with lamp := { formed.lamp with
    darkEnd := ⟨darkOnRed formed .north, darkOnRed formed .south⟩, phase := some .a
    phaseEnd := some (after s.now (halfPeriod s)) } }

/-- The lamps of phase A are lit as RED is taken, red proved not yet formed of them. -/
@[irreducible] def redLit (s : State) : State := forEach 12 (openLit .a) (redStarted s)

theorem redLit_eq (s : State) : redLit s = forEach 12 (openLit .a) (redStarted s) := by
  delta redLit
  rfl

theorem changeAspect_toRed (s : State) : changeAspect .red s = formBothRed (redLit s) := by
  rw [changeAspect_red, darkTimers_underRed (aspectFormed_aspect .red s), redLit_eq, redStarted,
    ← aspectFormed_half .red s,
    ← aspectFormed_now .red s]
  rfl

/-- Another aspect than RED leaves the Lamp Controller as red proved was formed, its generator stopped, and its dark
timers discarded where RED was left. -/
theorem changeAspect_lamp_notRed {a : Aspect} (ha : a ≠ .red) (s : State) : ∃ darkEnd : PerSide (Option Time),
    (changeAspect a s).lamp =
      { (aspectFormed a s).lamp with phase := none, phaseEnd := none, darkEnd := darkEnd } ∧
    (s.lamp.aspect = .red → darkEnd = ⟨none, none⟩) := by
  by_cases hwas : s.lamp.aspect = .red
  · have haspect : (generatorStopped (aspectFormed a s)).lamp.aspect ≠ .red :=
      ne_of_eq_of_ne (aspectFormed_aspect a s) ha
    refine ⟨⟨none, none⟩, ?_, fun _ => rfl⟩
    rw [changeAspect_leavesRed ha hwas, darkTimers_elsewhere haspect, conditionEnd_eq, conditionEnd_eq]
    rfl
  · refine ⟨(aspectFormed a s).lamp.darkEnd, ?_, fun h => absurd h hwas⟩
    rw [changeAspect_calm ha hwas]
    rfl

theorem redLit_lighting (s : State) : Lighting .a (redStarted s) (redLit s) := by
  rw [redLit_eq]
  exact lightLamps_lighting .a (redStarted s)

theorem redStarted_lamps (s : State) : (redStarted s).lamp.lamps = (aspected .red s).lamp.lamps :=
  aspectFormed_lamps .red s

theorem redStarted_frame (s : State) :
    Frame [.lamp, .handedOn, .redProved, .barriers, .faults] s (redStarted s) := (aspectFormed_frame .red s).withLamp

theorem changeAspect_tables (a : Aspect) (s : State) : (changeAspect a s).tm.tables = s.tm.tables :=
  (changeAspect_frame a s).tables (by decide)

/-! ## The lamps (R89, R94, R97) -/

/-- One lamp as an aspect is taken: it is given its mode, and where it flashes in phase A its lit interval is opened. -/
structure LampTaken (s : State) (a : Aspect) (i : Fin 12) (r : LampRecord) : Prop where
  mode : r.mode = aspectMode (s.lampEntry i) a
  since : r.modeSince = (s.lamp.lamps[i].given (aspectMode (s.lampEntry i) a) s.now).modeSince
  stuck : r.stuckOn = (s.lamp.lamps[i].given (aspectMode (s.lampEntry i) a) s.now).stuckOn
  lit : aspectMode (s.lampEntry i) a = .flash → s.tm.tables.lamp[i].phase = .a → LitNow s r
  unlit : ¬ (aspectMode (s.lampEntry i) a = .flash ∧ s.tm.tables.lamp[i].phase = .a) →
    r = s.lamp.lamps[i].given (aspectMode (s.lampEntry i) a) s.now

/-- Under RED alone a lamp flashes (R89). -/
theorem aspect_of_flash {s : State} {i : Fin 12} {a : Aspect} (h : aspectMode (s.lampEntry i) a = .flash) : a = .red := by
  rw [aspectMode_eq] at h
  split at h
  next hred => exact hred.2.1
  next => split at h <;> exact absurd h (by decide)

theorem changeAspect_takes (a : Aspect) (s : State) (i : Fin 12) :
    LampTaken s a i (changeAspect a s).lamp.lamps[i] := by
  by_cases ha : a = .red
  · subst ha
    have hlamps : (changeAspect .red s).lamp.lamps = (redLit s).lamp.lamps := by rw [changeAspect_toRed, formBothRed_lamp]
    have hgiven : (redStarted s).lamp.lamps[i] = s.lamp.lamps[i].given (aspectMode (s.lampEntry i) .red) s.now := by
      rw [redStarted_lamps, aspected_lamps]
    have hflash : FlashesIn .a (redStarted s) i ↔
        aspectMode (s.lampEntry i) .red = .flash ∧ s.tm.tables.lamp[i].phase = .a := by
      rw [FlashesIn, hgiven, LampRecord.given_mode, (redStarted_frame s).tables (by decide)]
    have hlit (hf : FlashesIn .a (redStarted s) i) : LitNow s (redLit s).lamp.lamps[i] := by
      have hnow := lightLamps_litNow hf
      rw [← redLit_eq] at hnow
      rw [LitNow, halfPeriod_of_tables ((redStarted_frame s).tables (by decide)), (redStarted_frame s).now (by decide)]
        at hnow
      exact hnow
    have hfrom := (redLit_lighting s).lamp i
    rw [hlamps]
    refine ⟨hfrom.mode.trans ?_, hfrom.since.trans ?_, hfrom.stuck.trans ?_,
      fun hm hp => hlit (hflash.2 ⟨hm, hp⟩), fun hn => (hfrom.others (mt hflash.1 hn)).trans hgiven⟩
    · rw [hgiven, LampRecord.given_mode]
    · rw [hgiven]
    · rw [hgiven]
  · obtain ⟨darkEnd, hlamp, -⟩ := changeAspect_lamp_notRed ha s
    have hgiven : (changeAspect a s).lamp.lamps[i] =
        s.lamp.lamps[i].given (aspectMode (s.lampEntry i) a) s.now := by
      rw [← aspected_lamps, ← aspectFormed_lamps, hlamp]
    rw [hgiven]
    exact ⟨LampRecord.given_mode .., rfl, rfl, fun hm => absurd (aspect_of_flash hm) ha, fun _ => rfl⟩

/-- A lamp whose mode changes has no interval of before; one darkened is not proved, one lit is not stuck on. -/
theorem LampTaken.changed {s : State} {a : Aspect} {i : Fin 12} {r : LampRecord} (h : LampTaken s a i r)
    (hm : aspectMode (s.lampEntry i) a ≠ s.lamp.lamps[i].mode) : r.modeSince = s.now ∧
      (aspectMode (s.lampEntry i) a = .dark → r.proved = false ∧ r.intervalStart = none) ∧
      (aspectMode (s.lampEntry i) a ≠ .dark → r.stuckOn = false) ∧
      (aspectMode (s.lampEntry i) a = .flash → s.tm.tables.lamp[i].phase = .b → r.intervalStart = none) := by
  obtain ⟨-, hsince, hstuck, -, hunlit⟩ := h
  rw [LampRecord.given_other hm] at hsince hstuck hunlit
  have hdark (hd : aspectMode (s.lampEntry i) a = .dark) : r = s.lamp.lamps[i].withMode .dark s.now := by
    rw [hd] at hunlit
    exact hunlit fun hf => absurd hf.1 (by decide)
  refine ⟨?_, fun hd => ?_, fun hd => ?_, fun _ hb => ?_⟩
  · rw [hsince, LampRecord.withMode_since]
  · rw [hdark hd, LampRecord.withMode_dark]
    exact ⟨rfl, rfl⟩
  · rw [hstuck, LampRecord.withMode_lit hd]
  · rw [hunlit fun hf => absurd (hb.symm.trans hf.2) (by decide), LampRecord.withMode_interval]

/-! ## The aspect and the sound held, and the generator (R62, R90) -/

theorem changeAspect_held (a : Aspect) (s : State) :
    (changeAspect a s).lamp.aspect = a ∧ (changeAspect a s).lamp.sound = s.lamp.sound := by
  by_cases ha : a = .red
  · subst ha
    have hframe : Frame [.lamp, .redProved, .barriers, .faults, .newFault] (redStarted s) (changeAspect .red s) := by
      rw [changeAspect_toRed]
      exact ((redLit_lighting s).frame.mono (by decide)).step (formBothRed_frame _)
    exact ⟨(hframe.aspect (by decide)).trans (aspectFormed_aspect .red s),
      (hframe.sound (by decide)).trans (aspectFormed_sound .red s)⟩
  · obtain ⟨darkEnd, hlamp, -⟩ := changeAspect_lamp_notRed ha s
    rw [hlamp]
    exact ⟨aspectFormed_aspect a s, aspectFormed_sound a s⟩

theorem redLit_lamp (s : State) : (redLit s).lamp = { (redStarted s).lamp with lamps := (redLit s).lamp.lamps } :=
  (redLit_lighting s).rest

theorem changeAspect_red_generator (s : State) : (changeAspect .red s).lamp.phase = some .a ∧
    (changeAspect .red s).lamp.phaseEnd = some (after s.now (halfPeriod s)) := by
  rw [changeAspect_toRed, formBothRed_lamp, redLit_lamp]
  exact ⟨rfl, rfl⟩

/-! ## Red proved and the dark timers (R98, R99) -/

theorem changeAspect_redProved (a : Aspect) (s : State) (side : Side) :
    (changeAspect a s).lamp.redProved.get side = true ↔ SideLit (changeAspect a s) side := by
  rw [← sideHasRed_iff]
  by_cases ha : a = .red
  · subst ha
    have hsame := formBothRed_frame (redLit s)
    rw [changeAspect_toRed, formBothRed_get,
      sideHasRed_congr (s := redLit s) (hsame.tables (by decide)) (by rw [formBothRed_lamp])]
  · obtain ⟨darkEnd, hlamp, -⟩ := changeAspect_lamp_notRed ha s
    have htables : (changeAspect a s).tm.tables = (aspected a s).tm.tables :=
      (changeAspect_tables a s).trans ((aspected_frame a s).tables (by decide)).symm
    rw [sideHasRed_congr (s := aspected a s) htables (by rw [hlamp, aspectFormed_lamps]), ← formBothRed_get, hlamp,
      aspectFormed_eq]

/-- A side without red proved under RED has its dark timer running for two flash periods from now. -/
theorem changeAspect_red_dark {s : State} {side : Side} (h : (changeAspect .red s).lamp.redProved.get side = false) :
    (changeAspect .red s).lamp.darkEnd.get side = some (after s.now (twoFlashPeriods s)) := by
  rw [changeAspect_toRed, formBothRed_get] at h
  have hframe : Frame [.lamp, .redProved, .handedOn, .barriers, .faults, .newFault] s (redLit s) :=
    ((redStarted_frame s).mono (by decide)).trans ((redLit_lighting s).frame.mono (by decide))
  have htime : after s.now (twoFlashPeriods s) = after (redLit s).now (twoFlashPeriods (redLit s)) := by
    rw [hframe.now (by decide), twoFlashPeriods, twoFlashPeriods, halfPeriod_of_tables (hframe.tables (by decide))]
  have hformed : after (aspectFormed .red s).now (twoFlashPeriods (aspectFormed .red s)) =
      after s.now (twoFlashPeriods s) := by
    rw [aspectFormed_now, twoFlashPeriods, aspectFormed_half, ← twoFlashPeriods]
  rw [changeAspect_toRed, formBothRed_darkEnd]
  refine formedDark_underRed ?_ h htime fun hred => ?_
  · rw [redLit_lamp]
    exact aspectFormed_aspect .red s
  · rw [redLit_lamp] at hred ⊢
    have hdark : (redStarted s).lamp.darkEnd.get side = darkOnRed (aspectFormed .red s) side := by cases side <;> rfl
    have hlost : (aspectFormed .red s).lamp.redProved.get side = false := hred
    refine hdark.trans ?_
    rw [darkOnRed, hlost, if_neg Bool.false_ne_true, hformed]

theorem changeAspect_leavesRed_dark {a : Aspect} {s : State} (ha : a ≠ .red) (hwas : s.lamp.aspect = .red) (side : Side) :
    (changeAspect a s).lamp.darkEnd.get side = none := by
  obtain ⟨darkEnd, hlamp, hnone⟩ := changeAspect_lamp_notRed ha s
  rw [hlamp, hnone hwas]
  cases side <;> rfl

/-! ## The faults that end as RED is left (R97, R99) -/

theorem conditionEnd_faults_congr {s t : State} (h : s.faults = t.faults) (c : FaultCode) (i : Option Nat) :
    (conditionEnd c i s).faults = (conditionEnd c i t).faults := by
  rw [conditionEnd_eq, conditionEnd_eq, h]

/-- ROAD_SIDE_DARK of a side that ends after red proved of it is formed may as well end before. -/
theorem roadSideDark_ends_formRed (side : Side) (s : State) :
    (conditionEnd .roadSideDark (some (sideNumber side)) (formRed side s)).faults =
      (conditionEnd .roadSideDark (some (sideNumber side)) s).faults := by
  rcases formRed_faults side s with h | h
  · exact conditionEnd_faults_congr h _ _
  · rw [conditionEnd_faults_congr h, conditionEnd_idem]

/-- ROAD_SIDE_DARK of both sides has ended. -/
def bothDarkEnded (s : State) : State := conditionEnd .roadSideDark (some 1) (conditionEnd .roadSideDark (some 0) s)

theorem bothDarkEnded_congr {s t : State} (h : s.faults = t.faults) : (bothDarkEnded s).faults = (bothDarkEnded t).faults :=
  conditionEnd_faults_congr (conditionEnd_faults_congr h _ _) _ _

theorem bothDarkEnded_formBothRed (s : State) : (bothDarkEnded (formBothRed s)).faults = (bothDarkEnded s).faults := by
  have hswap (u : State) : bothDarkEnded u =
      conditionEnd .roadSideDark (some 0) (conditionEnd .roadSideDark (some 1) u) :=
    conditionEnd_comm (.inr (by decide)) u
  calc (bothDarkEnded (formRed .south (formRed .north s))).faults
      = (conditionEnd .roadSideDark (some 0) (conditionEnd .roadSideDark (some 1) (formRed .north s))).faults := by
        rw [hswap]
        exact conditionEnd_faults_congr (roadSideDark_ends_formRed .south _) _ _
    _ = (bothDarkEnded s).faults := by
        rw [← hswap]
        exact conditionEnd_faults_congr (roadSideDark_ends_formRed .north _) _ _

/-- RED is left: the generator is stopped and both dark timers are discarded. -/
def redLeft (a : Aspect) (s : State) : State :=
  { aspectFormed a s with lamp := { (aspectFormed a s).lamp with
    phase := none, phaseEnd := none, darkEnd := ⟨none, none⟩ } }

theorem changeAspect_leavesRed_ended {a : Aspect} {s : State} (ha : a ≠ .red) (hwas : s.lamp.aspect = .red) :
    changeAspect a s = bothDarkEnded (redLeft a s) := by
  have haspect : (generatorStopped (aspectFormed a s)).lamp.aspect ≠ .red := ne_of_eq_of_ne (aspectFormed_aspect a s) ha
  rw [changeAspect_leavesRed ha hwas, darkTimers_elsewhere haspect]
  rfl

theorem changeAspect_leavesRed_faults {a : Aspect} {s : State} (ha : a ≠ .red) (hwas : s.lamp.aspect = .red) :
    (changeAspect a s).faults = (bothDarkEnded (forEach 12 (fun i v =>
      stuckEnds i s.lamp.lamps[i].mode (aspectMode (s.lampEntry i) a) v) s)).faults := by
  rw [changeAspect_leavesRed_ended ha hwas]
  refine (bothDarkEnded_congr (s := redLeft a s) (t := aspectFormed a s) rfl).trans ?_
  rw [aspectFormed_eq, bothDarkEnded_formBothRed, aspected_eq]
  exact bothDarkEnded_congr (giveModes_faults _ rfl)

/-! ## Taking the aspect and the sound (R62, R102) -/

/-- Four cases, as the aspect and the sound handed on are those held or not. -/
theorem takeAspect_eq (s : State) : takeAspect s =
    if s.crossing.aspect = s.lamp.aspect then
      if s.crossing.sound = s.lamp.sound then s else changeSound s.crossing.sound s
    else if s.crossing.sound = s.lamp.sound then changeAspect s.crossing.aspect s
      else changeSound s.crossing.sound (changeAspect s.crossing.aspect s) := by
  have hcrossing := (changeAspect_frame s.crossing.aspect s).crossing (by decide)
  have hsound := (changeAspect_held s.crossing.aspect s).2
  unfold takeAspect
  dsimp only
  split
  · rfl
  · rw [hcrossing, hsound]

theorem changeSound_after_changeAspect (on : Bool) (a : Aspect) (s : State) : changeSound on (changeAspect a s) =
    { changeAspect a s with lamp := { (changeAspect a s).lamp with
      sound := on, audible := (changeAspect a s).lamp.audible.map fun x => { x with soundSince := s.now } } } := by
  rw [← (changeAspect_frame a s).now (by decide)]
  rfl

/-! ## The audible warnings (R102) -/

theorem proves_iff (x : ScanResult) : x.proves = true ↔ x.cls = .inRange ∧ x.overrange = false := by
  simp [ScanResult.proves]

/-- The audible warning `i` has counted `n` unproved results running. -/
def audibleCounts (s : State) (i : Fin 2) (n : Nat) : State :=
  { s with lamp := { s.lamp with audible := s.lamp.audible.set i { s.lamp.audible[i] with unproved := n } } }

section
variable {s : State} {i : Fin 2} {x : ScanResult}

/-- A result of a warning is judged where it starts while the sound is on. -/
def AudibleJudged (s : State) (i : Fin 2) (x : ScanResult) : Prop :=
  s.lamp.sound = true ∧ reached x.startTime s.lamp.audible[i].soundSince = true

theorem audibleResult_unjudged (h : ¬ AudibleJudged s i x) : audibleResult i x s = s :=
  if_neg fun hj => h ((Bool.and_eq_true _ _).mp hj)

theorem audibleResult_proves (h : AudibleJudged s i x) (hp : x.proves = true) :
    audibleResult i x s = conditionEnd .audibleFail (some i.val) (audibleCounts s i 0) :=
  (if_pos ((Bool.and_eq_true _ _).mpr h)).trans (if_pos hp)

theorem audibleResult_unproved (h : AudibleJudged s i x) (hp : ¬ x.proves = true) : audibleResult i x s =
    if s.lamp.audible[i].unproved < 2 ∧ s.lamp.audible[i].unproved + 1 = 2 then
      conditionPresent .audibleFail (some i.val) (audibleCounts s i 2)
    else audibleCounts s i (min 2 (s.lamp.audible[i].unproved + 1)) :=
  (if_pos ((Bool.and_eq_true _ _).mpr h)).trans (if_neg hp)

end

/-- The four ways red proved of a side is formed, with its condition written out. -/
theorem formRed_cases (s : State) (side : Side) :
    let forms (red : Bool) (darkEnd : PerSide (Option Time)) : State := { s with lamp := { s.lamp with
      redProved := s.lamp.redProved.set side red, darkEnd := darkEnd } }
    ((SideLit s side ↔ s.lamp.redProved.get side = true) → formRed side s = s) ∧
    (SideLit s side → s.lamp.redProved.get side = false → formRed side s = gateSide side true
      (conditionEnd .roadSideDark (some (sideNumber side)) (forms true (s.lamp.darkEnd.set side none)))) ∧
    (¬ SideLit s side → s.lamp.redProved.get side = true → s.lamp.aspect = .red → formRed side s = gateSide side false
      (forms false (s.lamp.darkEnd.set side (some (after s.now (twoFlashPeriods s)))))) ∧
    (¬ SideLit s side → s.lamp.redProved.get side = true → s.lamp.aspect ≠ .red →
      formRed side s = gateSide side false (forms false s.lamp.darkEnd)) := by
  rw [← sideHasRed_iff, Bool.not_eq_true]
  exact ⟨fun h => formRed_same (Bool.eq_iff_iff.2 h), formRed_gained, formRed_lost_underRed, formRed_lost_elsewhere⟩

/-- Settles O41, by the stages of `changeAspect` and the cases of each operation that it calls. -/
theorem aspectAndSoundAreTaken : Obligations.AspectAndSoundAreTaken := by
  refine ⟨fun s a => ?_, fun s i m => ⟨setMode_same, fun h hd => ?_, fun h hd => ?_⟩, fun s side k hk => ?_,
    fun _ => rfl,
    fun s => ⟨fun ha hs => ?_, fun ha hs => ?_, fun ha hs => ?_, fun ha hs => ?_⟩,
    fun s i x => ⟨audibleResult_unjudged, fun hj hp => ?_, fun hj hp hn => ?_, fun hj hp hn => ?_, fun hj hp hn => ?_⟩⟩
  · intro u half table mode
    have hmode : mode = fun i => aspectMode (s.lampEntry i) a := funext fun i => (aspectMode_eq s i a).symm
    have hhalf : half = halfPeriod s := rfl
    have htables : u.tm.tables = s.tm.tables := changeAspect_tables a s
    have hu : u = changeAspect a s := rfl
    clear_value mode half u
    subst hmode hhalf hu
    refine ⟨(changeAspect_held a s).1, (changeAspect_held a s).2, fun i => ?_, fun ha => ?_, fun ha => ?_, fun side => ?_,
      fun ha hwas => changeAspect_leavesRed_faults ha hwas, ?_⟩
    · have htaken := changeAspect_takes a s i
      refine ⟨htaken.mode, htaken.changed, fun hm => ?_, htaken.lit⟩
      exact htaken.since.trans (congrArg LampRecord.modeSince (LampRecord.given_same hm s.now))
    · subst ha; exact changeAspect_red_generator s
    · obtain ⟨darkEnd, hlamp, -⟩ := changeAspect_lamp_notRed ha s
      rw [hlamp]
      exact ⟨rfl, rfl⟩
    · refine ⟨?_, fun ha => ?_, fun ha hwas => changeAspect_leavesRed_dark ha hwas side⟩
      · have hlit := changeAspect_redProved a s side
        rw [SideLit, htables] at hlit
        exact hlit
      · subst ha; exact changeAspect_red_dark
    · intro formed dark
      have hformed : formed = aspectFormed a s := by rw [aspectFormed_eq, aspected_eq]; rfl
      have hdark : dark = darkOnRed (aspectFormed a s) := by
        funext side
        rw [darkOnRed, aspectFormed_now, twoFlashPeriods, aspectFormed_half, ← hformed]
      clear_value dark
      clear_value formed
      subst hformed hdark
      refine ⟨fun ha => ?_, changeAspect_calm, changeAspect_leavesRed_ended⟩
      subst ha
      rw [← redStarted, ← redLit_eq]
      exact changeAspect_toRed s
  · subst hd; exact setMode_darkened h rfl
  · rw [setMode_lit h hd, LampRecord.withMode_lit hd]; rfl
  · have hk' : k = sideNumber side := by cases side <;> exact hk
    subst hk'
    exact formRed_cases s side
  · rw [takeAspect_eq, if_pos ha, if_pos hs]
  · rw [takeAspect_eq, if_neg ha, if_pos hs]
  · rw [takeAspect_eq, if_pos ha, if_neg hs]; rfl
  · rw [takeAspect_eq, if_neg ha, if_neg hs]
    exact changeSound_after_changeAspect ..
  · exact audibleResult_proves hj ((proves_iff x).2 hp)
  · rw [audibleResult_unproved hj (mt (proves_iff x).1 hp), hn]; rfl
  · rw [audibleResult_unproved hj (mt (proves_iff x).1 hp), hn]; rfl
  · rw [audibleResult_unproved hj (mt (proves_iff x).1 hp), if_neg (by omega), Nat.min_eq_left (by omega)]; rfl

end Sys2Proof.Machine
end

section
/-! SUPPORT. What holds at the end of every event (R62, R78, R85, R134). -/

namespace Sys2Proof.Machine

set_option Elab.async false

/-! ## What the blocks handed one another is taken (R85, R134, R145, R153) -/

theorem takeAlarm_handed (s : State) : (takeAlarm s).handed = { s.handed with alarm := false } := by
  have hfailed (t : State) : (enterFailed t).handed = t.handed := (enterFailed_frame t).handed (by decide)
  unfold takeAlarm
  dsimp only
  split
  · split
    · exact hfailed _
    · exact hfailed _
    · exact hfailed _
    · exact hfailed _
    · rfl
    · rfl
  · rfl

theorem sequencerTurn_handed (before s : State) :
    (sequencerTurn before s).handed = { s.handed with alarm := false } := by
  rw [← takeAlarm_handed]
  unfold sequencerTurn
  dsimp only
  generalize takeAlarm s = t
  have hite {c : Prop} [Decidable c] {u v : State} (hu : u.handed = t.handed) (hv : v.handed = t.handed) :
      (if c then u else v).handed = t.handed := by
    split
    · exact hu
    · exact hv
  have hmoved : (moveOn t).handed = t.handed := (moveOn_frame t).handed (by decide)
  split
  · exact hite ((enterClosing_frame t).handed (by decide)) rfl
  · exact hite ((reenterClosing_frame t).handed (by decide)) (hite hmoved rfl)
  · exact hite hmoved rfl
  · exact hite ((judgePermit_frame t).handed (by decide)) rfl
  · rfl
  · rfl

theorem crossingTurn_handed (before s : State) : (crossingTurn before s).handed = { s.handed with alarm := false } := by
  rw [crossingTurn, (judgeProved_frame _).handed (by decide), (takeAspect_frame _).handed (by decide),
    sequencerTurn_handed]

theorem moveQuietEnd_handed (renewed : Bool) (s : State) : (moveQuietEnd renewed s).handed = s.handed :=
  (moveQuietEnd_frame renewed s).handed (by decide)

theorem scannerTurn_handed (before s : State) : (scannerTurn before s).handed = { s.handed with wheel := false } := by
  unfold scannerTurn
  dsimp only
  rw [moveQuietEnd_handed]
  split
  · exact (wakeScanner_frame _).handed (by decide)
  · rfl

theorem reportTurn_handed (s : State) : (reportTurn s).handed = { s.handed with status := false } := by
  unfold reportTurn
  dsimp only
  split
  · exact (produceStatus_frame _).handed (by decide)
  · rfl

theorem finish_handed (before s : State) : (finish before s).handed = .none := by
  rw [finish, reportTurn_handed, reportTurn_handed, scannerTurn_handed, crossingTurn_handed]
  rfl

/-! ## The aspect and the sound are taken (R62) -/

theorem takeAspect_handedOn (s : State) :
    (takeAspect s).lamp.aspect = s.crossing.aspect ∧ (takeAspect s).lamp.sound = s.crossing.sound := by
  have htaken := changeAspect_held s.crossing.aspect s
  rw [takeAspect_eq]
  by_cases ha : s.crossing.aspect = s.lamp.aspect
  · rw [if_pos ha]
    by_cases hs : s.crossing.sound = s.lamp.sound
    · rw [if_pos hs]; exact ⟨ha.symm, hs.symm⟩
    · rw [if_neg hs]; exact ⟨ha.symm, rfl⟩
  · rw [if_neg ha]
    by_cases hs : s.crossing.sound = s.lamp.sound
    · rw [if_pos hs]; exact ⟨htaken.1, htaken.2.trans hs.symm⟩
    · rw [if_neg hs]; exact ⟨htaken.1, rfl⟩

/-- Forming the proved indication leaves the aspect and the sound of the Sequencer. -/
theorem judgeProved_handsOn (s : State) : (judgeProved s).crossing.aspect = s.crossing.aspect ∧
    (judgeProved s).crossing.sound = s.crossing.sound ∧ (judgeProved s).lamp = s.lamp := ⟨rfl, rfl, rfl⟩

theorem crossingTurn_handedOn (before s : State) :
    (crossingTurn before s).lamp.aspect = (crossingTurn before s).crossing.aspect ∧
    (crossingTurn before s).lamp.sound = (crossingTurn before s).crossing.sound := by
  obtain ⟨haspect, hsound, hlamp⟩ := judgeProved_handsOn (takeAspect (sequencerTurn before s))
  rw [crossingTurn, haspect, hsound, hlamp, (takeAspect_frame _).crossing (by decide)]
  exact takeAspect_handedOn _

/-! ## The proved indication (R78) -/

/-- The proved indication is yes exactly where the crossing is CLOSED, down and red. -/
def ProvedIndicated (s : State) : Prop :=
  s.crossing.proved = true ↔ s.crossing.state = .closed ∧ AllProved .down s ∧
    s.lamp.redProved.north = true ∧ s.lamp.redProved.south = true

theorem judgeProved_indicates (s : State) : ProvedIndicated (judgeProved s) := by
  have hdown : AllProved .down (judgeProved s) ↔ AllProved .down s := Iff.rfl
  rw [ProvedIndicated, hdown, ← allProved_iff]
  simp [judgeProved, and_assoc]

/-! ## The scanner is quiet in calm alone (R134) -/

theorem calm_iff (s : State) : calm s = true ↔ s.crossing.state = .isOpen ∧
    ∀ i : Fin 4, s.tm.tables.approach[i].inService = true → s.approaches[i].state = .idle := by
  simp only [calm, Bool.and_eq_true, beq_iff_eq, List.all_eq_true, List.mem_finRange, forall_const, Bool.or_eq_true,
    Bool.not_eq_true', ← Bool.not_eq_true, ← imp_iff_not_or]

theorem moveQuietEnd_calm {renewed : Bool} {s : State} (h : (moveQuietEnd renewed s).scan.quietEnd ≠ none) :
    calm (moveQuietEnd renewed s) = true := by
  unfold moveQuietEnd at h ⊢
  split
  next hcalm =>
    split
    · exact hcalm
    · exact hcalm
  next hcalm =>
    rw [if_neg hcalm] at h
    exact absurd rfl h

/-! ## The end of the event -/

/-- The Report Unit's turns at the end of an event move nothing that the others have settled. -/
theorem finish_eq_reported (before s : State) :
    Frame [.ports, .newFault, .overflow, .status, .handed] (scannerTurn before (crossingTurn before s)) (finish before s) :=
  (reportTurn_frame _).trans (reportTurn_frame _)

theorem finish_frame_of_crossingTurn (before s : State) :
    Frame [.ports, .newFault, .overflow, .status, .handed, .rate] (crossingTurn before s) (finish before s) :=
  ((scannerTurn_frame ..).mono (by decide)).step (finish_eq_reported before s)

theorem finish_handedOn (before s : State) : (finish before s).lamp.aspect = (finish before s).crossing.aspect ∧
    (finish before s).lamp.sound = (finish before s).crossing.sound := by
  have hframe := finish_frame_of_crossingTurn before s
  rw [hframe.lamp (by decide), hframe.crossing (by decide)]
  exact crossingTurn_handedOn before s

theorem finish_provedIndicated (before s : State) : ProvedIndicated (finish before s) := by
  have hframe := finish_frame_of_crossingTurn before s
  have hproved : ProvedIndicated (crossingTurn before s) := judgeProved_indicates _
  rw [ProvedIndicated, AllProved, hframe.crossing (by decide), hframe.lamp (by decide), hframe.barriers (by decide),
    hframe.tables (by decide)]
  exact hproved

theorem finish_quietEnd {before s : State} (h : (finish before s).scan.quietEnd ≠ none) :
    calm (finish before s) = true := by
  have hframe := finish_eq_reported before s
  rw [hframe.scanner (by decide) (by decide) (by decide) (by decide)] at h
  rw [calm, hframe.crossing (by decide), hframe.tables (by decide), hframe.approaches (by decide)]
  exact moveQuietEnd_calm h

/-- Every event of a running part ends. -/
theorem exec_finishes {c : Instr} {s u : State} (hrun : Running s) (hc : c.elapsed ≠ none) (hu : exec c s = .next u) :
    ∃ before w, u = finish before w := by
  cases c
  case powerUp | resetLineHeld | resetLineRelease | supplyFailure => exact absurd rfl hc
  case contactChange dt i d closed =>
    refine ⟨s.advance dt, contactChanged i d closed (s.advance dt), (Host.Outcome.next.inj hu).symm.trans ?_⟩
    rw [if_pos (State.alive_of_running hrun)]
    exact event_of_running hrun dt _
  all_goals exact ⟨_, _, (Host.Outcome.next.inj hu).symm.trans (event_of_running hrun _ _)⟩

/-- Settles O48: whatever the work of an event was, its end leaves the blocks so. -/
theorem everyEventEndsSettled : Obligations.EveryEventEndsSettled := by
  intro c s u hrun hc hu
  obtain ⟨before, w, rfl⟩ := exec_finishes hrun hc hu
  obtain ⟨haspect, hsound⟩ := finish_handedOn before w
  exact ⟨finish_handed before w, haspect, hsound, finish_provedIndicated before w,
    fun hq => (calm_iff _).1 (finish_quietEnd hq)⟩

end Sys2Proof.Machine
end

section
/-! CLOSE_REQUEST and RESTORE: obligation O14 (R80, R81). -/

namespace Sys2Proof.Machine

set_option Elab.async false

/-! ## CLOSE_REQUEST (R80) -/

theorem requestArgument_over {n : Nat} (h : 1 < n) : requestArgument n = none := by
  match n with
  | n + 2 => rfl

theorem requestArgument_flagByte (on : Bool) : requestArgument (flagByte on).toNat = some on := by
  cases on <;> rfl

theorem outOfUse_iff (s : State) : outOfUse s = true ↔ s.crossing.state = .outOfUse := by simp [outOfUse]

/-- An argument of 0 or 1 is a flag. -/
theorem exists_flagByte {arg : Byte} (h : arg.toNat ≤ 1) : ∃ on, arg = flagByte on := by
  obtain h0 | h1 : arg.toNat = 0 ∨ arg.toNat = 1 := by omega
  · exact ⟨false, BitVec.eq_of_toNat_eq h0⟩
  · exact ⟨true, BitVec.eq_of_toNat_eq h1⟩

section
variable {q : QueuedCommand} {s : State}

theorem ownCloseRequest_over (h : 1 < q.arg 0) : ownCloseRequest q s = refuse .refusedArgument s := by
  rw [ownCloseRequest, requestArgument_over h]

variable {on : Bool} (harg : requestArgument (q.arg 0) = some on)
include harg

theorem ownCloseRequest_outOfUse (h : s.crossing.state = .outOfUse) :
    ownCloseRequest q s = refuse .refusedState s := by
  rw [ownCloseRequest, harg]
  exact if_pos ((outOfUse_iff s).2 h)

theorem ownCloseRequest_asked (h : s.crossing.state ≠ .outOfUse) (hon : s.crossing.closureRequest = on) :
    ownCloseRequest q s = answer .noEffect s := by
  rw [ownCloseRequest, harg]
  exact (if_neg (mt (outOfUse_iff s).1 h)).trans (if_pos hon.symm)

theorem ownCloseRequest_taken (h : s.crossing.state ≠ .outOfUse) (hon : s.crossing.closureRequest ≠ on) :
    ownCloseRequest q s = answer .done (s.setCrossing { s.crossing with closureRequest := on }) := by
  rw [ownCloseRequest, harg]
  exact (if_neg (mt (outOfUse_iff s).1 h)).trans (if_neg (Ne.symm hon))

end

/-! ## RESTORE (R81) -/

section
variable (q : QueuedCommand) {s : State}

theorem ownRestore_notFailed (h : s.crossing.state ≠ .failed) : ownRestore q s = answer .noEffect s :=
  if_pos (bne_iff_ne.2 h)

variable (h : s.crossing.state = .failed)
include h

theorem ownRestore_alarm (ha : AlarmHeld s) : ownRestore q s = refuse .refusedState s := by
  have hstate : ¬ (s.crossing.state != .failed) = true := fun hne => bne_iff_ne.1 hne h
  exact (if_neg hstate).trans (if_pos ((alarmPresent_iff s).2 ha))

theorem ownRestore_done (ha : ¬ AlarmHeld s) : ownRestore q s = answer .done (restored s) := by
  have hstate : ¬ (s.crossing.state != .failed) = true := fun hne => bne_iff_ne.1 hne h
  exact (if_neg hstate).trans (if_neg (mt (alarmPresent_iff s).1 ha))

end

theorem restored_down {s : State} (h : AllProved .down s) : restored s = restoreClosed s :=
  if_pos ((allProved_iff .down s).2 h)

theorem restored_notDown {s : State} (h : ¬ AllProved .down s) : restored s = reenterClosing s :=
  if_neg (mt (allProved_iff .down s).1 h)

/-- Settles O14, by the own work of each command in each of its cases. -/
theorem closeRequestAndRestore : Obligations.CloseRequestAndRestore := by
  refine ⟨fun s q dt arg hq => ?_, fun s q dt hq => ?_⟩
  · have hexec {reply : ReplyCode} {u : State}
        (hown : ownCloseRequest q (s.advance dt) = { state := u, code := reply, data := [] }) :
        exec (.closeRequest dt) s = .next (finish (s.advance dt) (answered q reply [] u)) :=
      congrArg Host.Outcome.next (hq.event_eq (c := .closeRequest) rfl rfl rfl hown)
    have harg : q.arg 0 = arg.toNat := hq.1.arg_eq 0
    have hflag {on : Bool} (h : arg = flagByte on) : requestArgument (q.arg 0) = some on := by
      rw [harg, h, requestArgument_flagByte]
    refine ⟨fun h => hexec (ownCloseRequest_over (harg ▸ h)), fun h hout => ?_,
      fun on h hout hon => hexec (ownCloseRequest_asked (hflag h) hout hon),
      fun on h hout hon => hexec (ownCloseRequest_taken (hflag h) hout hon)⟩
    obtain ⟨on, hon⟩ := exists_flagByte h
    exact hexec (ownCloseRequest_outOfUse (hflag hon) hout)
  · have hexec {reply : ReplyCode} {u : State}
        (hown : ownRestore q (s.advance dt) = { state := u, code := reply, data := [] }) :
        exec (.restore dt) s = .next (finish (s.advance dt) (answered q reply [] u)) :=
      congrArg Host.Outcome.next (hq.event_eq (c := .restore) rfl rfl rfl hown)
    have hdone {v : State} (h : s.crossing.state = .failed) (ha : ¬ AlarmHeld s) (hv : restored (s.advance dt) = v) :
        ownRestore q (s.advance dt) = answer .done v := hv ▸ ownRestore_done q h ha
    exact ⟨fun h => hexec (ownRestore_notFailed q h), fun h ha => hexec (ownRestore_alarm q h ha),
      fun h ha hd => hexec (hdone h ha (restored_down hd)), fun h ha hd => hexec (hdone h ha (restored_notDown hd))⟩

end Sys2Proof.Machine
end

section
/-! The steps of the two programs and re-entry: obligation O44 (R63, R65 to R67, R70 to R72, R75, R79). -/

namespace Sys2Proof.Machine

set_option Elab.async false

/-! ## One step (R63, R65) -/

/-- A step is entered: it stands at its number, and waits for nothing yet. -/
def stepEntered (n : Nat) (s : State) : State :=
  s.setCrossing { s.crossing with step := some n, stepWait := .none, waitEnd := none }

/-- A WAIT step is entered: its time runs. -/
def waitEntered (n count : Nat) (s : State) : State :=
  (stepEntered n s).setCrossing { (stepEntered n s).crossing with waitEnd := some (after s.now (count * 100)) }

section
variable {n : Nat} {k : ProgramStep} {rest : List ProgramStep} {s u : State}

theorem runSteps_finish (h : k.kind = .finish) : runSteps n (k :: rest) s = (s, true) := if_pos h

theorem runSteps_passes (hk : k.kind ≠ .finish) (he : stepEffect k (stepEntered n s) = (u, none)) :
    runSteps n (k :: rest) s = runSteps (n + 1) rest u := by
  rw [stepEntered] at he
  rw [runSteps, if_neg hk]
  dsimp only
  rw [he]

theorem runSteps_waits {w : StepWait} (hk : k.kind ≠ .finish) (he : stepEffect k (stepEntered n s) = (u, some w)) :
    runSteps n (k :: rest) s = (setWait w u, false) := by
  rw [stepEntered] at he
  rw [runSteps, if_neg hk]
  dsimp only
  rw [he]

/-! ## What each kind of step does at its entry (R63, R65 to R67) -/

theorem stepEffect_lowerEntry (h : k.kind = .lowerEntry) : stepEffect k s =
    (orderRole .entry .down s, if roleRed .entry (orderRole .entry .down s) then none else some .redProved) := by
  simp only [stepEffect, h]

theorem stepEffect_lowerExit (h : k.kind = .lowerExit) : stepEffect k s =
    (orderRole .exit .down s, if roleRed .exit (orderRole .exit .down s) then none else some .redProved) := by
  simp only [stepEffect, h]

theorem stepEffect_waitDown (h : k.kind = .waitDown) :
    stepEffect k s = (s, if allProved .down s then none else some .allDown) := by
  simp only [stepEffect, h]

theorem stepEffect_waitUp (h : k.kind = .waitUp) :
    stepEffect k s = (s, if allProved .up s then none else some .allUp) := by
  simp only [stepEffect, h]

end

/-- Ordering barriers leaves red proved, and the sides on which they stand. -/
theorem redOn_orderRole (role : BarrierRole) (d : BarrierEnd) (s : State) :
    roleRed role (orderRole role d s) = true ↔ RedOn role s := by
  have hframe := orderRole_frame role d s
  rw [roleRed_iff, RedOn, RedOn, hframe.tables (by decide), hframe.lamp (by decide)]

/-- A step that lowers a role orders it down, and passes where red is proved for it. -/
theorem runSteps_lowers {n : Nat} {k : ProgramStep} {rest : List ProgramStep} {s : State} {role : BarrierRole}
    (hk : k.kind ≠ .finish)
    (he : ∀ t, stepEffect k t =
      (orderRole role .down t, if roleRed role (orderRole role .down t) then none else some .redProved)) :
    (RedOn role s → runSteps n (k :: rest) s = runSteps (n + 1) rest (orderRole role .down (stepEntered n s))) ∧
    (¬ RedOn role s →
      runSteps n (k :: rest) s = (setWait .redProved (orderRole role .down (stepEntered n s)), false)) := by
  have hred : roleRed role (orderRole role .down (stepEntered n s)) = true ↔ RedOn role s :=
    redOn_orderRole role .down (stepEntered n s)
  constructor
  · intro h
    refine runSteps_passes hk ?_
    rw [he, if_pos (hred.2 h)]
  · intro h
    refine runSteps_waits hk ?_
    rw [he, if_neg (mt hred.1 h)]

/-- A step that waits for the barriers passes where they are proved. -/
theorem runSteps_awaits {n : Nat} {k : ProgramStep} {rest : List ProgramStep} {s : State} {d : BarrierEnd}
    {w : StepWait} (hk : k.kind ≠ .finish) (he : ∀ t, stepEffect k t = (t, if allProved d t then none else some w)) :
    (AllProved d s → runSteps n (k :: rest) s = runSteps (n + 1) rest (stepEntered n s)) ∧
    (¬ AllProved d s → runSteps n (k :: rest) s = (setWait w (stepEntered n s), false)) := by
  have hproved : allProved d (stepEntered n s) = true ↔ AllProved d s := allProved_iff d (stepEntered n s)
  constructor
  · intro h
    refine runSteps_passes hk ?_
    rw [he, if_pos (hproved.2 h)]
  · intro h
    refine runSteps_waits hk ?_
    rw [he, if_neg (mt hproved.1 h)]

/-! ## The two programs and their ends (R65, R72, R75) -/

section
variable {n : Nat} {s u : State}

theorem runClosing_stops (h : runSteps n (s.tm.tables.closing.toList.drop (n - 1)) s = (u, false)) :
    runClosing n s = u := by
  rw [runClosing, programTable, h]

theorem runClosing_ends (h : runSteps n (s.tm.tables.closing.toList.drop (n - 1)) s = (u, true)) :
    runClosing n s = enterClosed u := by
  rw [runClosing, programTable, h]

theorem runOpening_stops (h : runSteps n (s.tm.tables.opening.toList.drop (n - 1)) s = (u, false)) :
    runOpening n s = u := by
  rw [runOpening, programTable, h]

theorem runOpening_ends (h : runSteps n (s.tm.tables.opening.toList.drop (n - 1)) s = (u, true)) :
    runOpening n s = enterOpen u := by
  rw [runOpening, programTable, h]

end

/-! ## Re-entry (R70) -/

theorem StepKind.lowers_iff (k : StepKind) : k.lowers = true ↔ k = .lowerEntry ∨ k = .lowerExit := by
  simp [StepKind.lowers]

/-- The place of the first LOWER step. -/
theorem firstLower_eq {steps : List ProgramStep} {m : Nat} {k : ProgramStep} (hk : steps[m]? = some k)
    (hlower : k.kind.lowers = true) (hfirst : ∀ j k, j < m → steps[j]? = some k → ¬ k.kind.lowers = true) :
    firstLower steps = m := by
  obtain ⟨hm, rfl⟩ := List.getElem?_eq_some_iff.1 hk
  refine (List.findIdx_eq hm).2 ⟨hlower, fun j hj => ?_⟩
  exact Bool.eq_false_iff.2 (hfirst j _ hj (List.getElem?_eq_getElem (hj.trans hm)))

theorem reenterClosing_eq (s : State) {m : Nat} (hm : firstLower (runStepsOf s.tm.tables.closing.toList) = m) :
    reenterClosing s = runClosing (m + 1) (s.setCrossing { s.crossing.toClosing s.now with
      aspect := .red
      sound := s.crossing.sound ||
        ((runStepsOf s.tm.tables.closing.toList).take m).any fun k => k.kind == .soundOn }) := by
  subst hm
  rfl

/-- Settles O44, by the effect of each kind of step, the two ends of each program and the place of re-entry. -/
theorem programStepsRun : Obligations.ProgramStepsRun := by
  refine ⟨fun n k rest s => ?_, fun n s u => ⟨runClosing_stops, runClosing_ends, runOpening_stops, runOpening_ends⟩,
    fun s m => ?_⟩
  · intro c t passes waits red lowers
    have hpasses {u v : State} (hk : k.kind ≠ .finish) (he : stepEffect k (stepEntered n s) = (u, none)) (hu : u = v) :
        passes v := hu ▸ runSteps_passes hk he
    have ht : t = stepEntered n s := rfl
    clear_value t
    subst ht
    refine ⟨rfl, runSteps_finish, fun h => ?_, fun h => ?_, fun h => ?_, fun h => ?_, fun h => ?_, fun h => ?_,
      fun h => ?_, fun h => ?_, fun h => ?_, fun h => ?_, fun h => ?_, fun h => ?_⟩
    · exact hpasses (by simp [h]) (u := setAspect .amber (stepEntered n s)) (by simp only [stepEffect, h]) rfl
    · exact hpasses (by simp [h]) (u := setAspect .red (stepEntered n s)) (by simp only [stepEffect, h]) rfl
    · exact hpasses (by simp [h]) (u := setAspect .dark (stepEntered n s)) (by simp only [stepEffect, h]) rfl
    · exact hpasses (by simp [h]) (u := setSound true (stepEntered n s)) (by simp only [stepEffect, h]) rfl
    · exact hpasses (by simp [h]) (u := setSound false (stepEntered n s)) (by simp only [stepEffect, h]) rfl
    · exact runSteps_lowers (by simp [h]) fun t => stepEffect_lowerEntry h
    · exact runSteps_lowers (by simp [h]) fun t => stepEffect_lowerExit h
    · exact hpasses (by simp [h]) (by simp only [stepEffect, h]) rfl
    · exact hpasses (by simp [h]) (by simp only [stepEffect, h]) rfl
    · have he : stepEffect k (stepEntered n s) = (waitEntered n k.count s, some .time) := by
        simp only [stepEffect, h, waitEntered]
        rfl
      exact runSteps_waits (by simp [h]) he
    · exact runSteps_awaits (by simp [h]) fun t => stepEffect_waitDown h
    · exact runSteps_awaits (by simp [h]) fun t => stepEffect_waitUp h
  · intro run lowering closing
    refine ⟨rfl, ?_⟩
    rintro ⟨k, hk, hlower⟩ hfirst
    have hrun : run = runStepsOf s.tm.tables.closing.toList := (runStepsOf_eq _).symm
    clear_value run
    subst hrun
    exact reenterClosing_eq s (firstLower_eq hk ((StepKind.lowers_iff _).2 hlower) fun j k hj hjk =>
      mt (StepKind.lowers_iff _).1 (hfirst j k hj hjk))

end Sys2Proof.Machine
end

section
/-! The opening permit, failure and the entry to OPENING: obligation O43 (R73, R74, R76, R77, R79). -/

namespace Sys2Proof.Machine

set_option Elab.async false

/-! ## The earliest of some times (R73) -/

/-- Of two times not yet 2^31 ms away, one is at or past the other where it lies as far ahead or farther. -/
theorem reached_iff_ahead {now x y : Time} (hx : (x - now).toNat < 2 ^ 31) (hy : (y - now).toNat < 2 ^ 31) :
    reached x y = true ↔ (y - now).toNat ≤ (x - now).toNat := by
  rw [reached, decide_eq_true_iff]
  bv_omega

theorem time_eq_of_ahead {now x y : Time} (h : (x - now).toNat = (y - now).toNat) : x = y := by
  bv_omega

/-- The earliest of some times not yet 2^31 ms away is one of them that lies no farther ahead than any. -/
theorem earliest_least {now : Time} : ∀ {ds : List Time}, (∀ d ∈ ds, (d - now).toNat < 2 ^ 31) → ds ≠ [] →
    ∃ m ∈ ds, earliest ds = some m ∧ ∀ d ∈ ds, (m - now).toNat ≤ (d - now).toNat
  | [d], _, _ => ⟨d, List.mem_singleton_self d, rfl, fun x hx => by rw [List.mem_singleton.1 hx]⟩
  | d :: e :: rest, hnear, _ => by
    obtain ⟨m, hm, hmin, hle⟩ := earliest_least (ds := e :: rest) (fun x hx => hnear x (List.mem_cons_of_mem d hx))
      (List.cons_ne_nil e rest)
    have hd := hnear d List.mem_cons_self
    have hreached := reached_iff_ahead (hnear m (List.mem_cons_of_mem d hm)) hd
    have hearliest : earliest (d :: e :: rest) = some (if earlier m d then m else d) := by
      rw [earliest, hmin]
    rw [hearliest, earlier]
    cases hr : reached m d with
    | true =>
      have hdm := hreached.1 hr
      refine ⟨d, List.mem_cons_self, rfl, List.forall_mem_cons.2 ⟨le_rfl, fun x hx => hdm.trans (hle x hx)⟩⟩
    | false =>
      have hmd : ¬ (d - now).toNat ≤ (m - now).toNat := mt hreached.2 (ne_true_of_eq_false hr)
      exact ⟨m, List.mem_cons_of_mem d hm, rfl, List.forall_mem_cons.2 ⟨(not_le.1 hmd).le, hle⟩⟩

/-- A time of the list that none of it lies before is the earliest. -/
theorem earliest_eq {now d : Time} {ds : List Time} (hnear : ∀ x ∈ ds, (x - now).toNat < 2 ^ 31) (hd : d ∈ ds)
    (hfirst : ∀ x ∈ ds, reached x d = true) : earliest ds = some d := by
  obtain ⟨m, hm, hmin, hle⟩ := earliest_least hnear (List.ne_nil_of_mem hd)
  have hdm := (reached_iff_ahead (hnear m hm) (hnear d hd)).1 (hfirst m hm)
  rw [hmin, time_eq_of_ahead (le_antisymm (hle d hd) hdm)]

/-! ## The deadlines on which the permit depends (R73) -/

/-- An in-service ARMED approach has the deadline `t`. -/
def ArmedAt (s : State) (i : Fin 4) (t : Time) : Prop :=
  s.tm.tables.approach[i].inService = true ∧ s.approaches[i].state = .armed ∧ s.approaches[i].deadline = some t

theorem mem_armedDeadlines {s : State} {t : Time} : t ∈ armedDeadlines s ↔ ∃ i, ArmedAt s i t := by
  simp only [armedDeadlines, List.mem_filterMap, List.mem_finRange, true_and, Option.ite_none_right_eq_some,
    Bool.and_eq_true, beq_iff_eq, and_assoc, ArmedAt]

theorem lookahead_eq {s : State} {figures : Derived} (h : s.tm.derived = some figures) :
    lookahead s = figures.rOpen + s.tm.tables.params.minOpen := by
  rw [lookahead, State.derivedFigures, h]
  rfl

/-- Some deadline of an ARMED approach is inside the lookahead. -/
theorem anyInside_iff (s : State) : (armedDeadlines s).any (insideLookahead s) = true ↔
    ∃ i t, ArmedAt s i t ∧ (t - s.now).toInt < lookahead s := by
  rw [List.any_eq_true]
  constructor
  · rintro ⟨t, ht, hin⟩
    obtain ⟨i, hi⟩ := mem_armedDeadlines.1 ht
    exact ⟨i, t, hi, of_decide_eq_true hin⟩
  · rintro ⟨i, t, hi, hin⟩
    exact ⟨t, mem_armedDeadlines.2 ⟨i, hi⟩, decide_eq_true hin⟩

/-- The time at which the permit lapses: the lookahead before the earliest deadline. -/
def permitLapseOf (s : State) : Option Time :=
  (earliest (armedDeadlines s)).map fun d => d - BitVec.ofNat 32 (lookahead s)

/-- The lapse that the statement describes is the one the model forms. -/
theorem permitLapseOf_eq {s : State} {lapse : Option Time}
    (hsome : ∀ t, lapse = some t → ∃ i d, ArmedAt s i d ∧ t = d - BitVec.ofNat 32 (lookahead s) ∧
      ∀ j d', ArmedAt s j d' → (d' - d).toNat < 2 ^ 31)
    (hnone : lapse = none → ∀ i d, ¬ ArmedAt s i d)
    (hnear : ∀ i d, ArmedAt s i d → (d - s.now).toNat < 2 ^ 31) : permitLapseOf s = lapse := by
  cases lapse with
  | none =>
    have hempty : armedDeadlines s = [] := List.eq_nil_iff_forall_not_mem.2 fun t ht => by
      obtain ⟨i, hi⟩ := mem_armedDeadlines.1 ht
      exact hnone rfl i t hi
    rw [permitLapseOf, hempty]
    rfl
  | some t =>
    obtain ⟨i, d, hd, rfl, hfirst⟩ := hsome t rfl
    have hall {P : Time → Prop} (h : ∀ j x, ArmedAt s j x → P x) : ∀ x ∈ armedDeadlines s, P x := fun x hx => by
      obtain ⟨j, hj⟩ := mem_armedDeadlines.1 hx
      exact h j x hj
    have hearliest : earliest (armedDeadlines s) = some d :=
      earliest_eq (hall hnear) (mem_armedDeadlines.2 ⟨i, hd⟩) (hall fun j x hx => decide_eq_true (hfirst j x hx))
    rw [permitLapseOf, hearliest]
    rfl

/-! ## The permit is judged (R73, R74) -/

/-- The permit does not hold: closure demand, or a deadline inside the lookahead. -/
def PermitBarred (s : State) : Prop :=
  ClosureDemand s ∨ ∃ i t, ArmedAt s i t ∧ (t - s.now).toInt < lookahead s

theorem permitBarred_iff (s : State) :
    (demand s || (armedDeadlines s).any (insideLookahead s)) = true ↔ PermitBarred s := by
  rw [Bool.or_eq_true, demand_iff, anyInside_iff, PermitBarred]

section
variable {s : State} (hclosed : s.crossing.state = .closed)
include hclosed

theorem judgePermit_barred (h : PermitBarred s) :
    judgePermit s = s.setCrossing { s.crossing with openDelayEnd := none, permitLapse := none } := by
  have hstate : ¬ (s.crossing.state != .closed) = true := fun hne => bne_iff_ne.1 hne hclosed
  exact (if_neg hstate).trans (if_pos ((permitBarred_iff s).2 h))

theorem judgePermit_holds (h : ¬ PermitBarred s) : judgePermit s = match s.crossing.openDelayEnd with
    | some _ => s.setCrossing { s.crossing with permitLapse := permitLapseOf s }
    | none =>
      if s.params.openDelay = 0 then enterOpening s
      else s.setCrossing { s.crossing with
        permitLapse := permitLapseOf s, openDelayEnd := some (after s.now s.params.openDelay) } := by
  have hstate : ¬ (s.crossing.state != .closed) = true := fun hne => bne_iff_ne.1 hne hclosed
  exact (if_neg hstate).trans (if_neg (mt (permitBarred_iff s).1 h))

variable (h : ¬ PermitBarred s)
include h

theorem judgePermit_holdsOn {e : Time} (he : s.crossing.openDelayEnd = some e) :
    judgePermit s = s.setCrossing { s.crossing with permitLapse := permitLapseOf s } := by
  rw [judgePermit_holds hclosed h, he]

theorem judgePermit_delays (he : s.crossing.openDelayEnd = none) (hdelay : 0 < s.params.openDelay) :
    judgePermit s = s.setCrossing { s.crossing with
      permitLapse := permitLapseOf s, openDelayEnd := some (after s.now s.params.openDelay) } := by
  rw [judgePermit_holds hclosed h, he]
  exact if_neg hdelay.ne'

theorem judgePermit_opens (he : s.crossing.openDelayEnd = none) (hdelay : s.params.openDelay = 0) :
    judgePermit s = enterOpening s := by
  rw [judgePermit_holds hclosed h, he]
  exact if_pos hdelay

end

/-! ## An ALARM notice (R76) -/

section
variable {s : State} (h : s.handed.alarm = true)
include h

theorem takeAlarm_stays (hs : s.crossing.state = .failed ∨ s.crossing.state = .outOfUse) :
    takeAlarm s = { s with handed := { s.handed with alarm := false } } := by
  rcases hs with hs | hs <;> simp only [takeAlarm, h, hs, if_true]

theorem takeAlarm_fails (hf : s.crossing.state ≠ .failed) (ho : s.crossing.state ≠ .outOfUse) :
    takeAlarm s = enterFailed { s with handed := { s.handed with alarm := false } } := by
  cases hs : s.crossing.state with
  | failed => exact absurd hs hf
  | outOfUse => exact absurd hs ho
  | isOpen | closing | closed | opening => simp only [takeAlarm, h, hs, if_true]

end

/-! ## Barrier orders do not read the crossing -/

theorem setBarrier_setCrossing (i : Fin 4) (r : BarrierRecord) (c : CrossingRecord) (s : State) :
    (s.setCrossing c).setBarrier i r = (s.setBarrier i r).setCrossing c := rfl

theorem enterAtEnd_setCrossing (i : Fin 4) (c : CrossingRecord) (s : State) :
    enterAtEnd i (s.setCrossing c) = (enterAtEnd i s).setCrossing c := by
  rw [enterAtEnd, setBarrier_setCrossing, conditionEnd_setCrossing]
  rfl

theorem startMove_setCrossing (i : Fin 4) (d : BarrierEnd) (fresh : Bool) (c : CrossingRecord) (s : State) :
    startMove i d fresh (s.setCrossing c) = (startMove i d fresh s).setCrossing c := rfl

/-- A barrier begins to move toward an end, or is there. -/
def moveBegun (i : Fin 4) (d : BarrierEnd) (s : State) : State :=
  if s.barriers[i].provedAt d then enterAtEnd i s else startMove i d true s

theorem moveBegun_setCrossing (i : Fin 4) (d : BarrierEnd) (c : CrossingRecord) (s : State) :
    moveBegun i d (s.setCrossing c) = (moveBegun i d s).setCrossing c := by
  by_cases h : s.barriers[i].provedAt d = true
  · rw [moveBegun, moveBegun, if_pos h, if_pos (by exact h), enterAtEnd_setCrossing]
  · rw [moveBegun, moveBegun, if_neg h, if_neg (by exact h), startMove_setCrossing]

theorem beginOrder_setCrossing (i : Fin 4) (d : BarrierEnd) (c : CrossingRecord) (s : State) :
    beginOrder i d (s.setCrossing c) = (beginOrder i d s).setCrossing c := by
  have hbegin (u : State) : beginOrder i d u = moveBegun i d (conditionEnd .barrierStall (some i.val)
      (u.setBarrier i { u.barriers[i] with
        target := some d, retries := 0, openLoopOnly := false, underway := false })) := rfl
  rw [hbegin, hbegin, setBarrier_setCrossing, conditionEnd_setCrossing, moveBegun_setCrossing]
  rfl

theorem order_setCrossing (i : Fin 4) (d : BarrierEnd) (c : CrossingRecord) (s : State) :
    order i d (s.setCrossing c) = (order i d s).setCrossing c := by
  have hbarrier : (s.setCrossing c).barriers[i] = s.barriers[i] := rfl
  have hentry : (s.setCrossing c).barrierEntry i = s.barrierEntry i := rfl
  unfold order
  rw [hbarrier, hentry]
  dsimp only
  split
  · rfl
  · split
    · exact beginOrder_setCrossing ..
    · split
      · rfl
      · cases s.barriers[i].phase with
        | start | run | brake | reverse => rfl
        | idle | held | settle | tripped | stalled | atEnd => exact beginOrder_setCrossing ..

theorem orderRole_setCrossing (role : BarrierRole) (d : BarrierEnd) (c : CrossingRecord) (s : State) :
    orderRole role d (s.setCrossing c) = (orderRole role d s).setCrossing c := by
  refine forEach_relates (R := fun t u => t = u.setCrossing c) (fun i t u htu => ?_) rfl
  subst htu
  have hentry : (u.setCrossing c).barrierEntry i = u.barrierEntry i := rfl
  rw [hentry]
  split
  · exact order_setCrossing ..
  · rfl

/-! ## Entry to FAILED and to OPENING (R76, R77, R79) -/

/-- The crossing record of a crossing that fails. -/
def CrossingRecord.toFailed (c : CrossingRecord) (exitDelayEnd : Option Time) : CrossingRecord :=
  { c.noProgram with
    state := .failed, openDelayEnd := none, permitLapse := none, closedSince := none, longReported := false
    aspect := .red, sound := false, exitDelayEnd := exitDelayEnd }

theorem enterFailed_eq (s : State) : enterFailed s =
    let ordered := orderRole .entry .down
      (s.setCrossing (s.crossing.toFailed (some (after s.now s.params.exitDelayFailed))))
    if s.params.exitDelayFailed = 0 then orderExits ordered else ordered := by
  have hparams (c : CrossingRecord) : (orderRole .entry .down (s.setCrossing c)).params = s.params := by
    rw [State.params, (orderRole_frame ..).tables (by decide)]
    rfl
  unfold enterFailed
  dsimp only
  rw [hparams]
  rfl

theorem enterFailed_delays {s : State} (h : 0 < s.params.exitDelayFailed) : enterFailed s = orderRole .entry .down
    (s.setCrossing (s.crossing.toFailed (some (after s.now s.params.exitDelayFailed)))) := by
  rw [enterFailed_eq]
  exact if_neg h.ne'

theorem enterFailed_atOnce {s : State} (h : s.params.exitDelayFailed = 0) : enterFailed s =
    orderRole .exit .down (orderRole .entry .down (s.setCrossing (s.crossing.toFailed none))) := by
  rw [enterFailed_eq]
  refine (if_pos h).trans ?_
  rw [orderExits, orderRole_crossing, ← orderRole_setCrossing]
  rfl

theorem enterOpening_eq (s : State) : enterOpening s = runOpening 1 { conditionEnd .longClosure none s with
    crossing := { s.crossing with
      state := .opening, program := .opening, step := none, stepWait := .none, waitEnd := none,
      openDelayEnd := none, permitLapse := none, closedSince := none, longReported := false } } := by
  rw [enterOpening, conditionEnd_setCrossing]
  rfl

/-- Settles O43, by the cases of the permit, of the notice and of the exit delay. -/
theorem permitAndFailure : Obligations.PermitAndFailure := by
  refine ⟨fun s figures hclosed hfigures => ?_, fun s h => ⟨takeAlarm_stays h, takeAlarm_fails h⟩,
    fun s => ⟨enterFailed_delays, enterFailed_atOnce, enterOpening_eq s⟩⟩
  intro look armed near sets
  have hlook : look = lookahead s := (lookahead_eq hfigures).symm
  clear_value look
  subst hlook
  refine ⟨judgePermit_barred hclosed, fun hdemand hnear lapse hsome hnone hahead => ?_⟩
  have hholds : ¬ PermitBarred s := not_or.2 ⟨hdemand, hnear⟩
  obtain rfl := permitLapseOf_eq hsome hnone hahead
  exact ⟨fun e he => judgePermit_holdsOn hclosed hholds he, judgePermit_delays hclosed hholds,
    judgePermit_opens hclosed hholds⟩

end Sys2Proof.Machine
end

section
/-! The conditions of the two programs: obligation O54 (R68, R69). -/

namespace Sys2Proof.Machine

set_option Elab.async false

/-! ## First and last places -/

/-- The first place of which something holds. -/
def FirstAt (i : Nat) (p : Nat → Prop) : Prop := p i ∧ ∀ j, j < i → ¬ p j

/-- The last place of which something holds. -/
def LastAt (i : Nat) (p : Nat → Prop) : Prop := p i ∧ ∀ j, i < j → ¬ p j

/-- An answer names the first place of which something holds, or says that there is none. -/
def Finds (p : Nat → Prop) : Option Nat → Prop
  | some i => FirstAt i p
  | none => ∀ i, ¬ p i

theorem FirstAt.unique {p : Nat → Prop} {i j : Nat} (hi : FirstAt i p) (hj : FirstAt j p) : i = j :=
  le_antisymm (not_lt.1 fun h => hi.2 j h hj.1) (not_lt.1 fun h => hj.2 i h hi.1)

section
variable {p q : Nat → Prop} {o o' : Option Nat}

theorem Finds.eq_some (h : Finds p o) {i : Nat} (hi : FirstAt i p) : o = some i := by
  cases o with
  | none => exact absurd hi.1 (h i)
  | some j => exact congrArg some (FirstAt.unique h hi)

theorem Finds.eq_none (h : Finds p o) (hp : ∀ i, ¬ p i) : o = none := by
  cases o with
  | none => rfl
  | some j => exact absurd h.1 (hp j)

theorem Finds.congr (h : Finds p o) (hpq : ∀ i, p i ↔ q i) : Finds q o := by
  rwa [← funext fun i => propext (hpq i)]

/-- The lower of two places, where both stand. -/
def lowerPlace : Option Nat → Option Nat → Option Nat
  | some i, some j => some (min i j)
  | some i, none => some i
  | none, o => o

theorem Finds.or (hp : Finds p o) (hq : Finds q o') : Finds (fun i => p i ∨ q i) (lowerPlace o o') := by
  cases o with
  | none =>
    refine hq.congr fun i => ?_
    exact (or_iff_right (hp i)).symm
  | some i =>
    cases o' with
    | none => exact Finds.congr (o := some i) hp fun j => (or_iff_left (hq j)).symm
    | some j =>
      refine ⟨?_, fun k hk => not_or.2 ⟨hp.2 k ?_, hq.2 k ?_⟩⟩
      case refine_2 => exact hk.trans_le (min_le_left i j)
      case refine_3 => exact hk.trans_le (min_le_right i j)
      rcases le_total i j with hij | hij
      · rw [min_eq_left hij]; exact .inl hp.1
      · rw [min_eq_right hij]; exact .inr hq.1

/-- A place counted from `n` on is a place of the whole. -/
theorem Finds.shift {n : Nat} (h : Finds (fun i => p (n + i)) o) : Finds (fun i => n ≤ i ∧ p i) (o.map (n + ·)) := by
  cases o with
  | none =>
    rintro i ⟨hi, hp⟩
    obtain ⟨j, rfl⟩ := Nat.exists_eq_add_of_le hi
    exact h j hp
  | some j =>
    refine ⟨⟨Nat.le_add_right n j, h.1⟩, ?_⟩
    rintro i hi ⟨hni, hp⟩
    obtain ⟨k, rfl⟩ := Nat.exists_eq_add_of_le hni
    exact h.2 k (Nat.lt_of_add_lt_add_left hi) hp

end

/-! ## The steps of a program -/

/-- The step at place `i` is of a sort of steps. -/
def StepIs (run : List ProgramStep) (sort : StepKind → Prop) (i : Nat) : Prop := ∃ k, run[i]? = some k ∧ sort k.kind

section
variable {run : List ProgramStep} {sort : StepKind → Prop} {p : StepKind → Bool}

theorem StepIs.lt {i : Nat} (h : StepIs run sort i) : i < run.length := by
  obtain ⟨k, hk, -⟩ := h
  exact (List.getElem?_eq_some_iff.1 hk).1

theorem stepIs_drop (n i : Nat) : StepIs (run.drop n) sort i ↔ StepIs run sort (n + i) := by
  rw [StepIs, StepIs, List.getElem?_drop]

theorem stepIs_take (n i : Nat) : StepIs (run.take n) sort i ↔ i < n ∧ StepIs run sort i := by
  rw [StepIs, StepIs, List.getElem?_take]
  by_cases h : i < n <;> simp [h]

theorem stepIs_getElem {i : Nat} (h : i < run.length) : StepIs run sort i ↔ sort run[i].kind := by
  rw [StepIs, List.getElem?_eq_getElem h]
  simp

/-- Steps of two sorts that exclude each other do not stand at one place. -/
theorem StepIs.excludes {sort' : StepKind → Prop} {i : Nat} (h : StepIs run sort i) (h' : StepIs run sort' i)
    (hne : ∀ k, sort k → ¬ sort' k) : False := by
  have hi := h.lt
  rw [stepIs_getElem hi] at h h'
  exact hne _ h h'

variable (hp : ∀ k, p k = true ↔ sort k)
include hp

theorem placeOf_finds (run : List ProgramStep) : Finds (StepIs run sort) (placeOf run p) := by
  unfold placeOf
  cases h : run.findIdx? fun k => p k.kind with
  | none =>
    rintro i ⟨k, hk, hs⟩
    have hnone := List.findIdx?_eq_none_iff.1 h k (List.mem_of_getElem? hk)
    exact Bool.eq_false_iff.1 hnone ((hp _).2 hs)
  | some i =>
    obtain ⟨hi, hat, hbefore⟩ := List.findIdx?_eq_some_iff_getElem.1 h
    refine ⟨(stepIs_getElem hi).2 ((hp _).1 hat), fun j hj hs => hbefore j hj ?_⟩
    exact (hp _).2 ((stepIs_getElem (hj.trans hi)).1 hs)

theorem lastPlaceOf_eq {i : Nat} (h : LastAt i (StepIs run sort)) : lastPlaceOf run p = some i := by
  have hholds (j : Nat) : ((run[j]?).map fun k => p k.kind).getD false = true ↔ StepIs run sort j := by
    rw [StepIs]
    cases run[j]? with
    | none => simp
    | some k => simp [hp]
  obtain ⟨m, hm⟩ := Nat.exists_eq_add_of_lt h.1.lt
  have hafter : ((List.range m).map (i + 1 + ·)).filter (fun j => ((run[j]?).map fun k => p k.kind).getD false) = [] := by
    refine List.filter_eq_nil_iff.2 fun j hj => ?_
    obtain ⟨x, -, rfl⟩ := List.mem_map.1 hj
    exact mt (hholds _).1 (h.2 _ (by omega))
  have hat : [i].filter (fun j => ((run[j]?).map fun k => p k.kind).getD false) = [i] :=
    List.filter_cons_of_pos ((hholds i).2 h.1)
  have hlength : run.length = i + 1 + m := by omega
  rw [lastPlaceOf, hlength, List.range_add, List.filter_append, hafter, List.append_nil, List.range_succ,
    List.filter_append, hat, List.getLast?_concat]

end

theorem hasKind_iff (run : List ProgramStep) (x : StepKind) :
    hasKind run x = true ↔ ∃ i, StepIs run (fun k => k = x) i := by
  simp only [hasKind, List.any_eq_true, beq_iff_eq, StepIs, List.mem_iff_getElem?]
  exact ⟨fun ⟨k, ⟨i, hi⟩, hk⟩ => ⟨i, k, hi, hk⟩, fun ⟨i, k, hi, hk⟩ => ⟨k, ⟨i, hi⟩, hk⟩⟩

theorem not_bothKinds {run : List ProgramStep} {x y : StepKind}
    (h : ¬ ((∃ i, StepIs run (fun k => k = x) i) ∧ ∃ i, StepIs run (fun k => k = y) i)) :
    (!(hasKind run x && hasKind run y)) = true := by
  rw [← hasKind_iff, ← hasKind_iff, ← Bool.and_eq_true] at h
  rw [Bool.eq_false_iff.2 h]
  rfl

theorem bothKinds {run : List ProgramStep} {x y : StepKind} (hx : ∃ i, StepIs run (fun k => k = x) i)
    (hy : ∃ i, StepIs run (fun k => k = y) i) : ¬ (!(hasKind run x && hasKind run y)) = true := by
  rw [(hasKind_iff run x).2 hx, (hasKind_iff run y).2 hy]
  exact Bool.false_ne_true

theorem StepKind.raises_iff (k : StepKind) : k.raises = true ↔ k = .raiseEntry ∨ k = .raiseExit := by
  simp [StepKind.raises]

theorem beq_kind_iff (x k : StepKind) : (k == x) = true ↔ k = x := beq_iff_eq

/-! ## The closing program (R68) -/

/-- A LOWER step, of either role. -/
def LowerAt (run : List ProgramStep) : Nat → Prop := StepIs run fun k => k = .lowerEntry ∨ k = .lowerExit

/-- A RAISE step, of either role. -/
def RaiseAt (run : List ProgramStep) : Nat → Prop := StepIs run fun k => k = .raiseEntry ∨ k = .raiseExit

/-- A step that the closing program may not have: a DARK one, or an AMBER one after a RED one. -/
def UnfitAt (run : List ProgramStep) (i : Nat) : Prop :=
  StepIs run (fun k => k = .dark) i ∨
    (StepIs run (fun k => k = .amber) i ∧ ∃ j, j < i ∧ StepIs run (fun k => k = .red) j)

/-- The place of the first RED step, past the end where there is none. -/
def redPlace (run : List ProgramStep) : Nat := (placeOf run (· == .red)).getD run.length

/-- The place of the first DARK step and that of the first AMBER step after RED, the lower where both stand. -/
def unfitPlace (run : List ProgramStep) : Option Nat :=
  lowerPlace (placeOf run (· == .dark)) ((placeOf (run.drop (redPlace run)) (· == .amber)).map (· + redPlace run))

theorem redPlace_lt_iff {run : List ProgramStep} {i : Nat} (hi : i < run.length) :
    redPlace run < i ↔ ∃ j, j < i ∧ StepIs run (fun k => k = .red) j := by
  have hred := placeOf_finds (beq_kind_iff .red) run
  unfold redPlace
  cases hplace : placeOf run (· == .red) with
  | none =>
    rw [hplace] at hred
    refine iff_of_false (by simpa using hi.le) ?_
    rintro ⟨j, -, hj⟩
    exact hred j hj
  | some r =>
    rw [hplace] at hred
    refine ⟨fun h => ⟨r, h, hred.1⟩, ?_⟩
    rintro ⟨j, hji, hj⟩
    exact (not_lt.1 fun h => hred.2 j h hj).trans_lt hji

/-- At the place of the first RED step there stands no other. -/
theorem redPlace_ne {run : List ProgramStep} {sort : StepKind → Prop} {i : Nat} (h : StepIs run sort i)
    (hsort : ¬ sort .red) : redPlace run ≠ i := by
  have hred := placeOf_finds (beq_kind_iff .red) run
  unfold redPlace
  cases hplace : placeOf run (· == .red) with
  | none => exact h.lt.ne'
  | some r =>
    rw [hplace] at hred
    rintro rfl
    exact h.excludes hred.1 fun k hk hr => hsort (hr ▸ hk)

theorem unfitPlace_finds (run : List ProgramStep) : Finds (UnfitAt run) (unfitPlace run) := by
  refine (placeOf_finds (beq_kind_iff .dark) run).or ?_
  have hamber : Finds (fun i => StepIs run (fun k => k = .amber) (redPlace run + i))
      (placeOf (run.drop (redPlace run)) (· == .amber)) :=
    (placeOf_finds (beq_kind_iff .amber) _).congr fun i => stepIs_drop ..
  have hadd : (fun i => redPlace run + i) = (· + redPlace run) := funext fun i => Nat.add_comm ..
  rw [← hadd]
  refine hamber.shift.congr fun i => and_comm.trans (and_congr_right fun hi => ?_)
  rw [← redPlace_lt_iff hi.lt, le_iff_lt_or_eq]
  exact or_iff_left (redPlace_ne hi (by decide))

theorem closingBroken_eq {steps run : List ProgramStep} (hrun : runStepsOf steps = run) : closingBroken steps =
    if !(hasKind run .lowerEntry && hasKind run .lowerExit) then some (endingEntry run)
    else match placeOf run StepKind.raises with
      | some i => some i
      | none =>
        match unfitPlace run with
        | some i => some i
        | none =>
          if firstLower run < redPlace run then some (firstLower run)
          else if redLead run (firstLower run) < 2000 then some (firstLower run)
          else if hasKind (run.drop ((lastPlaceOf run StepKind.lowers).getD 0 + 1)) .waitDown then none
          else some (endingEntry run) := by
  subst hrun
  rfl

section
variable {steps run : List ProgramStep} (hrun : runStepsOf steps = run)
include hrun

theorem closingBroken_roles (h : ¬ ((∃ i, StepIs run (fun k => k = .lowerEntry) i) ∧
    ∃ i, StepIs run (fun k => k = .lowerExit) i)) : closingBroken steps = some (endingEntry run) := by
  rw [closingBroken_eq hrun, if_pos (not_bothKinds h)]

variable (hentry : ∃ i, StepIs run (fun k => k = .lowerEntry) i) (hexit : ∃ i, StepIs run (fun k => k = .lowerExit) i)
include hentry hexit

theorem closingBroken_raise {i : Nat} (h : FirstAt i (RaiseAt run)) : closingBroken steps = some i := by
  rw [closingBroken_eq hrun, if_neg (bothKinds hentry hexit), (placeOf_finds StepKind.raises_iff run).eq_some h]

variable (hraise : ∀ i, ¬ RaiseAt run i)
include hraise

theorem closingBroken_unfit {i : Nat} (h : FirstAt i (UnfitAt run)) : closingBroken steps = some i := by
  rw [closingBroken_eq hrun, if_neg (bothKinds hentry hexit), (placeOf_finds StepKind.raises_iff run).eq_none hraise,
    (unfitPlace_finds run).eq_some h]

variable (hunfit : ∀ i, ¬ UnfitAt run i) {l q : Nat} (hl : FirstAt l (LowerAt run)) (hq : LastAt q (LowerAt run))
include hunfit hl hq

/-- The conditions on red and on WAIT_DOWN, with the first LOWER step at `l` and the last at `q`. -/
theorem closingBroken_rest : closingBroken steps =
    if l < redPlace run then some l
    else if redLead run l < 2000 then some l
    else if hasKind (run.drop (q + 1)) .waitDown then none
    else some (endingEntry run) := by
  have hfirst : firstLower run = l := by
    obtain ⟨⟨k, hk, hlower⟩, hbefore⟩ := hl
    exact firstLower_eq hk ((StepKind.lowers_iff _).2 hlower) fun j x hj hx hlow =>
      hbefore j hj ⟨x, hx, (StepKind.lowers_iff _).1 hlow⟩
  rw [closingBroken_eq hrun, if_neg (bothKinds hentry hexit), (placeOf_finds StepKind.raises_iff run).eq_none hraise,
    (unfitPlace_finds run).eq_none hunfit, hfirst, lastPlaceOf_eq StepKind.lowers_iff hq]
  rfl

theorem closingBroken_noRed (h : ∀ j, j < l → ¬ StepIs run (fun k => k = .red) j) : closingBroken steps = some l := by
  have hnot : ¬ redPlace run < l := fun hlt => by
    obtain ⟨j, hj, hred⟩ := (redPlace_lt_iff hl.1.lt).1 hlt
    exact h j hj hred
  have hlt : l < redPlace run := lt_of_le_of_ne (not_lt.1 hnot) (redPlace_ne hl.1 (by decide)).symm
  rw [closingBroken_rest hrun hentry hexit hraise hunfit hl hq, if_pos hlt]

variable {r : Nat} (hr : LastAt r fun j => StepIs run (fun k => k = .red) j ∧ j < l)
include hr

/-- The conditions after red, with the last RED step before the first LOWER one at `r`. -/
theorem closingBroken_red : closingBroken steps =
    if waitSum ((run.take l).drop (r + 1)) < 2000 then some l
    else if hasKind (run.drop (q + 1)) .waitDown then none
    else some (endingEntry run) := by
  have hnot : ¬ l < redPlace run := ((redPlace_lt_iff hl.1.lt).2 ⟨r, hr.1.2, hr.1.1⟩).not_gt
  have hlast : LastAt r (StepIs (run.take l) fun k => k = .red) := by
    refine ⟨(stepIs_take ..).2 hr.1.symm, fun j hj hred => hr.2 j hj ?_⟩
    exact ((stepIs_take ..).1 hred).symm
  rw [closingBroken_rest hrun hentry hexit hraise hunfit hl hq, if_neg hnot, redLead,
    lastPlaceOf_eq (beq_kind_iff .red) hlast]

theorem closingBroken_shortLead (h : waitSum ((run.take l).drop (r + 1)) < 2000) : closingBroken steps = some l := by
  rw [closingBroken_red hrun hentry hexit hraise hunfit hl hq hr, if_pos h]

variable (hlead : 2000 ≤ waitSum ((run.take l).drop (r + 1)))
include hlead

theorem closingBroken_noWaitDown (h : ∀ j, q < j → ¬ StepIs run (fun k => k = .waitDown) j) :
    closingBroken steps = some (endingEntry run) := by
  have hnone : ¬ hasKind (run.drop (q + 1)) .waitDown = true := fun hkind => by
    obtain ⟨i, hi⟩ := (hasKind_iff ..).1 hkind
    exact h (q + 1 + i) (by omega) ((stepIs_drop ..).1 hi)
  rw [closingBroken_red hrun hentry hexit hraise hunfit hl hq hr, if_neg hlead.not_gt, if_neg hnone]

theorem closingBroken_none (h : ∃ j, q < j ∧ StepIs run (fun k => k = .waitDown) j) : closingBroken steps = none := by
  obtain ⟨j, hj, hwait⟩ := h
  obtain ⟨i, rfl⟩ := Nat.exists_eq_add_of_le (Nat.succ_le_of_lt hj)
  rw [closingBroken_red hrun hentry hexit hraise hunfit hl hq hr, if_neg hlead.not_gt,
    if_pos ((hasKind_iff ..).2 ⟨i, (stepIs_drop ..).2 hwait⟩)]

end

/-! ## The opening program (R69) -/

theorem openingBroken_eq {steps run : List ProgramStep} (hrun : runStepsOf steps = run) : openingBroken steps =
    if !(hasKind run .raiseEntry && hasKind run .raiseExit) then some (endingEntry run)
    else match placeOf run StepKind.lowers with
      | some i => some i
      | none =>
        match placeOf (run.drop ((lastPlaceOf run StepKind.raises).getD 0 + 1)) (· == .waitUp) with
        | none => some (endingEntry run)
        | some w => placeOf (run.take ((lastPlaceOf run StepKind.raises).getD 0 + 1 + w)) fun k =>
            k == .dark || k == .amber := by
  subst hrun
  rfl

/-- A WAIT_UP step after the place `q`. -/
def UpAfter (run : List ProgramStep) (q i : Nat) : Prop := q < i ∧ StepIs run (fun k => k = .waitUp) i

theorem upAfter_finds (run : List ProgramStep) (q : Nat) :
    Finds (UpAfter run q) ((placeOf (run.drop (q + 1)) (· == .waitUp)).map (q + 1 + ·)) := by
  have hup : Finds (fun i => StepIs run (fun k => k = .waitUp) (q + 1 + i)) (placeOf (run.drop (q + 1)) (· == .waitUp)) :=
    (placeOf_finds (beq_kind_iff .waitUp) _).congr fun i => stepIs_drop ..
  exact hup.shift

theorem darkOrAmber_iff (k : StepKind) : (k == .dark || k == .amber) = true ↔ k = .dark ∨ k = .amber := by simp

section
variable {steps run : List ProgramStep} (hrun : runStepsOf steps = run)
include hrun

theorem openingBroken_roles (h : ¬ ((∃ i, StepIs run (fun k => k = .raiseEntry) i) ∧
    ∃ i, StepIs run (fun k => k = .raiseExit) i)) : openingBroken steps = some (endingEntry run) := by
  rw [openingBroken_eq hrun, if_pos (not_bothKinds h)]

variable (hentry : ∃ i, StepIs run (fun k => k = .raiseEntry) i) (hexit : ∃ i, StepIs run (fun k => k = .raiseExit) i)
include hentry hexit

theorem openingBroken_lower {i : Nat} (h : FirstAt i (LowerAt run)) : openingBroken steps = some i := by
  rw [openingBroken_eq hrun, if_neg (bothKinds hentry hexit), (placeOf_finds StepKind.lowers_iff run).eq_some h]

variable (hlower : ∀ i, ¬ LowerAt run i) {q : Nat} (hq : LastAt q (RaiseAt run))
include hlower hq

/-- The conditions on WAIT_UP, with the last RAISE step at `q`. -/
theorem openingBroken_rest : openingBroken steps =
    match (placeOf (run.drop (q + 1)) (· == .waitUp)).map (q + 1 + ·) with
    | none => some (endingEntry run)
    | some w => placeOf (run.take w) fun k => k == .dark || k == .amber := by
  rw [openingBroken_eq hrun, if_neg (bothKinds hentry hexit), (placeOf_finds StepKind.lowers_iff run).eq_none hlower,
    lastPlaceOf_eq StepKind.raises_iff hq, Option.getD_some]
  cases placeOf (run.drop (q + 1)) (· == .waitUp) <;> rfl

theorem openingBroken_noWaitUp (h : ∀ i, ¬ UpAfter run q i) : openingBroken steps = some (endingEntry run) := by
  rw [openingBroken_rest hrun hentry hexit hlower hq, (upAfter_finds run q).eq_none h]

/-- With the first WAIT_UP after the last RAISE at `w`, the first DARK or AMBER step before it is reported. -/
theorem openingBroken_finds {w : Nat} (hw : FirstAt w (UpAfter run q)) :
    Finds (fun i => i < w ∧ StepIs run (fun k => k = .dark ∨ k = .amber) i) (openingBroken steps) := by
  rw [openingBroken_rest hrun hentry hexit hlower hq, (upAfter_finds run q).eq_some hw]
  exact (placeOf_finds darkOrAmber_iff _).congr fun i => stepIs_take ..

end

/-- Settles O54, by the conditions of each program in their order. -/
theorem programsAreValidated : Obligations.ProgramsAreValidated := by
  intro steps run ending is first last lower raise red waits
  have hrun : runStepsOf steps = run := runStepsOf_eq steps
  clear_value run
  refine ⟨⟨closingBroken_roles hrun, fun hentry hexit => ⟨fun i => closingBroken_raise hrun hentry hexit,
      fun hraise => ⟨fun i => closingBroken_unfit hrun hentry hexit hraise, fun hunfit l q hl hq =>
        ⟨closingBroken_noRed hrun hentry hexit hraise hunfit hl hq, fun r hr =>
          ⟨closingBroken_shortLead hrun hentry hexit hraise hunfit hl hq hr,
            closingBroken_noWaitDown hrun hentry hexit hraise hunfit hl hq hr,
            closingBroken_none hrun hentry hexit hraise hunfit hl hq hr⟩⟩⟩⟩⟩,
    ⟨openingBroken_roles hrun, fun hentry hexit => ⟨fun i => openingBroken_lower hrun hentry hexit,
      fun hlower q hq => ⟨openingBroken_noWaitUp hrun hentry hexit hlower hq, fun w hw => ?_⟩⟩⟩⟩
  have hfinds := openingBroken_finds hrun hentry hexit hlower hq hw
  exact ⟨fun i => hfinds.eq_some, hfinds.eq_none⟩

end Sys2Proof.Machine
end

section
/-! What the outputs show: obligation O4 (R89, R91, R102, R186). -/

namespace Sys2Proof.Machine

set_option Elab.async false

theorem State.alive_iff (s : State) : s.alive = true ↔ Running s := by
  simp [State.alive, Running]

/-- A lamp is lit by its mode alone, FLASH with the generator, while the part runs (R89, R90). -/
theorem lampOn_iff (s : State) (i : Fin 12) : lampOn s i = true ↔ Running s ∧
    (s.lamp.lamps[i].mode = .steady ∨
      s.lamp.lamps[i].mode = .flash ∧ s.lamp.phase = some s.tm.tables.lamp[i].phase) := by
  rw [lampOn, Bool.and_eq_true, State.alive_iff, State.lampRecord, State.lampEntry]
  cases s.lamp.lamps[i].mode <;> simp

theorem lampOutput_lit {s : State} {i : Fin 12} (h : lampOn s i = true) : lampOutput s i = s.lamp.duty.getD 0 :=
  if_pos h

theorem lampOutput_unlit {s : State} {i : Fin 12} (h : lampOn s i = false) : lampOutput s i = 0 :=
  if_neg (Bool.eq_false_iff.1 h)

theorem audibleOn_iff (s : State) : audibleOn s = true ↔ Running s ∧ s.lamp.sound = true := by
  rw [audibleOn, Bool.and_eq_true, State.alive_iff]

/-- Settles O4, output by output. -/
theorem outputsShowTheRecords : Obligations.OutputsShowTheRecords := by
  refine fun s => ⟨lampOn_iff s, fun i duty hduty hon => ?_, fun i => lampOutput_unlit, audibleOn_iff s,
    fun i hrun => if_pos ((State.alive_iff s).2 hrun), fun i hrun => if_neg (mt (State.alive_iff s).1 hrun)⟩
  rw [lampOutput_lit hon, hduty, Option.getD_some]

end Sys2Proof.Machine
end

section
/-! SUPPORT. A lamp judged: its proved flag, its count of unproved judgements and LAMP_FAIL (R94 to R96). -/

namespace Sys2Proof.Machine

set_option Elab.async false

theorem State.setLamp_same (s : State) (i : Fin 12) : s.setLamp i s.lamp.lamps[i] = s := by
  simp only [State.setLamp, Fin.getElem_fin, Vector.set_getElem_self]

theorem State.setLamp_setLamp (s : State) (i : Fin 12) (r r' : LampRecord) :
    (s.setLamp i r).setLamp i r' = s.setLamp i r' := by
  simp only [State.setLamp, Vector.set_set]

theorem countJudged_proved (i : Fin 12) (r : LampRecord) (s : State) : countJudged i true (s.setLamp i r) =
    conditionEnd .lampFail (some i.val) (s.setLamp i { r with proved := true, unproved := 0 }) := by
  simp only [countJudged, State.setLamp_self, State.setLamp_setLamp, if_true]

/-- A lamp judged unproved counts up to 2; LAMP_FAIL becomes present as the count comes to 2 (R96). -/
theorem countJudged_unproved (i : Fin 12) (r : LampRecord) (s : State) : countJudged i false (s.setLamp i r) =
    let t := s.setLamp i { r with proved := false, unproved := min 2 (r.unproved + 1) }
    if min 2 (r.unproved + 1) = 2 ∧ r.unproved < 2 then conditionPresent .lampFail (some i.val) t else t := by
  simp only [countJudged, State.setLamp_self, State.setLamp_setLamp, Bool.false_eq_true, if_false]

section
variable {i : Fin 12} {r : LampRecord} {s : State}

theorem countJudged_first (h : r.unproved = 0) :
    countJudged i false (s.setLamp i r) = s.setLamp i { r with proved := false, unproved := 1 } := by
  rw [countJudged_unproved, h]; rfl

theorem countJudged_second (h : r.unproved = 1) : countJudged i false (s.setLamp i r) =
    conditionPresent .lampFail (some i.val) (s.setLamp i { r with proved := false, unproved := 2 }) := by
  rw [countJudged_unproved, h]; rfl

theorem countJudged_again (h : r.unproved = 2) :
    countJudged i false (s.setLamp i r) = s.setLamp i { r with proved := false, unproved := 2 } := by
  rw [countJudged_unproved, h]; rfl

end

/-- An interval is judged with the lamp's record of which it is dropped (R94). -/
theorem judgeInterval_eq (i : Fin 12) (s : State) : judgeInterval i s =
    countJudged i s.lamp.lamps[i].intervalOk (s.setLamp i s.lamp.lamps[i].dropInterval) := rfl

end Sys2Proof.Machine
end

section
/-! The lamp test and the timers of the lamps: obligation O23 (R90, R94, R96, R99 to R101). -/

namespace Sys2Proof.Machine

set_option Elab.async false

/-! ## A maintenance command (R171, R172) -/

/-- The general checks of a maintenance command pass (R171, R172). -/
theorem ByMaintenance.generalCheck_eq {s : State} {q : QueuedCommand} {code : Byte} {args : List Byte}
    (h : ByMaintenance s q code args) {c : Command} (hcls : c.cls = .maintenance)
    (hlength : c.lengthFits (args.length + 2) = true) : generalCheck c q s = none := by
  obtain ⟨hproc, hmay⟩ := h
  have hauthorised : authorised s.tm.tables s.tm.valid .maintenance q.source = true := by
    rw [authorised, Bool.or_eq_true, Bool.not_eq_true', holdsRole_iff]
    exact hmay
  simp [generalCheck, hcls, hauthorised, hproc.payload_length, hlength]

/-- The event of a maintenance command whose general checks pass. -/
theorem ByMaintenance.event_eq {s : State} {q : QueuedCommand} {code : Byte} {args : List Byte}
    (h : ByMaintenance s q code args) {c : Command} (hcode : Command.fromCode code.toNat = some c)
    (hcls : c.cls = .maintenance) (hlength : c.lengthFits (args.length + 2) = true)
    {own : QueuedCommand → State → Answered} {dt : Time} {reply : ReplyCode} {data : List Byte} {u : State}
    (hown : own q (s.advance dt) = { state := u, code := reply, data := data }) :
    event dt (complete c own) s = finish (s.advance dt) (answered q reply data u) := by
  have hnow : ByMaintenance (s.advance dt) q code args := h
  rw [event_of_running h.1.1, complete_of_processes h.1 hcode (hnow.generalCheck_eq hcls hlength), hown]

/-! ## The slots of a lamp test (R101) -/

/-- Lamp `i` is in service, at index `n` or after. -/
def ServesFrom (s : State) (n : Nat) (i : Fin 12) : Prop := n ≤ i.val ∧ s.tm.tables.lamp[i].inService = true

theorem nextLamp_first {s : State} {n : Nat} {i : Fin 12} (hi : ServesFrom s n i)
    (hleast : ∀ j, ServesFrom s n j → i ≤ j) : nextLamp s n = some i := by
  refine Option.map_injective Fin.val_injective (firstBroken_eq_some ?_ fun j hj => ?_)
  · rw [Bool.and_eq_true, decide_eq_true_iff]
    exact hi
  · rw [Bool.eq_false_iff, Ne, Bool.and_eq_true, decide_eq_true_iff]
    exact fun hserves => absurd hj (not_lt.2 (hleast j hserves))

theorem nextLamp_none {s : State} {n : Nat} (h : ∀ i, ¬ ServesFrom s n i) : nextLamp s n = none := by
  refine List.find?_eq_none.2 fun i _ => ?_
  rw [Bool.and_eq_true, decide_eq_true_iff]
  exact h i

/-- Another lamp test run. -/
def State.withTest (s : State) (test : LampTest) : State := { s with lamp := { s.lamp with test := test } }

theorem openSlot_first {s : State} {n : Nat} {i : Fin 12} (hi : ServesFrom s n i)
    (hleast : ∀ j, ServesFrom s n j → i ≤ j) : openSlot n s = setMode i .steady (s.withTest { s.lamp.test with
      lamp := some i, slotEnd := some (after s.now (twoFlashPeriods s)) }) := by
  rw [openSlot, nextLamp_first hi hleast]; rfl

theorem openSlot_ends {s : State} {n : Nat} (h : ∀ i, ¬ ServesFrom s n i) : openSlot n s = s.withTest { s.lamp.test with
    run := if s.lamp.test.allPassed then .donePass else .doneFail, lamp := none, slotEnd := none } := by
  rw [openSlot, nextLamp_none h]; rfl

/-! ## LAMP_TEST (R100, R101) -/

section
variable (q : QueuedCommand) {s : State}

theorem ownLampTest_refused (h : s.tm.valid = false ∨ s.crossing.state ≠ .outOfUse ∨ ¬ NothingRuns s) :
    ownLampTest q s = refuse .refusedState s := by
  unfold ownLampTest
  split
  · rfl
  next hvalid =>
    split
    · rfl
    next hout =>
      have hs : s.crossing.state = .outOfUse := (outOfUse_iff s).1 (by simpa using hout)
      have hv : ¬ s.tm.valid = false := by simpa using hvalid
      exact if_pos ((anyRunning_iff s).2 ((h.resolve_left hv).resolve_left (absurd hs)))

theorem ownLampTest_starts (hv : s.tm.valid = true) (hs : s.crossing.state = .outOfUse) (hruns : NothingRuns s) :
    ownLampTest q s = answer .accepted (startLampTest s) := by
  have hrun : ¬ anyRunning s = true := mt (anyRunning_iff s).1 (not_not.2 hruns)
  simp [ownLampTest, hv, (outOfUse_iff s).2 hs, hrun]

end

/-- A test run just begun, no slot open yet. -/
def LampTest.begun : LampTest := { run := .running, lamp := none, slotEnd := none, allPassed := true }

/-- The lamps darkened as a test starts. -/
@[irreducible] def testDarkened (s : State) : State := giveModes (fun _ => .dark) (s.withTest .begun)

theorem testDarkened_eq (s : State) : testDarkened s = giveModes (fun _ => .dark) (s.withTest .begun) := by
  delta testDarkened
  rfl

theorem startLampTest_eq (s : State) : startLampTest s = openSlot 0 (testDarkened s) := by
  rw [testDarkened_eq]
  rfl

theorem testDarkened_frame (s : State) : Frame [.lamp, .lampTest, .faults] s (testDarkened s) := by
  rw [testDarkened_eq]
  exact (Frame.refl _ s).withLamp.step (giveModes_frame ..)

theorem testDarkened_test (s : State) : (testDarkened s).lamp.test = .begun := by
  rw [testDarkened_eq, (giveModes_frame ..).lampTest (by decide)]
  rfl

theorem testDarkened_serves (s : State) (n : Nat) (i : Fin 12) : ServesFrom (testDarkened s) n i ↔ ServesFrom s n i := by
  rw [ServesFrom, ServesFrom, (testDarkened_frame s).tables (by decide)]

/-- The slot of the first in-service lamp opens (R101). -/
theorem startLampTest_first {s : State} {i : Fin 12} (hi : s.tm.tables.lamp[i].inService = true)
    (hfirst : ∀ j : Fin 12, j < i → s.tm.tables.lamp[j].inService = false) :
    startLampTest s = setMode i .steady ((testDarkened s).withTest { LampTest.begun with
      lamp := some i, slotEnd := some (after s.now (twoFlashPeriods s)) }) := by
  have hnow := (testDarkened_frame s).now (by decide)
  have htime : twoFlashPeriods (testDarkened s) = twoFlashPeriods s :=
    congrArg (4 * ·) (halfPeriod_of_tables ((testDarkened_frame s).tables (by decide)))
  have hleast (j : Fin 12) (hj : ServesFrom (testDarkened s) 0 j) : i ≤ j := by
    obtain ⟨-, hserv⟩ := (testDarkened_serves s 0 j).1 hj
    exact not_lt.1 fun hji => Bool.false_ne_true ((hfirst j hji).symm.trans hserv)
  rw [startLampTest_eq, openSlot_first ((testDarkened_serves s 0 i).2 ⟨Nat.zero_le _, hi⟩) hleast, testDarkened_test, htime,
    hnow]

/-- With no lamp in service the test ends at once, passed (R101). -/
theorem startLampTest_ends {s : State} (h : ∀ i : Fin 12, s.tm.tables.lamp[i].inService = false) :
    startLampTest s = (testDarkened s).withTest { LampTest.begun with run := .donePass } := by
  have hnone (i : Fin 12) (hi : ServesFrom (testDarkened s) 0 i) : False := by
    obtain ⟨-, hserv⟩ := (testDarkened_serves s 0 i).1 hi
    exact Bool.false_ne_true ((h i).symm.trans hserv)
  rw [startLampTest_eq, openSlot_ends hnone, testDarkened_test]
  rfl

/-! ## The timers (R90, R99, R101) -/

section
variable {s : State} {e : Time} (hr : reached s.now e = true)
include hr

theorem halfPeriodEnds_reached {p : Phase} (hp : s.lamp.phase = some p) (he : s.lamp.phaseEnd = some e) :
    halfPeriodEnds s = startHalfPeriod (otherPhase p) s := by
  simp only [halfPeriodEnds, hp, he, due_some, hr, if_true]

theorem darkTimerEnds_reached {side : Side} (he : s.lamp.darkEnd.get side = some e) :
    darkTimerEnds side s = conditionPresent .roadSideDark (some (sideNumber side))
      { s with lamp := { s.lamp with darkEnd := s.lamp.darkEnd.set side none } } := by
  simp only [darkTimerEnds, he, due_some, hr, if_true]

theorem slotEnds_reached {i : Fin 12} (hi : s.lamp.test.lamp = some i) (he : s.lamp.test.slotEnd = some e) :
    slotEnds s = openSlot (i.val + 1) (formBothRed (setMode i .dark (s.withTest { s.lamp.test with
      allPassed := s.lamp.test.allPassed && s.lamp.lamps[i].proved }))) := by
  simp only [slotEnds, hi, he, due_some, hr, if_true]
  rfl

end

theorem otherPhase_eq (p : Phase) : otherPhase p = if p = .a then .b else .a := by
  cases p <;> rfl

/-! ## The lit interval of one lamp (R94, R96) -/

/-- The lit interval of a lamp opened, at the time and for the half-period of `s`. -/
def litInterval (i : Fin 12) (s u : State) : State :=
  u.setLamp i (u.lamp.lamps[i].openInterval s.now (after s.now (halfPeriod s)))

section
variable {p : Phase} {i : Fin 12} {s : State} (h : FlashesIn p s i)
include h

theorem openLit_fresh (hn : s.lamp.lamps[i].intervalStart = none) : openLit p i s = litInterval i s s := by
  have hclosed : ¬ (s.lampRecord i).intervalStart.isSome = true := by 
    rw [State.lampRecord, hn]
    exact Bool.false_ne_true
  refine (if_pos h).trans ?_
  dsimp only
  rw [if_neg hclosed]
  rfl

/-- An interval still open is judged, and the next one opened after it. -/
theorem openLit_judged (hn : s.lamp.lamps[i].intervalStart ≠ none) {ok : Bool} (hok : s.lamp.lamps[i].intervalOk = ok)
    {u : State} (hu : countJudged i ok (s.setLamp i s.lamp.lamps[i].dropInterval) = u) :
    openLit p i s = litInterval i s u := by
  have hopen : (s.lampRecord i).intervalStart.isSome = true := Option.isSome_iff_ne_none.2 hn
  have hframe := judgeInterval_frame i s
  refine (if_pos h).trans ?_
  dsimp only
  rw [if_pos hopen, halfPeriod_of_tables (hframe.tables (by decide)), hframe.now (by decide), judgeInterval_eq, hok, hu]
  rfl

end

/-- Settles O23: the command by its own work in each case, each timer by the lemma of its end, and one lamp's slot and
interval by theirs. -/
theorem lampTestAndLampTimers : Obligations.LampTestAndLampTimers := by
  refine ⟨fun s q dt hq => ?_, fun s dt e hrun he => ?_, fun s n => ?_, fun s p i => ?_⟩
  · have hexec {reply : ReplyCode} {u : State}
        (hown : ownLampTest q (s.advance dt) = { state := u, code := reply, data := [] }) :
        exec (.lampTest dt) s = .next (finish (s.advance dt) (answered q reply [] u)) :=
      congrArg Host.Outcome.next (hq.event_eq (c := .lampTest) rfl rfl rfl hown)
    refine ⟨fun h => hexec (ownLampTest_refused (s := s.advance dt) q h), fun hv hs hruns => ?_⟩
    have hstarts {u : State} (hu : startLampTest (s.advance dt) = u) :
        exec (.lampTest dt) s = .next (finish (s.advance dt) (answered q .accepted [] u)) :=
      hexec (hu ▸ ownLampTest_starts (s := s.advance dt) q hv hs hruns)
    intro dark
    have hdark : dark = testDarkened (s.advance dt) := (testDarkened_eq _).symm
    clear_value dark
    subst hdark
    exact ⟨fun i hi hfirst => hstarts (startLampTest_first (s := s.advance dt) hi hfirst),
      fun hnone => hstarts (startLampTest_ends (s := s.advance dt) hnone)⟩
  · intro t ends
    refine ⟨fun p hp hend => ?_, fun side hend => ?_, fun i hi hend => ?_⟩
    · refine next_event hrun dt ((halfPeriodEnds_reached (s := t) he hp hend).trans ?_)
      rw [otherPhase_eq]
      rfl
    · exact next_event hrun dt (darkTimerEnds_reached (s := t) he hend)
    · exact next_event hrun dt (slotEnds_reached (s := t) he hi hend)
  · exact ⟨fun i => openSlot_first, openSlot_ends⟩
  · intro r sets shut opens
    have hnot (h : ¬ FlashesIn p s i) : openLit p i s = s := openLit_of_not h
    refine ⟨fun h => hnot (not_and_or.2 h), fun hmode hphase => ?_⟩
    have hflash : FlashesIn p s i := ⟨hmode, hphase⟩
    exact ⟨openLit_fresh hflash, fun hn hok => openLit_judged hflash hn hok (countJudged_proved ..), fun hn hok =>
      ⟨fun hc => openLit_judged hflash hn hok (countJudged_first hc),
        fun hc => openLit_judged hflash hn hok (countJudged_second hc),
        fun hc => openLit_judged hflash hn hok (countJudged_again hc)⟩⟩

end Sys2Proof.Machine
end

section
/-! What a result makes of a lamp and of the battery: obligation O42 (R91, R93 to R97, R136, R137). -/

namespace Sys2Proof.Machine

set_option Elab.async false

/-! ## The four ways a judgement counts (R95, R96) -/

/-- A judgement of a lamp with record `r`, and red proved formed after it. -/
theorem formBothRed_countJudged {ok : Bool} {P : Prop} (hok : ok = true ↔ P) (i : Fin 12) (r : LampRecord) (s : State) :
    let u := formBothRed (countJudged i ok (s.setLamp i r))
    (P → u = formBothRed (conditionEnd .lampFail (some i.val) (s.setLamp i { r with proved := true, unproved := 0 }))) ∧
    (¬ P → r.unproved = 0 → u = formBothRed (s.setLamp i { r with proved := false, unproved := 1 })) ∧
    (¬ P → r.unproved = 1 → u = formBothRed (conditionPresent .lampFail (some i.val)
      (s.setLamp i { r with proved := false, unproved := 2 }))) ∧
    (¬ P → r.unproved = 2 → u = formBothRed (s.setLamp i { r with proved := false, unproved := 2 })) := by
  obtain rfl : P = (ok = true) := propext hok.symm
  cases ok with
  | true => exact ⟨fun _ => congrArg formBothRed (countJudged_proved ..), fun h => absurd rfl h, fun h => absurd rfl h,
      fun h => absurd rfl h⟩
  | false => exact ⟨fun h => absurd h Bool.false_ne_true, fun _ hc => congrArg formBothRed (countJudged_first hc),
      fun _ hc => congrArg formBothRed (countJudged_second hc), fun _ hc => congrArg formBothRed (countJudged_again hc)⟩

/-! ## A lamp takes a result, by its mode (R93 to R97) -/

section
variable {s : State} {i : Fin 12} {x : ScanResult}

theorem lampResult_steady (hm : s.lamp.lamps[i].mode = .steady)
    (hr : reached x.startTime s.lamp.lamps[i].modeSince = true) :
    lampResult i x s = formBothRed (countJudged i x.proves (s.setLamp i s.lamp.lamps[i])) := by
  simp only [lampResult, State.lampRecord, State.setLamp_same, hm, hr, if_true]

theorem lampResult_steady_early (hm : s.lamp.lamps[i].mode = .steady)
    (hr : reached x.startTime s.lamp.lamps[i].modeSince = false) : lampResult i x s = s := by
  simp only [lampResult, State.lampRecord, hm, hr, Bool.false_eq_true, if_false]

theorem lampResult_flash (hm : s.lamp.lamps[i].mode = .flash) :
    lampResult i x s = formBothRed (flashResult i x s) := by
  simp only [lampResult, State.lampRecord, hm]

theorem lampResult_dark (hm : s.lamp.lamps[i].mode = .dark) : lampResult i x s = darkResult i x s := by
  simp only [lampResult, State.lampRecord, hm]

theorem flashResult_closed (h : s.lamp.lamps[i].intervalStart = none ∨ s.lamp.lamps[i].intervalEnd = none) :
    flashResult i x s = s := by
  unfold flashResult
  dsimp only
  split
  next hstart hstop =>
    obtain hnone | hnone := h
    · exact absurd (hstart.symm.trans hnone) (by simp)
    · exact absurd (hstop.symm.trans hnone) (by simp)
  next => rfl

section
variable {start stop : Time} (hstart : s.lamp.lamps[i].intervalStart = some start)
  (hstop : s.lamp.lamps[i].intervalEnd = some stop)
include hstart hstop

theorem flashResult_open : flashResult i x s =
    if reached x.startTime stop then judgeInterval i s
    else if x.proves && x.inside start stop then s.setLamp i { s.lamp.lamps[i] with intervalOk := true }
    else s := by
  simp only [flashResult, State.lampRecord, hstart, hstop]

theorem flashResult_after (hr : reached x.startTime stop = true) : flashResult i x s =
    countJudged i s.lamp.lamps[i].intervalOk (s.setLamp i s.lamp.lamps[i].dropInterval) :=
  (flashResult_open hstart hstop).trans (if_pos hr)

variable (hr : reached x.startTime stop = false)
include hr

theorem flashResult_proves (hp : x.proves = true) (hin : x.inside start stop = true) :
    flashResult i x s = s.setLamp i { s.lamp.lamps[i] with intervalOk := true } := by
  rw [flashResult_open hstart hstop, hr, hp, hin]
  rfl

theorem flashResult_passes (h : ¬ (x.proves = true ∧ x.inside start stop = true)) : flashResult i x s = s := by
  rw [flashResult_open hstart hstop, hr]
  exact if_neg (mt (Bool.and_eq_true _ _).mp h)

end

theorem darkResult_early (hr : reached x.startTime s.lamp.lamps[i].modeSince = false) : darkResult i x s = s := by
  simp only [darkResult, State.lampRecord, hr, Bool.not_false, if_true]

/-! ### Stuck on (R97) -/

section
variable (hr : reached x.startTime s.lamp.lamps[i].modeSince = true)
include hr

theorem darkResult_sticks (ht : x.trips = true) (hs : s.lamp.lamps[i].stuckOn = false) : darkResult i x s =
    conditionPresent .lampStuckOn (some i.val) (s.setLamp i { s.lamp.lamps[i] with stuckOn := true }) := by
  simp only [darkResult, State.lampRecord, hr, ht, hs, Bool.not_true, Bool.false_eq_true, if_false]

theorem darkResult_frees (ht : x.trips = false) (hs : s.lamp.lamps[i].stuckOn = true) : darkResult i x s =
    conditionEnd .lampStuckOn (some i.val) (s.setLamp i { s.lamp.lamps[i] with stuckOn := false }) := by
  simp only [darkResult, State.lampRecord, hr, ht, hs, Bool.not_true, Bool.false_eq_true, if_false]

theorem darkResult_same (h : x.trips = s.lamp.lamps[i].stuckOn) : darkResult i x s = s := by
  cases hs : s.lamp.lamps[i].stuckOn <;>
    simp only [darkResult, State.lampRecord, hr, h, hs, Bool.not_true, Bool.false_eq_true, if_false]

end

theorem trips_iff (x : ScanResult) : x.trips = true ↔ x.cls = .high ∨ x.overrange = true := by
  simp [ScanResult.trips]

theorem inside_iff (x : ScanResult) (start stop : Time) :
    x.inside start stop = true ↔ reached x.startTime start = true ∧ reached stop x.endTime = true := by
  rw [ScanResult.inside, Bool.and_eq_true]

end

/-! ## The battery (R91, R136, R137) -/

/-- A battery fault judged at its level: present below it, ended more than the hysteresis above it. -/
def judgeLevel (c : FaultCode) (level v : Nat) (present : Bool) (sets : Bool → State → State) (s : State) : State :=
  if v < level then if present then s else conditionPresent c none (sets true s)
  else if level + Config.batteryHysteresis < v ∧ present then conditionEnd c none (sets false s)
  else s

/-- BATTERY_LOW is held as present or not. -/
def isBatteryLow (b : Bool) (u : State) : State := { u with scan := { u.scan with batteryLow := b } }

/-- BATTERY_CRITICAL is held as present or not. -/
def isBatteryCritical (b : Bool) (u : State) : State := { u with scan := { u.scan with batteryCritical := b } }

theorem judgeBatteryLow_eq (v : Nat) (s : State) : judgeBatteryLow v s =
    judgeLevel .batteryLow s.params.batteryLow v s.scan.batteryLow isBatteryLow s := rfl

theorem judgeBatteryCritical_eq (v : Nat) (s : State) : judgeBatteryCritical v s =
    judgeLevel .batteryCritical s.params.batteryCritical v s.scan.batteryCritical isBatteryCritical s := rfl

/-- What is done of each case of the level is what the judgement does. -/
theorem judgeLevel_cases {c : FaultCode} {level v : Nat} {present : Bool} {sets : Bool → State → State}
    {f : State → State} (hfalls : v < level → present = false → f = fun u => conditionPresent c none (sets true u))
    (hrises : level + 200 < v → present = true → f = fun u => conditionEnd c none (sets false u))
    (hbetween : level ≤ v → v ≤ level + 200 → f = id) (hstays : v < level → present = true → f = id)
    (habsent : level + 200 < v → present = false → f = id) (s : State) : judgeLevel c level v present sets s = f s := by
  unfold judgeLevel Config.batteryHysteresis
  by_cases hlow : v < level
  · rw [if_pos hlow]
    cases present with
    | true => rw [hstays hlow rfl]; rfl
    | false => rw [hfalls hlow rfl]; rfl
  · rw [if_neg hlow]
    by_cases hhigh : level + 200 < v
    · cases present with
      | true => rw [hrises hhigh rfl, if_pos ⟨hhigh, rfl⟩]
      | false => rw [habsent hhigh rfl, if_neg fun h => Bool.false_ne_true h.2]; rfl
    · rw [hbetween (not_lt.1 hlow) (not_lt.1 hhigh), if_neg fun h => hhigh h.1]; rfl

/-- V_bat is formed. -/
def State.withBattery (s : State) (v : Nat) : State := { s with scan := { s.scan with vBat := some v } }

/-- Judging BATTERY_LOW leaves BATTERY_CRITICAL. -/
theorem judgeBatteryLow_critical (v : Nat) (s : State) :
    (judgeBatteryLow v s).scan.batteryCritical = s.scan.batteryCritical := by
  have hpresent (u : State) : (conditionPresent .batteryLow none u).scan = u.scan :=
    (conditionPresent_frame ..).scanner (by decide) (by decide) (by decide) (by decide)
  have hend (u : State) : (conditionEnd .batteryLow none u).scan = u.scan :=
    (conditionEnd_frame ..).scanner (by decide) (by decide) (by decide) (by decide)
  unfold judgeBatteryLow
  split
  · split
    · rfl
    · rw [hpresent]
  · split
    · rw [hend]
    · rfl

theorem judgeBatteryLow_params (v : Nat) (s : State) : (judgeBatteryLow v s).params = s.params := by
  rw [State.params, (judgeBatteryLow_frame v s).tables (by decide), State.params]

/-- The two battery faults judged on a V_bat (R137). -/
def batteryJudged (v : Nat) (s : State) : State := judgeBatteryCritical v (judgeBatteryLow v (s.withBattery v))

theorem batteryJudged_frame (v : Nat) (s : State) :
    Frame [.battery, .faults, .newFault, .handed] s (batteryJudged v s) :=
  ((Frame.refl _ s).withScan.step (judgeBatteryLow_frame ..)).step (judgeBatteryCritical_frame ..)

section
variable {s : State} {x : ScanResult}

theorem batteryResult_untaken (h : s.tm.valid = false ∨ x.overrange = true) : batteryResult x s = s := by
  refine if_neg fun htaken => ?_
  rw [Bool.and_eq_true, Bool.not_eq_true'] at htaken
  obtain ⟨hvalid, hover⟩ := htaken
  exact h.elim (fun hv => Bool.false_ne_true (hv.symm.trans hvalid)) fun ho => Bool.false_ne_true (hover.symm.trans ho)

theorem batteryResult_taken (hv : s.tm.valid = true) (ho : x.overrange = false) : batteryResult x s =
    let v := batteryVoltage x.code s.params.batterySpan
    setDuty v (batteryJudged v s) := by
  rw [batteryResult, hv, ho]
  rfl

end

theorem setDuty_zero (s : State) : setDuty 0 s = s := rfl

/-- From a V_bat above 0 the duty is formed, of the parameters as they were before the judgement (R91). -/
theorem setDuty_judged {v : Nat} (hv : 0 < v) (s : State) : setDuty v (batteryJudged v s) = { batteryJudged v s with
    lamp := { s.lamp with duty := some (min 100 (s.params.lampBaseDuty * s.params.vNominal / v)) } } := by
  have hframe := batteryJudged_frame v s
  rw [setDuty, if_neg hv.ne', State.params, hframe.tables (by decide), hframe.lamp (by decide), State.params]

/-- Settles O42: a lamp's result by its mode, the battery's by its two levels and its duty. -/
theorem lampAndBatteryResults : Obligations.LampAndBatteryResults := by
  refine ⟨fun s i x => ?_, fun s x => ?_⟩
  · intro r proves sets judged
    have hinside {start stop : Time} : x.proves = true ∧ x.inside start stop = true ↔
        proves ∧ reached x.startTime start = true ∧ reached stop x.endTime = true :=
      and_congr (proves_iff x) (inside_iff x start stop)
    refine ⟨fun hm hr => ?_, lampResult_steady_early, fun start stop hm hstart hstop => ⟨fun hr => ?_,
      fun hr hp hin hend => ?_, fun hr hn => ?_⟩, fun hm hclosed => ?_, fun hm hr => ⟨fun ht hs => ?_,
      fun hc ho hs => ?_, fun h => ?_⟩, fun hm hr => ?_⟩
    · rw [lampResult_steady hm hr]
      exact formBothRed_countJudged (proves_iff x) i r s
    · rw [lampResult_flash hm, flashResult_after hstart hstop hr]
      exact formBothRed_countJudged Iff.rfl i r.dropInterval s
    · obtain ⟨hproves, hspan⟩ := hinside.2 ⟨hp, hin, hend⟩
      rw [lampResult_flash hm, flashResult_proves hstart hstop hr hproves hspan]
      rfl
    · rw [lampResult_flash hm, flashResult_passes hstart hstop hr (mt hinside.1 hn)]
    · rw [lampResult_flash hm, flashResult_closed hclosed]
    · exact (lampResult_dark hm).trans (darkResult_sticks hr ((trips_iff x).2 ht) hs)
    · have hquiet : x.trips = false := Bool.eq_false_iff.2 (mt (trips_iff x).1 (by simp [hc, ho]))
      exact (lampResult_dark hm).trans (darkResult_frees hr hquiet hs)
    · exact (lampResult_dark hm).trans (darkResult_same hr (Bool.eq_iff_iff.2 ((trips_iff x).trans h)))
    · exact (lampResult_dark hm).trans (darkResult_early hr)
  · intro p v formed isLow isCritical
    refine ⟨batteryResult_untaken, fun hv ho low critical lowFalls lowRises lowBetween lowStays lowAbsent criticalFalls
      criticalRises criticalBetween criticalStays criticalAbsent => ?_⟩
    intro judged
    have hlow : judgeBatteryLow v formed = low formed :=
      judgeLevel_cases lowFalls lowRises lowBetween lowStays lowAbsent formed
    have hcritical : judgeBatteryCritical v (judgeBatteryLow v formed) = critical (judgeBatteryLow v formed) := by
      rw [judgeBatteryCritical_eq, judgeBatteryLow_critical, judgeBatteryLow_params]
      exact judgeLevel_cases criticalFalls criticalRises criticalBetween criticalStays criticalAbsent _
    have hjudged : batteryJudged v s = judged := hcritical.trans (congrArg critical hlow)
    have htaken : batteryResult x s = setDuty v (batteryJudged v s) := batteryResult_taken hv ho
    refine ⟨fun hzero => ?_, fun hpos => ?_⟩
    · rw [htaken, ← hjudged, hzero, setDuty_zero]
    · rw [htaken, setDuty_judged hpos, hjudged]
      rfl

end Sys2Proof.Machine
end

section
/-! SUPPORT. The bounds of the fault table, and the records of its ALARM conditions, through each of its operations (R140
to R144, R149). -/

namespace Sys2Proof.Machine

set_option Elab.async false

/-- The pair that a record is held for. -/
def FaultRecord.key (r : FaultRecord) : FaultCode × Option Nat := (r.code, r.subject)

/-- The table holds the record of a condition that is present. -/
def FaultRecorder.Holds (f : FaultRecorder) (c : FaultCode) (x : Option Nat) : Prop :=
  ∃ r ∈ f.records, r.code = c ∧ r.subject = x ∧ r.state ≠ .latched

/-- The table after a condition has become present (R141). -/
def FaultRecorder.presented (f : FaultRecorder) (c : FaultCode) (x : Option Nat) (now : Time) : FaultRecorder :=
  match findRecord f.records c x with
  | some r =>
    match r.state with
    | .latched => { f with records := updateRecord f.records c x fun r =>
        { r with state := .active, lastTime := now, occurrences := moreOccurrences r.occurrences } }
    | .active | .acceptedActive =>
      { f with records := updateRecord f.records c x fun r => { r with lastTime := now } }
  | none => (f.enter { code := c, subject := x, state := .active, firstTime := now, lastTime := now,
                       occurrences := 1, detail := none }).1

/-- The table after an event has been entered (R143). -/
def FaultRecorder.evented (f : FaultRecorder) (c : FaultCode) (x : Option Nat) (detail : Option CalReason)
    (now : Time) : FaultRecorder :=
  match findRecord f.records c x with
  | some _ => { f with records := updateRecord f.records c x fun r =>
      { r with lastTime := now, occurrences := moreOccurrences r.occurrences, detail := detail } }
  | none => (f.enter { code := c, subject := x, state := .latched, firstTime := now, lastTime := now,
                       occurrences := 1, detail := detail }).1

theorem markNewFault_faults (c : FaultCode) (s : State) : (markNewFault c s).faults = s.faults :=
  (markNewFault_frame c s).faults (by decide)

theorem becameActive_faults (c : FaultCode) (s : State) : (becameActive c s).faults = s.faults :=
  (becameActive_frame c s).faults (by decide)

theorem conditionPresent_faults (c : FaultCode) (x : Option Nat) (s : State) :
    (conditionPresent c x s).faults = s.faults.presented c x s.now := by
  unfold conditionPresent FaultRecorder.presented
  cases findRecord s.faults.records c x with
  | none => dsimp only; split <;> simp [becameActive_faults]
  | some r => dsimp only; split <;> simp_all [becameActive_faults]

theorem eventEntered_faults (c : FaultCode) (x : Option Nat) (detail : Option CalReason) (s : State) :
    (eventEntered c x detail s).faults = s.faults.evented c x detail s.now := by
  unfold eventEntered FaultRecorder.evented
  cases findRecord s.faults.records c x with
  | none => dsimp only; split <;> simp [markNewFault_faults]
  | some r => exact markNewFault_faults ..

theorem conditionEnd_faults (c : FaultCode) (x : Option Nat) (s : State) :
    (conditionEnd c x s).faults = s.faults.ended c x := by rw [conditionEnd_eq]

/-! ## A record put in the place of one of its pair -/

section
variable {f : FaultRecorder} {c : FaultCode} {x : Option Nat} {g : FaultRecord → FaultRecord}

theorem updateRecord_length : (updateRecord f.records c x g).length = f.records.length := List.length_map ..

/-- Where the new record has the pair of the old, no key is changed. -/
theorem updateRecord_keys (hg : ∀ r, (g r).key = r.key) :
    (updateRecord f.records c x g).map FaultRecord.key = f.records.map FaultRecord.key := by
  rw [updateRecord, List.map_map]
  refine List.map_congr_left fun r _ => ?_
  dsimp only [Function.comp]
  split
  · exact hg r
  · rfl

/-- The bounds, where the new record has the pair of the old, and is LATCHED with it if it is an event's. -/
theorem FaultBounds.update (h : FaultBounds f) (hg : ∀ r, (g r).key = r.key)
    (hl : c.kind = .event → ∀ r, (g r).state = r.state) :
    FaultBounds { f with records := updateRecord f.records c x g } := by
  have hcode (r) : (g r).code = r.code := congrArg Prod.fst (hg r)
  have hsubject (r) : (g r).subject = r.subject := congrArg Prod.snd (hg r)
  refine ⟨le_of_eq_of_le updateRecord_length h.length, ?_, ?_, ?_⟩
  · exact (congrArg List.Nodup (updateRecord_keys hg)).mpr h.keys
  · intro r hr hkind
    rcases mem_updateRecord.1 hr with ⟨hr, -⟩ | ⟨q, hq, hfor, rfl⟩
    · exact h.events r hr hkind
    · rw [hcode] at hkind
      have hc : c.kind = .event := (isFor_iff.1 hfor).1 ▸ hkind
      exact (hl hc q).trans (h.events q hq hkind)
  · intro r hr hcls
    rcases mem_updateRecord.1 hr with ⟨hr, -⟩ | ⟨q, hq, -, rfl⟩
    · exact h.alarms r hr hcls
    · rw [hcode, hsubject] at *
      exact h.alarms q hq hcls

/-- A present condition keeps its record, where the new record is that of a present condition too. -/
theorem FaultRecorder.Holds.update {c' : FaultCode} {x' : Option Nat} (h : f.Holds c' x') (hg : ∀ r, (g r).key = r.key)
    (hs : ∀ r, r.state ≠ .latched → (g r).state ≠ .latched) :
    FaultRecorder.Holds { f with records := updateRecord f.records c x g } c' x' := by
  obtain ⟨r, hr, hcode, hsubject, hstate⟩ := h
  cases hfor : r.isFor c x with
  | false => exact ⟨r, mem_updateRecord.2 (.inl ⟨hr, hfor⟩), hcode, hsubject, hstate⟩
  | true =>
    refine ⟨g r, mem_updateRecord.2 (.inr ⟨r, hr, hfor, rfl⟩), ?_, ?_, hs r hstate⟩
    · exact (congrArg Prod.fst (hg r)).trans hcode
    · exact (congrArg Prod.snd (hg r)).trans hsubject

end

/-! ## Displacement (R144) -/

theorem foldl_min_eq_or_mem (l : List Nat) (b : Nat) : l.foldl min b = b ∨ l.foldl min b ∈ l := by
  induction l generalizing b with
  | nil => exact .inl rfl
  | cons a l ih =>
    rw [List.foldl_cons]
    rcases ih (min b a) with h | h
    · rw [h]
      rcases Nat.le_total b a with hba | hba
      · exact .inl (Nat.min_eq_left hba)
      · exact .inr (by rw [Nat.min_eq_right hba]; exact List.mem_cons_self)
    · exact .inr (List.mem_cons_of_mem _ h)

theorem foldl_min_le (l : List Nat) (b : Nat) : l.foldl min b ≤ b ∧ ∀ a ∈ l, l.foldl min b ≤ a := by
  induction l generalizing b with
  | nil => simp
  | cons d l ih =>
    obtain ⟨hb, hl⟩ := ih (min b d)
    rw [List.foldl_cons]
    refine ⟨hb.trans (Nat.min_le_left b d), fun a ha => ?_⟩
    rcases List.mem_cons.1 ha with rfl | ha
    · exact hb.trans (Nat.min_le_right b a)
    · exact hl a ha

/-- The class displaced first is that of a LATCHED record, where there is one. -/
theorem lowestLatchedRank_attained {rs : List FaultRecord} {r : FaultRecord} (hr : r ∈ rs) (hl : r.state = .latched) :
    ∃ q ∈ rs, q.state = .latched ∧ q.code.cls.rank = lowestLatchedRank rs := by
  have hrank (c : FaultCode) : c.cls.rank < 3 := by cases c <;> decide
  have hmem : r.code.cls.rank ∈ (rs.filter (·.state == .latched)).map (·.code.cls.rank) :=
    List.mem_map.2 ⟨r, List.mem_filter.2 ⟨hr, by simp [hl]⟩, rfl⟩
  rcases foldl_min_eq_or_mem ((rs.filter (·.state == .latched)).map (·.code.cls.rank)) 3 with h | h
  · exact absurd ((foldl_min_le _ 3).2 _ hmem) (by rw [h]; exact Nat.not_le.2 (hrank _))
  · obtain ⟨q, hq, hqr⟩ := List.mem_map.1 h
    obtain ⟨hq, hql⟩ := List.mem_filter.1 hq
    exact ⟨q, hq, by simpa using hql, hqr⟩

/-- A displaced record is not that of an ALARM condition that is present. -/
theorem displacedPlace_spares {rs : List FaultRecord} {cls : FaultClass} {i : Nat}
    (h : displacedPlace rs cls = some i) {r : FaultRecord} (hr : rs[i]? = some r) :
    r.state = .latched ∨ r.code.cls ≠ .alarm := by
  unfold displacedPlace at h
  split at h
  next j hj =>
    obtain rfl := Option.some.inj h
    obtain ⟨hlt, hp, -⟩ := List.findIdx?_eq_some_iff_getElem.1 hj
    rw [List.getElem?_eq_getElem hlt] at hr
    obtain rfl := Option.some.inj hr
    exact .inl (by simpa using ((Bool.and_eq_true ..).mp hp).1)
  next =>
    split at h
    next =>
      obtain ⟨hlt, hp, -⟩ := List.findIdx?_eq_some_iff_getElem.1 h
      rw [List.getElem?_eq_getElem hlt] at hr
      obtain rfl := Option.some.inj hr
      exact .inr (by simpa using ((Bool.and_eq_true ..).mp hp).2)
    all_goals cases h

/-- The 16 pairs of the ALARM records (R144). -/
def alarmKeys : List (FaultCode × Option Nat) :=
  [(.batteryCritical, none), (.tableInvalid, none)] ++ (List.range 2).map (fun k => (.roadSideDark, some k)) ++
    (List.range 4).map (fun k => (.barrierStall, some k)) ++ (List.range 4).map (fun k => (.barrierTimeout, some k)) ++
    (List.range 4).map fun k => (.barrierDisagree, some k)

theorem mem_alarmKeys {c : FaultCode} {x : Option Nat} (hc : c.cls = .alarm) (h : AlarmPair c x) :
    (c, x) ∈ alarmKeys := by
  cases c <;> simp only [FaultCode.cls, reduceCtorEq] at hc <;> simp only [AlarmPair] at h
  case roadSideDark | barrierStall | barrierTimeout | barrierDisagree =>
    obtain ⟨k, rfl, hk⟩ := h
    simp [alarmKeys]
    omega
  case batteryCritical | tableInvalid => simp [alarmKeys, h]

/-- Not all of a full table is ALARM conditions that are present: they have 16 pairs. -/
theorem FaultBounds.exists_displaceable {f : FaultRecorder} (h : FaultBounds f) (hfull : 16 < f.records.length) :
    ∃ r ∈ f.records, r.state = .latched ∨ r.code.cls ≠ .alarm := by
  by_contra hno
  push Not at hno
  have hsub : f.records.map FaultRecord.key ⊆ alarmKeys := by
    intro k hk
    obtain ⟨r, hr, rfl⟩ := List.mem_map.1 hk
    exact mem_alarmKeys (hno r hr).2 (h.alarms r hr (hno r hr).2)
  have hle : (f.records.map FaultRecord.key).length ≤ 16 := (List.Nodup.subperm h.keys hsub).length_le
  rw [List.length_map] at hle
  omega

/-- A new ALARM record finds a place in a full table. -/
theorem displacedPlace_of_alarm {rs : List FaultRecord} {r : FaultRecord} (hr : r ∈ rs)
    (hd : r.state = .latched ∨ r.code.cls ≠ .alarm) : displacedPlace rs .alarm ≠ none := by
  intro hnone
  unfold displacedPlace at hnone
  split at hnone
  next => cases hnone
  next hlatched =>
    have hno := List.findIdx?_eq_none_iff.1 hlatched
    have hopen : r.state ≠ .latched := fun hl => by
      obtain ⟨q, hq, hql, hqr⟩ := lowestLatchedRank_attained hr hl
      exact absurd (hno q hq) (by simp [hql, hqr])
    have := List.findIdx?_eq_none_iff.1 hnone r hr
    simp only [Bool.and_eq_false_iff, bne_eq_false_iff_eq] at this
    exact this.elim hopen fun hcls => hd.elim hopen fun h => h hcls

/-! ## A new record (R140, R144) -/

section
variable {f : FaultRecorder} {r : FaultRecord}

/-- A new record is placed after the others, or after those that displacement leaves; or it is not entered. -/
theorem FaultRecorder.enter_cases (f : FaultRecorder) (r : FaultRecord) :
    (f.records.length < 32 ∧ (f.enter r).1.records = f.records ++ [r]) ∨
    (∃ i, 32 ≤ f.records.length ∧ displacedPlace f.records r.code.cls = some i ∧
      (f.enter r).1.records = f.records.eraseIdx i ++ [r]) ∨
    (32 ≤ f.records.length ∧ displacedPlace f.records r.code.cls = none ∧ (f.enter r).1.records = f.records) := by
  unfold FaultRecorder.enter
  split
  next h => exact .inl ⟨h, rfl⟩
  next h =>
    have hfull : 32 ≤ f.records.length := Nat.le_of_not_lt h
    split
    next i hi => exact .inr (.inl ⟨i, hfull, hi, rfl⟩)
    next hi => exact .inr (.inr ⟨hfull, hi, rfl⟩)

theorem FaultBounds.of_records {g : FaultRecorder} (h : FaultBounds f) (hg : g.records = f.records) :
    FaultBounds g := by
  cases f; cases g
  cases hg
  exact ⟨h.length, h.keys, h.events, h.alarms⟩

/-- The bounds of some of the records and a new one. -/
theorem FaultBounds.append {g : FaultRecorder} {rs : List FaultRecord} (h : FaultBounds f) (hsub : rs.Sublist f.records)
    (hg : g.records = rs ++ [r]) (hlt : rs.length < 32) (hnew : r.key ∉ f.records.map FaultRecord.key)
    (hevent : r.code.kind = .event → r.state = .latched) (halarm : r.code.cls = .alarm → AlarmPair r.code r.subject) :
    FaultBounds g := by
  refine ⟨?_, ?_, ?_, ?_⟩ <;> rw [hg]
  · rw [List.length_append]
    exact hlt
  · rw [List.map_append, List.nodup_append]
    refine ⟨h.keys.sublist (hsub.map _), List.nodup_singleton _, fun a ha b hb hab => hnew ?_⟩
    have hbr : b = r.key := List.mem_singleton.1 hb
    rw [← hbr, ← hab]
    exact (hsub.map _).subset ha
  · intro q hq hkind
    rcases List.mem_append.1 hq with hq | hq
    · exact h.events q (hsub.subset hq) hkind
    · obtain rfl := List.mem_singleton.1 hq
      exact hevent hkind
  · intro q hq hcls
    rcases List.mem_append.1 hq with hq | hq
    · exact h.alarms q (hsub.subset hq) hcls
    · obtain rfl := List.mem_singleton.1 hq
      exact halarm hcls

theorem displacedPlace_lt {rs : List FaultRecord} {cls : FaultClass} {i : Nat} (h : displacedPlace rs cls = some i) :
    i < rs.length := by
  unfold displacedPlace at h
  split at h
  next j hj =>
    obtain rfl := Option.some.inj h
    exact (List.findIdx?_eq_some_iff_getElem.1 hj).choose
  next =>
    split at h
    next => exact (List.findIdx?_eq_some_iff_getElem.1 h).choose
    all_goals cases h

theorem FaultBounds.enter (h : FaultBounds f) (hnew : r.key ∉ f.records.map FaultRecord.key)
    (hevent : r.code.kind = .event → r.state = .latched) (halarm : r.code.cls = .alarm → AlarmPair r.code r.subject) :
    FaultBounds (f.enter r).1 := by
  rcases f.enter_cases r with ⟨hlt, hg⟩ | ⟨i, -, hi, hg⟩ | ⟨-, -, hg⟩
  · exact h.append (.refl _) hg hlt hnew hevent halarm
  · refine h.append (List.eraseIdx_sublist ..) hg ?_ hnew hevent halarm
    rw [List.length_eraseIdx_of_lt (displacedPlace_lt hi)]
    have := displacedPlace_lt hi
    have := h.length
    omega
  · exact h.of_records hg

/-- An ALARM condition that is present keeps its record. -/
theorem FaultRecorder.Holds.enter {c : FaultCode} {x : Option Nat} (h : f.Holds c x) (hc : c.cls = .alarm) :
    (f.enter r).1.Holds c x := by
  obtain ⟨q, hq, hcode, hsubject, hstate⟩ := h
  refine ⟨q, ?_, hcode, hsubject, hstate⟩
  rcases f.enter_cases r with ⟨-, hg⟩ | ⟨i, -, hi, hg⟩ | ⟨-, -, hg⟩ <;> rw [hg]
  · exact List.mem_append_left _ hq
  · obtain ⟨j, hj, rfl⟩ := List.getElem_of_mem hq
    refine List.mem_append_left _ (List.mem_eraseIdx_iff_getElem.2 ⟨j, hj, ?_, rfl⟩)
    rintro rfl
    rcases displacedPlace_spares hi (List.getElem?_eq_getElem hj) with h | h
    · exact hstate h
    · exact h (hcode ▸ hc)
  · exact hq

/-- A new ALARM record is entered in any table that keeps its bounds. -/
theorem FaultBounds.mem_enter (h : FaultBounds f) (hc : r.code.cls = .alarm) : r ∈ (f.enter r).1.records := by
  rcases f.enter_cases r with ⟨-, hg⟩ | ⟨i, -, -, hg⟩ | ⟨hfull, hnone, -⟩
  · rw [hg]; exact List.mem_append_right _ (List.mem_singleton_self r)
  · rw [hg]; exact List.mem_append_right _ (List.mem_singleton_self r)
  · obtain ⟨q, hq, hd⟩ := h.exists_displaceable (by omega)
    rw [hc] at hnone
    exact absurd hnone (displacedPlace_of_alarm hq hd)

end

/-! ## The operations (R141 to R143, R149) -/

/-- No event is of class ALARM (8.1). -/
theorem FaultCode.event_not_alarm {c : FaultCode} (h : c.kind = .event) : c.cls ≠ .alarm := by
  revert h
  cases c <;> decide

section
variable {f : FaultRecorder} {c : FaultCode} {x : Option Nat}

theorem findRecord_none {rs : List FaultRecord} (h : findRecord rs c x = none) :
    (c, x) ∉ rs.map FaultRecord.key := by
  intro hmem
  obtain ⟨r, hr, hkey⟩ := List.mem_map.1 hmem
  exact absurd (isFor_iff.2 (Prod.ext_iff.1 hkey)) (List.find?_eq_none.1 h r hr)

theorem FaultBounds.presented (h : FaultBounds f) (hk : c.kind = .condition) (ha : c.cls = .alarm → AlarmPair c x)
    (now : Time) : FaultBounds (f.presented c x now) := by
  have hevent : ¬ c.kind = .event := by simp [hk]
  unfold FaultRecorder.presented
  split
  next =>
    split
    · exact h.update (fun _ => rfl) fun k => absurd k hevent
    · exact h.update (fun _ => rfl) fun k => absurd k hevent
    · exact h.update (fun _ => rfl) fun k => absurd k hevent
  next hnone => exact h.enter (findRecord_none hnone) (fun k => absurd k hevent) ha

theorem FaultBounds.evented (h : FaultBounds f) (hk : c.kind = .event) (detail : Option CalReason) (now : Time) :
    FaultBounds (f.evented c x detail now) := by
  unfold FaultRecorder.evented
  split
  next => exact h.update (fun _ => rfl) fun _ _ => rfl
  next hnone =>
    exact h.enter (findRecord_none hnone) (fun _ => rfl) fun hcls => absurd hcls (FaultCode.event_not_alarm hk)

theorem FaultBounds.ended (h : FaultBounds f) (hk : c.kind = .condition) : FaultBounds (f.ended c x) := by
  unfold FaultRecorder.ended
  split
  next =>
    split
    · exact h.update (fun _ => rfl) fun k => absurd (hk.symm.trans k) (by decide)
    · have hsub : (f.records.filter fun r => !r.isFor c x).Sublist f.records := List.filter_sublist
      exact ⟨hsub.length_le.trans h.length, h.keys.sublist (hsub.map _), fun r hr => h.events r (hsub.subset hr),
        fun r hr => h.alarms r (hsub.subset hr)⟩
    · exact h
  next => exact h

theorem FaultBounds.accept (h : FaultBounds f) : FaultBounds f.accept := by
  have hmem {r : FaultRecord} (hr : r ∈ f.accept.records) :
      ∃ q ∈ f.records, q.state ≠ .latched ∧ { q with state := .acceptedActive } = r := by
    obtain ⟨q, hq, hqr⟩ := List.mem_map.1 hr
    obtain ⟨hq, hl⟩ := List.mem_filter.1 hq
    exact ⟨q, hq, by simpa using hl, hqr⟩
  refine ⟨?_, ?_, ?_, ?_⟩
  · exact (List.length_map ..).trans_le ((List.length_filter_le ..).trans h.length)
  · have hkeys : f.accept.records.map FaultRecord.key =
        (f.records.filter fun r => r.state != .latched).map FaultRecord.key :=
      (List.map_map ..).trans (List.map_congr_left fun _ _ => rfl)
    exact (congrArg List.Nodup hkeys).mpr (h.keys.sublist (List.filter_sublist.map _))
  · intro r hr hkind
    obtain ⟨q, hq, hopen, rfl⟩ := hmem hr
    exact absurd (h.events q hq hkind) hopen
  · intro r hr hcls
    obtain ⟨q, hq, -, rfl⟩ := hmem hr
    exact h.alarms q hq hcls

theorem FaultRecorder.Holds.presented (h : f.Holds c x) (hc : c.cls = .alarm) (c' : FaultCode) (x' : Option Nat)
    (now : Time) : (f.presented c' x' now).Holds c x := by
  unfold FaultRecorder.presented
  split
  next =>
    split
    · exact h.update (fun _ => rfl) fun _ _ hl => by cases hl
    · exact h.update (fun _ => rfl) fun _ hs => hs
    · exact h.update (fun _ => rfl) fun _ hs => hs
  next => exact h.enter hc

theorem FaultRecorder.Holds.evented (h : f.Holds c x) (hc : c.cls = .alarm) (c' : FaultCode) (x' : Option Nat)
    (detail : Option CalReason) (now : Time) : (f.evented c' x' detail now).Holds c x := by
  unfold FaultRecorder.evented
  split
  next => exact h.update (fun _ => rfl) fun _ hs => hs
  next => exact h.enter hc

theorem FaultRecorder.Holds.ended (h : f.Holds c x) {c' : FaultCode} {x' : Option Nat} (hne : c ≠ c' ∨ x ≠ x') :
    (f.ended c' x').Holds c x := by
  obtain ⟨r, hr, hcode, hsubject, hstate⟩ := h
  have hother : r.isFor c' x' ≠ true := fun hfor => by
    obtain ⟨hc, hx⟩ := isFor_iff.1 hfor
    exact hne.elim (fun hn => hn (hcode.symm.trans hc)) fun hn => hn (hsubject.symm.trans hx)
  exact ⟨r, ((endsOnly_ended f c' x').others r hother).2 hr, hcode, hsubject, hstate⟩

/-- FAULT_ACCEPT leaves each condition that is present its record. -/
theorem FaultRecorder.Holds.accept (h : f.Holds c x) : f.accept.Holds c x := by
  obtain ⟨r, hr, hcode, hsubject, hstate⟩ := h
  exact ⟨{ r with state := .acceptedActive }, List.mem_map.2 ⟨r, List.mem_filter.2 ⟨hr, by simpa using hstate⟩, rfl⟩,
    hcode, hsubject, fun hl => by cases hl⟩

/-- An ALARM condition that becomes present has its record then, in a full table too. -/
theorem FaultBounds.holds_presented (h : FaultBounds f) (hc : c.cls = .alarm) (now : Time) :
    (f.presented c x now).Holds c x := by
  unfold FaultRecorder.presented
  split
  next r hfind =>
    obtain ⟨hr, hcode, hsubject⟩ := findRecord_spec hfind
    have hfor := isFor_iff.2 ⟨hcode, hsubject⟩
    split
    next =>
      exact ⟨_, mem_updateRecord.2 (.inr ⟨r, hr, hfor, rfl⟩), hcode, hsubject, fun hl => by cases hl⟩
    next hs =>
      exact ⟨_, mem_updateRecord.2 (.inr ⟨r, hr, hfor, rfl⟩), hcode, hsubject, fun hl => by cases hs.symm.trans hl⟩
    next hs =>
      exact ⟨_, mem_updateRecord.2 (.inr ⟨r, hr, hfor, rfl⟩), hcode, hsubject, fun hl => by cases hs.symm.trans hl⟩
  next => exact ⟨_, h.mem_enter hc, rfl, rfl, fun hl => by cases hl⟩

end

end Sys2Proof.Machine
end

section
/-! SUPPORT. The bounds of the ports, of the command queue and of the passage banks, through each of their operations
(R156 to R158, R164 to R171). -/

namespace Sys2Proof.Machine

set_option Elab.async false

/-! ## The bounds by their parts -/

/-- The bounds of the two banks; at most one of them is FILLING. -/
def BanksBounded (r : ReportUnit) : Prop :=
  (∀ one, BankBounds (r.bank one)) ∧ ∀ one, (r.bank one).state = .filling → (r.bank !one).state ≠ .filling

theorem bounded_iff (s : State) : Bounded s ↔
    (∀ p, PortBounds (s.lnu.port p)) ∧ QueueBounds s.lnu ∧ FaultBounds s.faults ∧ BanksBounded s.report := by
  constructor
  · intro h
    refine ⟨fun p => ?_, h.queue, h.faults, fun one => ?_, fun one hone hother => ?_⟩
    · cases p with
      | a => exact h.portA
      | b => exact h.portB
    · cases one with
      | false => exact h.bank0
      | true => exact h.bank1
    · cases one with
      | false => exact h.filling ⟨hone, hother⟩
      | true => exact h.filling ⟨hother, hone⟩
  · rintro ⟨hports, hqueue, hfaults, hbanks, hfilling⟩
    exact ⟨hports .a, hports .b, hqueue, hfaults, hbanks false, hbanks true, fun h => hfilling false h.1 h.2⟩

theorem Frame.port {ps : List Part} {s t : State} (h : Frame ps s t) (m : Part.ports ∉ ps) (p : Port) :
    t.lnu.port p = s.lnu.port p := by
  cases p with
  | a => exact h.portA m
  | b => exact h.portB m

theorem Frame.bank {ps : List Part} {s t : State} (h : Frame ps s t) (m : Part.banks ∉ ps) (one : Bool) :
    t.report.bank one = s.report.bank one := by
  cases one with
  | false => exact h.bank0 m
  | true => exact h.bank1 m

theorem QueueBounds.of_frame {ps : List Part} {s t : State} (h : QueueBounds s.lnu) (hf : Frame ps s t)
    (m : Part.queue ∉ ps) : QueueBounds t.lnu := by
  constructor
  · rw [hf.queue m]; exact h.queue
  · rw [hf.queue m, hf.processor m]; exact h.taken
  · rw [hf.restarting m, hf.processor m]; exact h.restarting

theorem BanksBounded.of_frame {ps : List Part} {s t : State} (h : BanksBounded s.report) (hf : Frame ps s t)
    (m : Part.banks ∉ ps) : BanksBounded t.report := by
  constructor
  · intro one; rw [hf.bank m]; exact h.1 one
  · intro one; rw [hf.bank m, hf.bank m]; exact h.2 one

section
variable {ps : List Part} {s t : State} (h : Bounded s) (hf : Frame ps s t)
include h hf

/-- What leaves the loop and the banks alone keeps the bounds with those of the fault table. -/
theorem Bounded.withFaults (hfaults : FaultBounds t.faults) (mp : Part.ports ∉ ps := by decide)
    (mq : Part.queue ∉ ps := by decide) (mb : Part.banks ∉ ps := by decide) : Bounded t := by
  obtain ⟨hports, hqueue, -, hbanks⟩ := (bounded_iff s).1 h
  exact (bounded_iff t).2 ⟨fun p => hf.port mp p ▸ hports p, hqueue.of_frame hf mq, hfaults, hbanks.of_frame hf mb⟩

theorem Bounded.withPorts (hports : ∀ p, PortBounds (t.lnu.port p)) (mq : Part.queue ∉ ps := by decide)
    (mf : Part.faults ∉ ps := by decide) (mb : Part.banks ∉ ps := by decide) : Bounded t := by
  obtain ⟨-, hqueue, hfaults, hbanks⟩ := (bounded_iff s).1 h
  exact (bounded_iff t).2 ⟨hports, hqueue.of_frame hf mq, hf.faults mf ▸ hfaults, hbanks.of_frame hf mb⟩

theorem Bounded.withQueue (hqueue : QueueBounds t.lnu) (mp : Part.ports ∉ ps := by decide)
    (mf : Part.faults ∉ ps := by decide) (mb : Part.banks ∉ ps := by decide) : Bounded t := by
  obtain ⟨hports, -, hfaults, hbanks⟩ := (bounded_iff s).1 h
  exact (bounded_iff t).2 ⟨fun p => hf.port mp p ▸ hports p, hqueue, hf.faults mf ▸ hfaults, hbanks.of_frame hf mb⟩

theorem Bounded.withBanks (hbanks : BanksBounded t.report) (mp : Part.ports ∉ ps := by decide)
    (mq : Part.queue ∉ ps := by decide) (mf : Part.faults ∉ ps := by decide) : Bounded t := by
  obtain ⟨hports, hqueue, hfaults, -⟩ := (bounded_iff s).1 h
  exact (bounded_iff t).2 ⟨fun p => hf.port mp p ▸ hports p, hqueue.of_frame hf mq, hf.faults mf ▸ hfaults, hbanks⟩

end

theorem Bounded.port {s : State} (h : Bounded s) (p : Port) : PortBounds (s.lnu.port p) := ((bounded_iff s).1 h).1 p

theorem Bounded.banks {s : State} (h : Bounded s) : BanksBounded s.report := ((bounded_iff s).1 h).2.2.2

/-! ## The ports (R164, R165, R167) -/

/-- The bounds of a port whose arbiter has still to choose. -/
structure PortFits (o : OutPort) : Prop where
  forward : o.forward.length ≤ 4
  replies : (o.insertion.filter fun t => !t.isStatus).length ≤ 7
  statuses : (o.insertion.filter fun t => t.isStatus).length ≤ 1
  run : o.run ≤ 4

theorem PortBounds.fits {o : OutPort} (h : PortBounds o) : PortFits o := ⟨h.forward, h.replies, h.statuses, h.run⟩

/-- The port after its arbiter has chosen, where it is idle. -/
def OutPort.started (o : OutPort) : OutPort :=
  match o.sending with
  | some _ => o
  | none => o.choose

theorem PortFits.sends {o : OutPort} (h : PortFits o) (hs : o.sending ≠ none) : PortBounds o :=
  ⟨h.forward, h.replies, h.statuses, h.run, fun hn => absurd hn hs⟩

/-- A telegram that waited to be inserted is sent. -/
theorem PortFits.inserts {o : OutPort} {q : Inserted} {qs : List Inserted} (h : PortFits o)
    (hq : o.insertion = q :: qs) (x : Sending) :
    PortBounds { o with insertion := qs, run := 0, sending := some x } := by
  have hsub : qs.Sublist o.insertion := hq ▸ List.sublist_cons_self ..
  exact ⟨h.forward, (hsub.filter _).length_le.trans h.replies, (hsub.filter _).length_le.trans h.statuses, Nat.zero_le 4,
    fun hn => nomatch hn⟩

/-- A telegram that waited to be forwarded is sent. -/
theorem PortFits.forwards {o : OutPort} {f : List Byte} {fs : List (List Byte)} (h : PortFits o)
    (hf : o.forward = f :: fs) {run : Nat} (hr : run ≤ 4) (x : Sending) :
    PortBounds { o with forward := fs, run := run, sending := some x } := by
  have hlen := h.forward
  rw [hf, List.length_cons] at hlen
  exact ⟨by dsimp only; omega, h.replies, h.statuses, hr, fun hn => nomatch hn⟩

/-- An idle port with anything waiting starts it. -/
theorem PortFits.started {o : OutPort} (h : PortFits o) : PortBounds o.started := by
  unfold OutPort.started
  split
  next x hx => exact h.sends (by simp [hx])
  next hidle =>
    unfold OutPort.choose
    split
    next hf hi => exact ⟨h.forward, h.replies, h.statuses, h.run, fun _ => ⟨hf, hi⟩⟩
    next hf hi => exact h.forwards hf h.run _
    next hf hi =>
      split
      next hrun => exact h.forwards hf hrun _
      next => exact h.inserts hi _
    next hf hi => exact h.inserts hi _

/-- The arbiter's choice is made in the port alone. -/
theorem startPort_port (p q : Port) (s : State) :
    (startPort p s).lnu.port q = if q = p then (s.lnu.port p).started else s.lnu.port q := by
  have hset (o : OutPort) : (s.lnu.setPort p o).port q = if q = p then o else s.lnu.port q := by
    cases p <;> cases q <;> rfl
  have hleft (newFault overflow : Bool) (t : State) : (statusLeft newFault overflow t).lnu.port q = t.lnu.port q :=
    (statusLeft_frame ..).port (by decide) q
  unfold startPort OutPort.started
  split
  next x hx =>
    split
    next hq => simp only [hq, hx]
    next => rfl
  next hx =>
    simp only [hx]
    split
    · split
      · rw [hleft]; exact hset _
      · exact hset _
    · exact hset _

/-- A port that fits is started. -/
theorem Bounded.startPort {s : State} (h : Bounded s) {p : Port} {o : OutPort} (ho : PortFits o) :
    Bounded (startPort p { s with lnu := s.lnu.setPort p o }) := by
  refine h.withPorts (ps := [.ports, .newFault, .overflow])
    ((Frame.refl _ s).withLnu.trans (startPort_frame p _)) fun q => ?_
  rw [startPort_port]
  split
  · rw [LoopNode.port_setPort]
    exact ho.started
  next hq =>
    have hother : q = otherPort p := by cases p <;> cases q <;> simp_all [otherPort]
    rw [hother, LoopNode.port_setPort_other]
    exact h.port _

theorem Bounded.forwardTo {s : State} (h : Bounded s) (p : Port) (frame : List Byte) :
    Bounded (forwardTo p frame s) := by
  have hp := (h.port p).fits
  unfold Machine.forwardTo
  dsimp only
  split
  next hroom =>
    refine h.startPort ⟨?_, hp.replies, hp.statuses, hp.run⟩
    rw [List.length_append]
    exact hroom
  next => exact h

/-- A new status telegram takes the place of the one that waits (R167). -/
theorem placeStatusIn_counts {t : Inserted} (ht : t.isStatus = true) (q : List Inserted) :
    ((placeStatusIn t q).filter fun x => !x.isStatus).length = (q.filter fun x => !x.isStatus).length ∧
    ((placeStatusIn t q).filter fun x => x.isStatus).length = max 1 (q.filter fun x => x.isStatus).length := by
  have hcount (b : Bool) : ((q.map fun x => if x.isStatus then t else x).filter fun x => x.isStatus == b).length =
      (q.filter fun x => x.isStatus == b).length := by
    rw [List.filter_map, List.length_map]
    congr 1
    refine List.filter_congr fun x _ => ?_
    cases hx : x.isStatus <;> simp [hx, ht]
  have hfalse := hcount false
  have htrue := hcount true
  simp only [beq_true, beq_false] at hfalse htrue
  unfold placeStatusIn
  split
  next hany =>
    obtain ⟨x, hx, hxs⟩ := List.any_eq_true.1 hany
    refine ⟨hfalse, htrue.trans (Nat.max_eq_right ?_).symm⟩
    exact List.length_pos_of_mem (List.mem_filter.2 ⟨hx, hxs⟩)
  next hany =>
    have hnone : q.filter (fun x => x.isStatus) = [] := by simpa [List.filter_eq_nil_iff] using hany
    simp [List.filter_append, ht, hnone]

theorem Bounded.placeStatus {s : State} (h : Bounded s) (p : Port) {t : Inserted} (ht : t.isStatus = true) :
    Bounded (placeStatus p t s) := by
  have hp := (h.port p).fits
  obtain ⟨hreplies, hstatuses⟩ := placeStatusIn_counts ht (s.lnu.port p).insertion
  exact h.startPort ⟨hp.forward, hreplies.trans_le hp.replies, hstatuses.trans_le (Nat.max_le.2 ⟨le_refl 1, hp.statuses⟩),
    hp.run⟩

theorem Bounded.placeReply {s : State} (h : Bounded s) (p : Port) {t : Inserted} (ht : t.isStatus = false) :
    Bounded (placeReply p t s) := by
  have hp := (h.port p).fits
  unfold Machine.placeReply
  split
  next hroom =>
    have hlt : ((s.lnu.port p).insertion.filter fun x => !x.isStatus).length < 7 := of_decide_eq_true hroom
    refine h.startPort ⟨hp.forward, ?_, ?_, hp.run⟩
    · simpa [List.filter_append, ht] using hlt
    · simpa [List.filter_append, ht] using hp.statuses
  next => exact h

theorem Bounded.produceStatus {s : State} (h : Bounded s) : Bounded (produceStatus s) := by
  unfold Machine.produceStatus
  split
  · exact h
  · dsimp only
    refine Bounded.placeStatus ?_ _ rfl
    exact ⟨h.portA, h.portB, ⟨h.queue.queue, h.queue.taken, h.queue.restarting⟩, h.faults, h.bank0, h.bank1, h.filling⟩

theorem Bounded.reportTurn {s : State} (h : Bounded s) : Bounded (reportTurn s) := by
  have hasked : Bounded { s with handed := { s.handed with status := false } } :=
    ⟨h.portA, h.portB, h.queue, h.faults, h.bank0, h.bank1, h.filling⟩
  unfold Machine.reportTurn
  dsimp only
  split
  · exact hasked.produceStatus
  · exact hasked

/-! ## The command queue (R169 to R171) -/

/-- An idle processor takes a command if one waits. -/
theorem Bounded.takeCommand {s t : State} (h : Bounded s) {ps : List Part} (hf : Frame ps s t)
    (hlen : t.lnu.queue.length ≤ 8) (hrestarting : t.lnu.restarting = true → t.lnu.processor ≠ none)
    (mp : Part.ports ∉ ps := by decide) (mf : Part.faults ∉ ps := by decide) (mb : Part.banks ∉ ps := by decide) :
    Bounded (takeCommand t) := by
  have hf' : Frame (.queue :: ps) s (Machine.takeCommand t) :=
    (hf.mono (List.subset_cons_self ..)).trans ((takeCommand_frame t).mono (by simp))
  refine h.withQueue hf' ?_ (by simpa using mp) (by simpa using mf) (by simpa using mb)
  unfold Machine.takeCommand
  split
  next c rest hnone hq =>
    refine ⟨?_, fun hn => (nomatch hn), fun _ => Option.some_ne_none c⟩
    rw [hq] at hlen
    exact (Nat.le_succ _).trans hlen
  next hno =>
    refine ⟨hlen, fun hn => ?_, hrestarting⟩
    cases hq : t.lnu.queue with
    | nil => rfl
    | cons c rest => exact absurd hq (hno c rest hn)

theorem Bounded.joinQueue {s : State} (h : Bounded s) (c : QueuedCommand) : Bounded (joinQueue c s) := by
  unfold Machine.joinQueue
  split
  next hroom =>
    refine h.takeCommand (ps := [.queue]) (Frame.refl _ s).withLnu ?_ h.queue.restarting
    rw [List.length_append]
    exact hroom
  next => exact h.withBanks (ps := [.overflow]) (Frame.refl _ s).withLnu h.banks

/-- The processor becomes idle, its command being no RESTART that waits for its reply. -/
theorem Bounded.freeProcessor {s : State} (h : Bounded s) (hr : s.lnu.restarting = false) :
    Bounded (freeProcessor s) :=
  h.takeCommand (ps := [.queue]) (Frame.refl _ s).withLnu h.queue.queue fun hn => absurd hn (by simp [hr])

/-! ## The passage banks (R156 to R158) -/

theorem ReportUnit.bank_setBank_eq (r : ReportUnit) (one two : Bool) (b : Bank) :
    (r.setBank one b).bank two = if two = one then b else r.bank two := by
  cases one <;> cases two <;> rfl

theorem fillingBank_state {r : ReportUnit} {one : Bool} (h : r.fillingBank = some one) :
    (r.bank one).state = .filling := by
  unfold ReportUnit.fillingBank at h
  split at h
  · obtain rfl := Option.some.inj h
    assumption
  · split at h
    · obtain rfl := Option.some.inj h
      assumption
    · cases h

section
variable {r : ReportUnit} (h : BanksBounded r)
include h

/-- A bank replaced by one that keeps its bounds and is not FILLING beside the other. -/
theorem BanksBounded.setBank {one : Bool} {b : Bank} (hb : BankBounds b)
    (hother : b.state = .filling → (r.bank !one).state ≠ .filling) : BanksBounded (r.setBank one b) := by
  refine ⟨fun two => ?_, fun two => ?_⟩
  · rw [ReportUnit.bank_setBank_eq]
    split
    · exact hb
    · exact h.1 two
  · have h2 := h.2 two
    cases one <;> cases two <;> simp only [ReportUnit.bank_setBank_eq, Bool.not_true, Bool.not_false, reduceCtorEq,
      if_true, if_false] at hother ⊢
    · exact hother
    · exact fun hr hs => hother hs hr
    · exact fun hr hs => hother hs hr
    · exact hother

/-- A bank with records becomes READY, and the other FILLING if it is EMPTY (R156, R157). -/
theorem BanksBounded.makeReady {one : Bool} (hlen : (r.bank one).records ≠ []) : BanksBounded (r.makeReady one) := by
  have hready : BanksBounded (r.setBank one { r.bank one with state := .ready }) :=
    h.setBank ⟨(h.1 one).length, fun hn => (nomatch hn), fun hn => (nomatch hn), fun _ => hlen⟩ fun hn => (nomatch hn)
  unfold ReportUnit.makeReady
  dsimp only
  split
  next hempty =>
    have hnil := (hready.1 (!one)).empty hempty
    refine hready.setBank ?_ fun _ => ?_
    · refine ⟨(hready.1 (!one)).length, fun hn => (nomatch hn), fun _ => ?_, fun hn => (nomatch hn)⟩
      rw [hnil]
      exact Nat.zero_le 15
    · rw [Bool.not_not, ReportUnit.bank_setBank]
      exact fun hn => (nomatch hn)
  next => exact hready

theorem BanksBounded.releaseBank {one : Bool} : BanksBounded (r.releaseBank one) := by
  unfold ReportUnit.releaseBank
  refine h.setBank ?_ ?_
  · refine ⟨Nat.zero_le 16, fun _ => rfl, fun _ => Nat.zero_le 15, fun hr => ?_⟩
    dsimp only at hr
    split at hr <;> cases hr
  · intro hfilling
    dsimp only at hfilling
    split at hfilling
    · cases hfilling
    · assumption

/-- A record joins the FILLING bank, which is READY with its 16th (R156). -/
theorem BanksBounded.append {one : Bool} (hfilling : (r.bank one).state = .filling) (p : PassageRecord) :
    BanksBounded (
      let r' := r.setBank one { r.bank one with records := (r.bank one).records ++ [p] }
      if (r.bank one).records.length + 1 ≥ Config.bankCap then r'.makeReady one else r') := by
  have hroom := (h.1 one).filling hfilling
  dsimp only
  split
  next =>
    -- the 16th record may stand in the bank only as the bank becomes READY
    have hset : (r.setBank one { r.bank one with records := (r.bank one).records ++ [p] }).makeReady one =
        (r.setBank one { state := .ready, records := (r.bank one).records ++ [p] }).makeReady one := by
      cases one <;> rfl
    rw [hset]
    refine BanksBounded.makeReady (h.setBank ?_ (fun hn => by cases hn)) ?_
    · refine ⟨?_, fun hn => (nomatch hn), fun hn => (nomatch hn), fun _ => by simp⟩
      simpa using Nat.lt_succ_of_le hroom
    · rw [ReportUnit.bank_setBank]
      simp
  next hlast =>
    have hlt : (r.bank one).records.length + 1 < 16 := Nat.lt_of_not_le hlast
    refine h.setBank ?_ fun _ => h.2 one hfilling
    refine ⟨?_, fun hn => ?_, fun _ => ?_, fun hn => ?_⟩
    · simp; omega
    · rw [hfilling] at hn; cases hn
    · simp; omega
    · rw [hfilling] at hn; cases hn

end

theorem Bounded.eventEntered {s : State} (h : Bounded s) {c : FaultCode} (hk : c.kind = .event) (x : Option Nat)
    (detail : Option CalReason) : Bounded (eventEntered c x detail s) :=
  h.withFaults (eventEntered_frame c x detail s) (eventEntered_faults .. ▸ h.faults.evented hk detail s.now)

theorem Bounded.appendPassage {s : State} (h : Bounded s) (p : PassageRecord) : Bounded (appendPassage p s) := by
  cases hone : s.report.fillingBank with
  | none =>
    simp only [Machine.appendPassage, hone]
    exact h.eventEntered rfl none none
  | some one =>
    obtain ⟨hports, hqueue, hfaults, hbanks⟩ := (bounded_iff s).1 h
    simp only [Machine.appendPassage, hone]
    exact (bounded_iff _).2 ⟨hports, hqueue, hfaults, hbanks.append (fillingBank_state hone) p⟩

end Sys2Proof.Machine
end

section
/-! SUPPORT. What an operation keeps: the bounds of the lists, the red-proved gate and the records of the ALARM conditions
(R105, R111 to R113, R124, R140 to R171), and the operations of the state and of the Fault Recorder that keep it. -/

namespace Sys2Proof.Machine

set_option Elab.async false

/-! ## One barrier under the gate (R105, R111, R113) -/

/-- IDLE, without target and not driven: what a stop order leaves (R111). -/
def BarrierRecord.AtRest (r : BarrierRecord) : Prop := r.phase = .idle ∧ r.target = none ∧ r.drive = .off

/-- The barrier has its stop order: it is not under calibration, and the crossing is out of use or it is out of
service (R105, R111). -/
def MustStop (s : State) (i : Fin 4) : Prop :=
  underCalibration s i = false ∧ (s.crossing.state = .outOfUse ∨ (s.barrierEntry i).inService = false)

/-- The gate lets the barrier be driven down: red is proved on its side, if it is in service and not under
calibration (R113). -/
def MayLower (s : State) (i : Fin 4) : Prop :=
  (s.barrierEntry i).inService = true → underCalibration s i = false → sideRed s i = true

/-- A record under the gate, `stop` saying that it has its stop order and `low` that it may be driven down. -/
structure UnderGate (stop low : Prop) (r : BarrierRecord) : Prop where
  drive : ∀ d duty, r.drive = .on d duty → r.phase.driven = true ∧ r.target = some d
  held : r.phase = .held → r.target = some .down
  stops : stop → r.AtRest
  lowers : r.phase.driven = true → r.target = some .down → low

theorem gatedBarrier_iff (s : State) (i : Fin 4) :
    GatedBarrier s i ↔ UnderGate (MustStop s i) (MayLower s i) s.barriers[i] := by
  constructor
  · rintro ⟨hdrive, hheld, hstopped, hred, hout⟩
    refine ⟨hdrive, hheld, ?_, fun hd ht hs hc => hred hs hc hd ht⟩
    rintro ⟨hcal, hs | hs⟩
    · exact hstopped hs hcal
    · exact hout hs hcal
  · rintro ⟨hdrive, hheld, hstops, hlowers⟩
    exact ⟨hdrive, hheld, fun hs hc => hstops ⟨hc, .inl hs⟩, fun hs hc hd ht => hlowers hd ht hs hc,
      fun hs hc => hstops ⟨hc, .inr hs⟩⟩

section
variable {stop low : Prop} {r : BarrierRecord}

/-- A barrier with a target, or in any phase but IDLE, has no stop order. -/
theorem UnderGate.free (h : UnderGate stop low r) (hr : r.target ≠ none ∨ r.phase ≠ .idle) : ¬ stop := by
  intro hs
  obtain ⟨hphase, htarget, -⟩ := h.stops hs
  exact hr.elim (fun hn => hn htarget) fun hn => hn hphase

theorem UnderGate.free_of_target (h : UnderGate stop low r) {d : BarrierEnd} (ht : r.target = some d) : ¬ stop :=
  h.free (.inl (by rw [ht]; exact Option.some_ne_none d))

theorem BarrierRecord.AtRest.underGate (h : r.AtRest) : UnderGate stop low r := by
  obtain ⟨hphase, htarget, hdrive⟩ := h
  exact ⟨fun d duty hd => (by cases hdrive.symm.trans hd), fun hh => (by cases hphase.symm.trans hh),
    fun _ => ⟨hphase, htarget, hdrive⟩, fun _ ht => (by cases htarget.symm.trans ht)⟩

/-- A barrier that is not driven, and has no stop order. -/
theorem underGate_of_off (hs : ¬ stop) (hoff : r.drive = .off) (hphase : r.phase.driven = false)
    (hheld : r.phase = .held → r.target = some .down) : UnderGate stop low r :=
  ⟨fun d duty hd => (by cases hoff.symm.trans hd), hheld, fun h => absurd h hs,
    fun hd => (by cases hphase.symm.trans hd)⟩

/-- A barrier driven toward its target, and downward only where it may be. -/
theorem underGate_of_on {d : BarrierEnd} {duty : Nat} (hs : ¬ stop) (hon : r.drive = .on d duty)
    (hphase : r.phase.driven = true) (htarget : r.target = some d) (hlow : d = .down → low) : UnderGate stop low r := by
  refine ⟨fun d' duty' hd => ?_, fun hh => (by rw [hh] at hphase; cases hphase), fun h => absurd h hs, fun _ ht => ?_⟩
  · rw [hon] at hd
    cases hd
    exact ⟨hphase, htarget⟩
  · exact hlow (Option.some.inj (htarget.symm.trans ht))

/-- The gate reads phase, target and drive alone. -/
theorem UnderGate.congr (h : UnderGate stop low r) {r' : BarrierRecord} (hp : r'.phase = r.phase)
    (ht : r'.target = r.target) (hd : r'.drive = r.drive) : UnderGate stop low r' := by
  refine ⟨fun d duty hon => ?_, fun hh => ?_, fun hs => ?_, fun hdr htg => ?_⟩
  · rw [hp, ht]
    exact h.drive d duty (hd ▸ hon)
  · exact ht.trans (h.held (hp ▸ hh))
  · obtain ⟨hphase, htarget, hdrive⟩ := h.stops hs
    exact ⟨hp.trans hphase, ht.trans htarget, hd.trans hdrive⟩
  · exact h.lowers (hp ▸ hdr) (ht ▸ htg)

end

theorem BarrierRecord.stopped_atRest (r : BarrierRecord) : r.stopped.AtRest := ⟨rfl, rfl, rfl⟩

/-! ## The ALARM conditions that are present (R99, R110, R120, R121, R137, R188) -/

/-- The conditions of a barrier that are present, `free` saying that it is not under calibration. -/
inductive BarrierRecord.Demands (free : Prop) (r : BarrierRecord) : FaultCode → Prop where
  | stall : r.phase = .stalled → Demands free r .barrierStall
  | timeout : r.phase.supervised = true → free → r.travelEnd = none → Demands free r .barrierTimeout
  | disagree : r.disagreeing = true → r.disagreeEnd = none → Demands free r .barrierDisagree

/-- The ALARM conditions of the part that are present, and so must have their record. -/
inductive Demands (s : State) : FaultCode → Option Nat → Prop where
  | critical : s.scan.batteryCritical = true → Demands s .batteryCritical none
  | barrier (i : Fin 4) {c : FaultCode} :
    s.barriers[i].Demands (underCalibration s i = false) c → Demands s c (some i.val)
  | dark (side : Side) : s.lamp.aspect = .red → s.lamp.redProved.get side = false → s.lamp.darkEnd.get side = none →
    Demands s .roadSideDark (some (sideNumber side))
  | invalid : s.loading = false → s.tm.derived = none → Demands s .tableInvalid none

theorem Demands.alarm {s : State} {c : FaultCode} {x : Option Nat} (h : Demands s c x) : c.cls = .alarm := by
  cases h with
  | critical | dark | invalid => rfl
  | barrier i h => cases h <;> rfl

/-- A road side is dark under RED, without red proved and with no dark timer running. -/
theorem Demands.roadSideDark {s : State} {side : Side} (h : Demands s .roadSideDark (some (sideNumber side))) :
    s.lamp.aspect = .red ∧ s.lamp.redProved.get side = false ∧ s.lamp.darkEnd.get side = none := by
  generalize hx : some (sideNumber side) = x at h
  generalize hc : FaultCode.roadSideDark = c at h
  cases h with
  | critical | invalid => cases hc
  | barrier i h => cases h <;> cases hc
  | dark side' ha hr hd =>
    have hside : side = side' := by
      cases side <;> cases side' <;> simp_all [sideNumber]
    exact hside ▸ ⟨ha, hr, hd⟩

theorem PerSide.get_set_other {α : Type} (p : PerSide α) {side side' : Side} (h : side' ≠ side) (a : α) :
    (p.set side a).get side' = p.get side' := by
  cases side <;> cases side' <;> simp_all [PerSide.get, PerSide.set]

/-- Every ALARM condition that is present has its record, but for those of the codes that are still owed one. -/
def Owing (o : FaultCode → Prop) (s : State) : Prop := ∀ c x, ¬ o c → Demands s c x → Recorded s c x

theorem alarmsRecorded_iff (s : State) : AlarmsRecorded s ↔ Owing (fun _ => False) s := by
  constructor
  · intro h c x _ hd
    cases hd with
    | critical hs => exact h.critical hs
    | barrier i hs =>
      cases hs with
      | stall hp => exact h.stalled i hp
      | timeout hp hc ht => exact h.timeout i hp hc ht
      | disagree hd he => exact h.disagree i hd he
    | dark side ha hr hd => exact h.dark side ha hr hd
    | invalid hl hd => exact h.invalid hl hd
  · intro h
    have held {c : FaultCode} {x : Option Nat} (hd : Demands s c x) : Recorded s c x := h c x id hd
    exact ⟨fun hs => held (.critical hs), fun i hp => held (.barrier i (.stall hp)),
      fun i hp hc ht => held (.barrier i (.timeout hp hc ht)), fun i hd he => held (.barrier i (.disagree hd he)),
      fun side ha hr hd => held (.dark side ha hr hd), fun hl hd => held (.invalid hl hd)⟩

/-! ## What is kept -/

/-- From `s` to `t` the bounds are kept and, `p` given, the gate and the records of the ALARM conditions, but for those of
the codes that `o` says are still owed one. -/
structure Keeps (p : Prop) (o : FaultCode → Prop) (s t : State) : Prop where
  bounded : Bounded s → Bounded t
  gated : p → Gated s → Gated t
  alarms : p → Bounded s → Owing o s → Owing o t

section
variable {p : Prop} {o : FaultCode → Prop} {s t u : State}

theorem Keeps.refl (s : State) : Keeps p o s s := ⟨id, fun _ h => h, fun _ _ h => h⟩

theorem Keeps.trans (h : Keeps p o s t) (k : Keeps p o t u) : Keeps p o s u :=
  ⟨fun hb => k.bounded (h.bounded hb), fun hp hg => k.gated hp (h.gated hp hg),
    fun hp hb ha => k.alarms hp (h.bounded hb) (h.alarms hp hb ha)⟩

theorem Keeps.ite {c : Prop} [Decidable c] (ht : c → Keeps p o s t) (hu : ¬ c → Keeps p o s u) :
    Keeps p o s (if c then t else u) := by
  split
  next h => exact ht h
  next h => exact hu h

theorem forEach_keepsAll {n : Nat} {f : Fin n → State → State} (h : ∀ i u, Keeps p o u (f i u)) (s : State) :
    Keeps p o s (forEach n f s) :=
  forEach_keeps (P := Keeps p o s) (fun i u hu => hu.trans (h i u)) (.refl s)

/-! ## Parts that neither the gate nor the conditions read -/

/-- The parts of State that are read by none of the three invariants. -/
def quietParts : List Part :=
  [.lines, .now, .store, .contacts, .pending, .save, .overflow, .passed, .heads, .sections, .approaches, .request,
   .lampTest, .rate, .block, .results, .newFault, .status, .link, .handed]

/-- The same with the lists that have bounds. -/
def listParts : List Part := [.ports, .queue, .banks, .faults] ++ quietParts

section
variable {ps : List Part} (hf : Frame ps s t)
include hf

theorem Frame.underCalibration (m : Part.cal ∉ ps) (i : Fin 4) : underCalibration t i = underCalibration s i := by
  simp only [Machine.underCalibration, hf.cal m]

theorem Frame.barrier (m : Part.barriers ∉ ps) (i : Fin 4) : t.barriers[i] = s.barriers[i] := by rw [hf.barriers m]

end

theorem Frame.darkEnd {ps : List Part} (hf : Frame ps s t) (m : Part.lamp ∉ ps) : t.lamp.darkEnd = s.lamp.darkEnd := by
  rw [hf.lamp m]

theorem Frame.batteryCritical {ps : List Part} (hf : Frame ps s t) (m : Part.battery ∉ ps) :
    t.scan.batteryCritical = s.scan.batteryCritical := (hf.same _ m).2.2

theorem Gated.of_frame {ps : List Part} (hg : Gated s) (hf : Frame ps s t) (hps : ps ⊆ listParts := by decide) :
    Gated t := by
  replace hf := hf.mono hps
  intro i
  have hi := (gatedBarrier_iff s i).1 (hg i)
  refine (gatedBarrier_iff t i).2 ?_
  rwa [hf.barrier (by decide), MustStop, MayLower, sideRed, State.barrierEntry, hf.underCalibration (by decide),
    hf.crossing (by decide), hf.tables (by decide), hf.lamp (by decide)]

theorem Demands.of_frame {ps : List Part} {c : FaultCode} {x : Option Nat} (hd : Demands t c x) (hf : Frame ps s t)
    (hps : ps ⊆ listParts := by decide) : Demands s c x := by
  replace hf := hf.mono hps
  have hlamp := hf.lamp (by decide)
  cases hd with
  | critical h => exact .critical (hf.batteryCritical (by decide) ▸ h)
  | barrier i h => exact .barrier i (by rwa [hf.barrier (by decide), hf.underCalibration (by decide)] at h)
  | dark side ha hr hd => exact .dark side (hlamp ▸ ha) (hlamp ▸ hr) (hlamp ▸ hd)
  | invalid hl hd => exact .invalid (hf.loading (by decide) ▸ hl) (hf.derived (by decide) ▸ hd)

/-- What the three invariants read, the lists apart, is as it was. -/
theorem Keeps.of_lists {ps : List Part} (hf : Frame ps s t) (hb : Bounded s → Bounded t)
    (hrec : ∀ c x, ¬ o c → Demands s c x → Recorded s c x → Recorded t c x)
    (hps : ps ⊆ listParts := by decide) : Keeps p o s t :=
  ⟨hb, fun _ hg => hg.of_frame hf hps, fun _ _ ha c x hc hd =>
    hrec c x hc (hd.of_frame hf hps) (ha c x hc (hd.of_frame hf hps))⟩

/-- What changes the lists alone, their records apart, and keeps their bounds. -/
theorem Keeps.of_bounded {ps : List Part} (hf : Frame ps s t) (hb : Bounded s → Bounded t)
    (hps : ps ⊆ listParts := by decide) (hfaults : Part.faults ∉ ps := by decide) : Keeps p o s t :=
  .of_lists hf hb (fun c x _ _ hr => by rwa [Recorded, hf.faults hfaults]) hps

/-- What changes none of what the three invariants read. -/
theorem Keeps.quiet {ps : List Part} (hf : Frame ps s t) (hps : ps ⊆ quietParts := by decide) : Keeps p o s t := by
  replace hf := hf.mono hps
  refine .of_bounded hf (fun hb => hb.withFaults hf ?_ (by decide) (by decide) (by decide)) (by decide) (by decide)
  rw [hf.faults (by decide)]
  exact hb.faults

/-! ## The Fault Recorder (R140 to R144) -/

theorem recorded_conditionEnd {c c' : FaultCode} {x x' : Option Nat} (hne : c ≠ c' ∨ x ≠ x') (h : Recorded s c x) :
    Recorded (conditionEnd c' x' s) c x := by
  have h' : s.faults.Holds c x := h
  exact (conditionEnd_faults .. ▸ h'.ended hne : (conditionEnd c' x' s).faults.Holds c x)

theorem recorded_conditionPresent {c : FaultCode} {x : Option Nat} (hc : c.cls = .alarm) (h : Recorded s c x)
    (c' : FaultCode) (x' : Option Nat) : Recorded (conditionPresent c' x' s) c x := by
  have h' : s.faults.Holds c x := h
  exact (conditionPresent_faults .. ▸ h'.presented hc c' x' s.now : (conditionPresent c' x' s).faults.Holds c x)

theorem recorded_eventEntered {c : FaultCode} {x : Option Nat} (hc : c.cls = .alarm) (h : Recorded s c x)
    (c' : FaultCode) (x' : Option Nat) (detail : Option CalReason) : Recorded (eventEntered c' x' detail s) c x := by
  have h' : s.faults.Holds c x := h
  exact (eventEntered_faults .. ▸ h'.evented hc c' x' detail s.now : (eventEntered c' x' detail s).faults.Holds c x)

/-- A condition that becomes present has its record. -/
theorem recorded_present {c : FaultCode} (hc : c.cls = .alarm) (x : Option Nat) (h : FaultBounds s.faults) :
    Recorded (conditionPresent c x s) c x :=
  (conditionPresent_faults .. ▸ h.holds_presented hc s.now : (conditionPresent c x s).faults.Holds c x)

theorem Bounded.conditionEnd (h : Bounded s) {c : FaultCode} (hk : c.kind = .condition) (x : Option Nat) :
    Bounded (conditionEnd c x s) :=
  h.withFaults (conditionEnd_frame c x s) (conditionEnd_faults .. ▸ h.faults.ended hk)

theorem Bounded.conditionPresent (h : Bounded s) {c : FaultCode} {x : Option Nat} (hk : c.kind = .condition)
    (ha : c.cls = .alarm → AlarmPair c x) : Bounded (conditionPresent c x s) :=
  h.withFaults (conditionPresent_frame c x s) (conditionPresent_faults .. ▸ h.faults.presented hk ha s.now)

/-- The end of a condition that is not present. -/
theorem conditionEnd_keeps {c : FaultCode} {x : Option Nat} (hd : ¬ o c → ¬ Demands s c x)
    (hk : c.kind = .condition := by rfl) : Keeps p o s (conditionEnd c x s) := by
  refine .of_lists (conditionEnd_frame c x s) (fun hb => hb.conditionEnd hk x) fun c' x' hc' hd' hr => ?_
  refine recorded_conditionEnd ?_ hr
  by_contra hsame
  push Not at hsame
  obtain ⟨rfl, rfl⟩ := hsame
  exact hd hc' hd'

/-- The end of a condition that is no ALARM. -/
theorem conditionEnd_keeps_quiet {c : FaultCode} {x : Option Nat} (hc : c.cls ≠ .alarm := by decide)
    (hk : c.kind = .condition := by rfl) : Keeps p o s (conditionEnd c x s) :=
  conditionEnd_keeps (fun _ hd => hc hd.alarm) hk

theorem conditionPresent_keeps {c : FaultCode} {x : Option Nat} (ha : c.cls = .alarm → AlarmPair c x)
    (hk : c.kind = .condition := by rfl) : Keeps p o s (conditionPresent c x s) :=
  .of_lists (conditionPresent_frame c x s) (fun hb => hb.conditionPresent hk ha) fun _ _ _ hd hr =>
    recorded_conditionPresent hd.alarm hr c x

theorem conditionPresent_keeps_quiet {c : FaultCode} {x : Option Nat} (hc : c.cls ≠ .alarm := by decide)
    (hk : c.kind = .condition := by rfl) : Keeps p o s (conditionPresent c x s) :=
  conditionPresent_keeps (fun h => absurd h hc) hk

theorem eventEntered_keeps {c : FaultCode} {x : Option Nat} {detail : Option CalReason}
    (hk : c.kind = .event := by rfl) : Keeps p o s (eventEntered c x detail s) :=
  .of_lists (eventEntered_frame c x detail s) (fun hb => hb.eventEntered hk x detail) fun _ _ _ hd hr =>
    recorded_eventEntered hd.alarm hr c x detail

/-- A condition becomes present, and so has its record, after what has made it so and no other. -/
theorem Keeps.presents {u : State} {c : FaultCode} {x : Option Nat} (hc : c.cls = .alarm) (hpair : AlarmPair c x)
    (h : Keeps p (fun _ => True) s u) (hfaults : u.faults = s.faults)
    (hd : ∀ c' y, Demands u c' y → (c' = c ∧ y = x) ∨ Demands s c' y) (hk : c.kind = .condition := by rfl) :
    Keeps p o s (conditionPresent c x u) := by
  have hf := conditionPresent_frame c x u
  refine ⟨fun hb => (h.bounded hb).conditionPresent hk fun _ => hpair, fun hp hg => (h.gated hp hg).of_frame hf,
    fun _ hb ha c' y ho hx => ?_⟩
  rcases hd c' y (hx.of_frame hf) with ⟨rfl, rfl⟩ | hold
  · exact recorded_present hc _ (hfaults ▸ hb.faults)
  · have hrec : Recorded u c' y := by
      have := ha c' y ho hold
      rwa [Recorded, ← hfaults] at this
    exact recorded_conditionPresent hold.alarm hrec c x

/-- Nothing is owed of a code whose conditions are not present in the end. -/
theorem Keeps.settles {d : FaultCode} (h : Keeps p (fun c => c = d ∨ o c) s t) (hd : ∀ x, ¬ Demands t d x) :
    Keeps p o s t := by
  refine ⟨h.bounded, h.gated, fun hp hb ha c x hc hx => ?_⟩
  have hne : c ≠ d := fun hcd => hd x (hcd ▸ hx)
  exact h.alarms hp hb (fun c x hc => ha c x fun ho => hc (.inr ho)) c x (fun h => h.elim hne hc) hx

/-! ## One barrier (R105 to R121) -/

/-- What changes one barrier and the fault table keeps the gate with that of the barrier. -/
theorem Gated.setBarrier (hg : Gated s) {i : Fin 4} {r : BarrierRecord}
    (hr : UnderGate (MustStop s i) (MayLower s i) s.barriers[i] → UnderGate (MustStop s i) (MayLower s i) r) :
    Gated (s.setBarrier i r) := by
  intro j
  refine (gatedBarrier_iff _ j).2 ?_
  have hj := (gatedBarrier_iff s j).1 (hg j)
  by_cases hij : i = j
  · subst hij
    rw [State.setBarrier_self]
    exact hr hj
  · rwa [State.setBarrier_barriers, Fin.getElem_fin, Vector.getElem_set_ne _ _ (by omega)]

/-- The conditions present with a new record of one barrier: its own, and those of the others. -/
theorem Demands.of_setBarrier {i : Fin 4} {r : BarrierRecord} {c : FaultCode} {x : Option Nat}
    (hd : Demands (s.setBarrier i r) c x) :
    (x = some i.val ∧ r.Demands (underCalibration s i = false) c) ∨
    (Demands s c x ∧ (c = .roadSideDark ∨ x ≠ some i.val)) := by
  cases hd with
  | critical h => exact .inr ⟨.critical h, .inr (by simp)⟩
  | dark side ha hr hd => exact .inr ⟨.dark side ha hr hd, .inl rfl⟩
  | invalid hl hd => exact .inr ⟨.invalid hl hd, .inr (by simp)⟩
  | barrier j h =>
    by_cases hij : i = j
    · subst hij
      rw [State.setBarrier_self] at h
      exact .inl ⟨rfl, h⟩
    · rw [State.setBarrier_barriers, Fin.getElem_fin, Vector.getElem_set_ne _ _ (by omega)] at h
      refine .inr ⟨.barrier j h, .inr fun hx => hij ?_⟩
      exact Fin.ext (Option.some.inj hx).symm

theorem not_demands_setBarrier {i : Fin 4} {r : BarrierRecord} {c : FaultCode}
    (hr : ¬ r.Demands (underCalibration s i = false) c) (hc : c ≠ .roadSideDark) :
    ¬ Demands (s.setBarrier i r) c (some i.val) := by
  intro hd
  rcases hd.of_setBarrier with ⟨-, h⟩ | ⟨-, h | h⟩
  · exact hr h
  · exact hc h
  · exact h rfl

theorem Bounded.setBarrier (h : Bounded s) (i : Fin 4) (r : BarrierRecord) : Bounded (s.setBarrier i r) :=
  ⟨h.portA, h.portB, h.queue, h.faults, h.bank0, h.bank1, h.filling⟩

section
variable {i : Fin 4} {r : BarrierRecord}
  (hg : p → UnderGate (MustStop s i) (MayLower s i) s.barriers[i] → UnderGate (MustStop s i) (MayLower s i) r)
include hg

/-- A new record of one barrier, with no condition of it present that was not. -/
theorem setBarrier_keeps
    (hd : ∀ c, r.Demands (underCalibration s i = false) c → s.barriers[i].Demands (underCalibration s i = false) c) :
    Keeps p o s (s.setBarrier i r) := by
  refine ⟨fun hb => hb.setBarrier i r, fun hp h => h.setBarrier (hg hp), fun _ _ ha c x hc hx => ?_⟩
  rcases hx.of_setBarrier with ⟨rfl, h⟩ | ⟨h, -⟩
  · exact ha c _ hc (.barrier i (hd c h))
  · exact ha c x hc h

/-- The same with the end of a condition that the new record has not. -/
theorem setBarrier_ends {c : FaultCode}
    (hd : ∀ c', r.Demands (underCalibration s i = false) c' →
      c' ≠ c ∧ s.barriers[i].Demands (underCalibration s i = false) c')
    (hk : c.kind = .condition := by rfl) (hc : c ≠ .roadSideDark := by decide) :
    Keeps p o s (conditionEnd c (some i.val) (s.setBarrier i r)) :=
  (setBarrier_keeps hg fun c' h => (hd c' h).2).trans
    (conditionEnd_keeps (fun _ => not_demands_setBarrier (fun h => (hd c h).1 rfl) hc) hk)

/-- The same with a condition of it that becomes present. -/
theorem setBarrier_presents {c : FaultCode} (hc : c.cls = .alarm) (hpair : AlarmPair c (some i.val))
    (hd : ∀ c', r.Demands (underCalibration s i = false) c' →
      c' = c ∨ s.barriers[i].Demands (underCalibration s i = false) c')
    (hk : c.kind = .condition := by rfl) :
    Keeps p o s (conditionPresent c (some i.val) (s.setBarrier i r)) := by
  refine .presents hc hpair
    ⟨fun hb => hb.setBarrier i r, fun hp h => h.setBarrier (hg hp), fun _ _ _ c x h => absurd trivial h⟩
    rfl (fun c' y hy => ?_) hk
  rcases hy.of_setBarrier with ⟨rfl, h⟩ | ⟨h, -⟩
  · exact (hd c' h).imp (fun h => ⟨h, rfl⟩) (.barrier i)
  · exact .inr h

end

end

/-! ## The crossing, the tables, the lamps, the scanner and the calibration -/

section
variable {p : Prop} {o : FaultCode → Prop} {s : State}

/-- A crossing that does not go out of use. -/
theorem setCrossing_keeps {c : CrossingRecord} (h : c.state = .outOfUse → s.crossing.state = .outOfUse) :
    Keeps p o s (s.setCrossing c) := by
  refine ⟨fun hb => ⟨hb.portA, hb.portB, hb.queue, hb.faults, hb.bank0, hb.bank1, hb.filling⟩, fun _ hg i => ?_,
    fun _ _ ha c' x ho hd => ha c' x ho ?_⟩
  · have hi := (gatedBarrier_iff s i).1 (hg i)
    refine (gatedBarrier_iff _ i).2 ⟨hi.drive, hi.held, ?_, hi.lowers⟩
    rintro ⟨hcal, hs⟩
    exact hi.stops ⟨hcal, hs.imp h id⟩
  · cases hd with
    | critical h => exact .critical h
    | barrier i h => exact .barrier i h
    | dark side ha hr hd => exact .dark side ha hr hd
    | invalid hl hd => exact .invalid hl hd

/-- Tables whose barriers are in service as they were, on the road sides that they had; and figures are not lost. -/
theorem withTm_keeps {x : TableManager}
    (hts : ∀ i : Fin 4, x.tables.barrier[i].inService = (s.barrierEntry i).inService ∧
      x.tables.barrier[i].roadSide = (s.barrierEntry i).roadSide)
    (hd : x.derived = none → s.tm.derived = none) : Keeps p o s { s with tm := x } := by
  refine ⟨fun hb => ⟨hb.portA, hb.portB, hb.queue, hb.faults, hb.bank0, hb.bank1, hb.filling⟩, fun _ hg i => ?_,
    fun _ _ ha c y ho h => ha c y ho ?_⟩
  · obtain ⟨hservice, hside⟩ := hts i
    have hi := (gatedBarrier_iff s i).1 (hg i)
    refine (gatedBarrier_iff _ i).2 ?_
    have hred : sideRed { s with tm := x } i = sideRed s i := congrArg s.lamp.redProved.get hside
    rwa [MustStop, MayLower, hred, State.barrierEntry, hservice]
  · cases h with
    | critical h => exact .critical h
    | barrier i h => exact .barrier i h
    | dark side ha hr hd => exact .dark side ha hr hd
    | invalid hl hn => exact .invalid hl (hd hn)

/-- Lamps with no road side newly dark, the aspect and red proved as they were. -/
theorem withLamp_keeps {x : LampController} (hred : x.redProved = s.lamp.redProved)
    (hdark : ∀ side, ¬ o .roadSideDark → x.aspect = .red → x.redProved.get side = false → x.darkEnd.get side = none →
      s.lamp.aspect = .red ∧ s.lamp.darkEnd.get side = none) : Keeps p o s { s with lamp := x } := by
  refine ⟨fun hb => ⟨hb.portA, hb.portB, hb.queue, hb.faults, hb.bank0, hb.bank1, hb.filling⟩, fun _ hg i => ?_,
    fun _ _ ha c y ho h => ha c y ho ?_⟩
  · have hi := (gatedBarrier_iff s i).1 (hg i)
    refine (gatedBarrier_iff _ i).2 ⟨hi.drive, hi.held, hi.stops, fun hdr ht hs hc => ?_⟩
    exact (congrArg (PerSide.get · _) hred).trans (hi.lowers hdr ht hs hc)
  · cases h with
    | critical h => exact .critical h
    | barrier i h => exact .barrier i h
    | dark side ha hr hd =>
      obtain ⟨hred', hend⟩ := hdark side ho ha hr hd
      exact .dark side hred' (hred ▸ hr) hend
    | invalid hl hd => exact .invalid hl hd

/-- Lamps with aspect, red proved and dark timers as they were. -/
theorem withLamp_keeps_quiet {x : LampController} (hred : x.redProved = s.lamp.redProved := by rfl)
    (haspect : x.aspect = s.lamp.aspect := by rfl) (hdark : x.darkEnd = s.lamp.darkEnd := by rfl) :
    Keeps p o s { s with lamp := x } :=
  withLamp_keeps hred fun _ _ ha _ hd => ⟨haspect ▸ ha, hdark ▸ hd⟩

/-- A battery that does not become critical. -/
theorem withScan_keeps {x : Scanner} (h : x.batteryCritical = true → s.scan.batteryCritical = true) :
    Keeps p o s { s with scan := x } := by
  refine ⟨fun hb => ⟨hb.portA, hb.portB, hb.queue, hb.faults, hb.bank0, hb.bank1, hb.filling⟩, fun _ hg i => ?_,
    fun _ _ ha c y ho hd => ha c y ho ?_⟩
  · exact (gatedBarrier_iff _ i).2 ((gatedBarrier_iff s i).1 (hg i))
  · cases hd with
    | critical hc => exact .critical (h hc)
    | barrier i h => exact .barrier i h
    | dark side ha hr hd => exact .dark side ha hr hd
    | invalid hl hd => exact .invalid hl hd

/-- The calibration moves on: a barrier that it leaves is at rest. -/
theorem setCal_keeps {c : CalibrationRun}
    (h : p → ∀ i, underCalibration s i = true → underCalibration (s.setCal c) i = false → s.barriers[i].AtRest) :
    Keeps p o s (s.setCal c) := by
  refine ⟨fun hb => ⟨hb.portA, hb.portB, hb.queue, hb.faults, hb.bank0, hb.bank1, hb.filling⟩, fun hp hg i => ?_,
    fun hp _ ha c y ho hd => ha c y ho ?_⟩
  · have hi := (gatedBarrier_iff s i).1 (hg i)
    refine (gatedBarrier_iff _ i).2 ?_
    cases hs : underCalibration s i with
    | true =>
      refine ⟨hi.drive, hi.held, fun hstop => h hp i hs hstop.1, fun hdr ht _ hc => ?_⟩
      obtain ⟨-, htarget, -⟩ := h hp i hs hc
      exact absurd (htarget.symm.trans ht) (by simp)
    | false =>
      exact ⟨hi.drive, hi.held, fun hstop => hi.stops ⟨hs, hstop.2⟩, fun hdr ht hin _ => hi.lowers hdr ht hin hs⟩
  · cases hd with
    | critical hc => exact .critical hc
    | barrier i hb =>
      refine .barrier i ?_
      cases hb with
      | stall hp => exact .stall hp
      | disagree hd he => exact .disagree hd he
      | timeout hphase hc ht =>
        refine .timeout hphase ?_ ht
        cases hs : underCalibration s i with
        | false => rfl
        | true =>
          have hidle : s.barriers[i].phase = .idle := (h hp i hs hc).1
          have hsup : s.barriers[i].phase.supervised = true := hphase
          rw [hidle] at hsup
          cases hsup
    | dark side ha hr hd => exact .dark side ha hr hd
    | invalid hl hd => exact .invalid hl hd

end

end Sys2Proof.Machine
end

section
/-! SUPPORT. The operations of the Barrier Controller keep the bounds, the gate and the records of the ALARM conditions
(R105 to R121). -/

namespace Sys2Proof.Machine

set_option Elab.async false

theorem conditionEnd_setBarrier (c : FaultCode) (x : Option Nat) (i : Fin 4) (r : BarrierRecord) (s : State) :
    conditionEnd c x (s.setBarrier i r) = (conditionEnd c x s).setBarrier i r := by
  rw [conditionEnd_eq, conditionEnd_eq]
  rfl

theorem State.setBarrier_setBarrier (s : State) (i : Fin 4) (r r' : BarrierRecord) :
    (s.setBarrier i r).setBarrier i r' = s.setBarrier i r' := by
  simp [State.setBarrier]

/-! ## One record and the next -/

/-- What is driven is supervised (R121). -/
theorem BarrierPhase.supervised_of_driven {x : BarrierPhase} (h : x.driven = true) : x.supervised = true := by
  cases x <;> simp_all [BarrierPhase.driven, BarrierPhase.supervised]

/-- The new record has no condition present that the old one had not: its disagreement is as it was, it is STALLED only
where it was, and its travel time is up only where it was. -/
theorem BarrierRecord.Demands.of_new {free : Prop} {r r' : BarrierRecord} {c : FaultCode} (h : r'.Demands free c)
    (hstalled : r'.phase = .stalled → r.phase = .stalled)
    (htravel : r'.phase.supervised = true → r'.travelEnd = none → r.phase.supervised = true ∧ r.travelEnd = none)
    (hdis : r'.disagreeing = r.disagreeing := by rfl) (hend : r'.disagreeEnd = r.disagreeEnd := by rfl) :
    r.Demands free c := by
  cases h with
  | stall hp => exact .stall (hstalled hp)
  | timeout hp hf ht => exact .timeout (htravel hp ht).1 hf (htravel hp ht).2
  | disagree hd he => exact .disagree (hdis ▸ hd) (hend ▸ he)

/-- A barrier whose phase is not supervised has a disagreement at most. -/
theorem BarrierRecord.Demands.of_unsupervised {free : Prop} {r : BarrierRecord} {c : FaultCode} (h : r.Demands free c)
    (hp : r.phase.supervised = false) : c = .barrierDisagree ∧ r.disagreeing = true ∧ r.disagreeEnd = none := by
  cases h with
  | stall hs => rw [hs] at hp; cases hp
  | timeout hs => rw [hp] at hs; cases hs
  | disagree hd he => exact ⟨rfl, hd, he⟩

/-- From `r` to `r'` the barrier is driven toward an end, its target and its disagreement as they were. -/
structure BarrierRecord.DrivenTo (d : BarrierEnd) (r r' : BarrierRecord) : Prop where
  phase : r'.phase.driven = true
  drive : ∃ duty, r'.drive = .on d duty
  target : r'.target = r.target
  disagreeing : r'.disagreeing = r.disagreeing
  disagreeEnd : r'.disagreeEnd = r.disagreeEnd

theorem BarrierRecord.DrivenTo.underGate {d : BarrierEnd} {r r' : BarrierRecord} (h : r.DrivenTo d r')
    (ht : r.target = some d) {stop low : Prop} (hs : ¬ stop) (hlow : d = .down → low) : UnderGate stop low r' := by
  obtain ⟨duty, hd⟩ := h.drive
  exact underGate_of_on hs hd h.phase (h.target.trans ht) hlow

theorem BarrierRecord.DrivenTo.demands {d : BarrierEnd} {r r' : BarrierRecord} (h : r.DrivenTo d r')
    (ht : r'.travelEnd = none → r.phase.supervised = true ∧ r.travelEnd = none) {free : Prop} {c : FaultCode}
    (hc : r'.Demands free c) : r.Demands free c := by
  refine hc.of_new (fun hs => ?_) (fun _ => ht) h.disagreeing h.disagreeEnd
  have hp := h.phase
  rw [hs] at hp
  cases hp

/-- The brake test moves the phase from RUN to BRAKE at most (R116). -/
theorem BarrierRecord.brakeTest_cases (e : BarrierEntry) (d : BarrierEnd) (r : BarrierRecord) :
    r.brakeTest e d = r ∨ r.brakeTest e d = { r with phase := .brake, drive := .on d e.brakeDuty } := by
  unfold BarrierRecord.brakeTest
  split
  · split
    · exact .inr rfl
    · exact .inl rfl
  · exact .inl rfl

/-- In RUN a movement is driven, whatever the brake test says (R114, R116). -/
theorem BarrierRecord.toRun_drivenTo (e : BarrierEntry) (now : Time) (d : BarrierEnd) (r : BarrierRecord) :
    r.DrivenTo d (r.toRun e now d) ∧ (r.toRun e now d).travelEnd = r.travelEnd := by
  unfold BarrierRecord.toRun
  rcases BarrierRecord.brakeTest_cases e d _ with h | h <;> rw [h]
  · exact ⟨⟨rfl, ⟨_, rfl⟩, rfl, rfl, rfl⟩, rfl⟩
  · exact ⟨⟨rfl, ⟨_, rfl⟩, rfl, rfl, rfl⟩, rfl⟩

/-- A movement that enters START is driven, with its travel end set if it is fresh (R114, R119). -/
theorem BarrierRecord.toStart_drivenTo (e : BarrierEntry) (now : Time) (d : BarrierEnd) (fresh : Bool)
    (r : BarrierRecord) : r.DrivenTo d (r.toStart e now d fresh) ∧
      (r.toStart e now d fresh).travelEnd = if fresh then some (after now (e.travel d * 3 / 2)) else r.travelEnd := by
  unfold BarrierRecord.toStart
  cases fresh <;> dsimp only <;> split
  · obtain ⟨h, ht⟩ := BarrierRecord.toRun_drivenTo e now d _
    exact ⟨⟨h.phase, h.drive, h.target, h.disagreeing, h.disagreeEnd⟩, ht⟩
  · exact ⟨⟨rfl, ⟨_, rfl⟩, rfl, rfl, rfl⟩, rfl⟩
  · obtain ⟨h, ht⟩ := BarrierRecord.toRun_drivenTo e now d _
    exact ⟨⟨h.phase, h.drive, h.target, h.disagreeing, h.disagreeEnd⟩, ht⟩
  · exact ⟨⟨rfl, ⟨_, rfl⟩, rfl, rfl, rfl⟩, rfl⟩

section
variable {stop low free : Prop} {r : BarrierRecord} {c : FaultCode}

theorem BarrierRecord.held_underGate (hs : ¬ stop) (ht : r.target = some .down) : UnderGate stop low r.held :=
  underGate_of_off hs rfl rfl fun _ => ht

theorem BarrierRecord.held_demands (h : r.held.Demands free c) : c = .barrierDisagree ∧ r.Demands free c := by
  obtain ⟨rfl, hd, he⟩ := h.of_unsupervised rfl
  exact ⟨rfl, .disagree hd he⟩

theorem BarrierRecord.ended_underGate (hs : ¬ stop) : UnderGate stop low r.ended :=
  underGate_of_off hs rfl rfl fun h => nomatch h

theorem BarrierRecord.ended_demands (h : r.ended.Demands free c) : c = .barrierDisagree ∧ r.Demands free c := by
  obtain ⟨rfl, hd, he⟩ := h.of_unsupervised rfl
  exact ⟨rfl, .disagree hd he⟩

theorem BarrierRecord.stopped_demands (h : r.stopped.Demands free c) : c = .barrierDisagree ∧ r.Demands free c := by
  obtain ⟨rfl, hd, he⟩ := h.of_unsupervised rfl
  exact ⟨rfl, .disagree hd he⟩

/-- A movement that begins under the gate. -/
theorem BarrierRecord.move_underGate {d : BarrierEnd} {red : Bool} (hs : ¬ stop) (ht : r.target = some d)
    (hlow : red = true → low) (e : BarrierEntry) (now : Time) (fresh : Bool) :
    UnderGate stop low (r.move e now red d fresh) := by
  unfold BarrierRecord.move
  split
  next h => exact BarrierRecord.held_underGate hs (h.1 ▸ ht)
  next h =>
    refine (BarrierRecord.toStart_drivenTo e now d fresh r).1.underGate ht hs fun hd => hlow ?_
    exact Bool.not_eq_false _ ▸ fun hr => h ⟨hd, hr⟩

/-- A fresh movement has no travel time that is up; a retry restart has what the trip left (R119). -/
theorem BarrierRecord.move_demands {d : BarrierEnd} {red fresh : Bool} {e : BarrierEntry} {now : Time}
    (hf : fresh = true ∨ r.phase.supervised = true) (h : (r.move e now red d fresh).Demands free c) :
    c ≠ .barrierStall ∧ r.Demands free c ∧ (fresh = true → c = .barrierDisagree) := by
  unfold BarrierRecord.move at h
  split at h
  · obtain ⟨rfl, hr⟩ := BarrierRecord.held_demands h
    exact ⟨by decide, hr, fun _ => rfl⟩
  · obtain ⟨hto, htravel⟩ := BarrierRecord.toStart_drivenTo e now d fresh r
    refine ⟨?_, hto.demands (fun hn => ?_) h, ?_⟩
    · rintro rfl
      cases h with
      | stall hp =>
        have := hto.phase
        rw [hp] at this
        cases this
    · rw [htravel] at hn
      cases fresh with
      | true => cases hn
      | false => exact ⟨hf.resolve_left (by simp), hn⟩
    · rintro rfl
      cases h with
      | stall hp =>
        have := hto.phase
        rw [hp] at this
        cases this
      | timeout hp hfree ht =>
        rw [htravel] at ht
        cases ht
      | disagree => rfl

end

/-! ## Under an order (R111, R112, R118) -/

section
variable {p : Prop} {o : FaultCode → Prop} {s : State} {i : Fin 4}

theorem enterAtEnd_keeps {d : BarrierEnd} (ht : s.barriers[i].target = some d) : Keeps p o s (enterAtEnd i s) :=
  setBarrier_ends (fun _ h => BarrierRecord.ended_underGate (h.free_of_target ht)) fun c h => by
    obtain ⟨rfl, hr⟩ := BarrierRecord.ended_demands h
    exact ⟨by decide, hr⟩

theorem mayLower_of_red (h : sideRed s i = true) : MayLower s i := fun _ _ => h

theorem startMove_keeps {d : BarrierEnd} {fresh : Bool} (ht : s.barriers[i].target = some d)
    (hf : fresh = true ∨ s.barriers[i].phase.supervised = true) : Keeps p o s (startMove i d fresh s) :=
  setBarrier_keeps
    (fun _ h => BarrierRecord.move_underGate (h.free_of_target ht) ht mayLower_of_red _ _ _)
    fun _ h => (BarrierRecord.move_demands hf h).2.1

/-- What "begin" of the order table makes of the record before it judges proving (R112). -/
def BarrierRecord.begun (d : BarrierEnd) (r : BarrierRecord) : BarrierRecord :=
  { r with target := some d, retries := 0, openLoopOnly := false, underway := false }

theorem enterAtEnd_setBarrier (r : BarrierRecord) :
    enterAtEnd i (s.setBarrier i r) = conditionEnd .barrierTimeout (some i.val) (s.setBarrier i r.ended) := by
  rw [enterAtEnd, State.setBarrier_self, State.setBarrier_setBarrier]

theorem startMove_setBarrier (d : BarrierEnd) (fresh : Bool) (r : BarrierRecord) :
    startMove i d fresh (s.setBarrier i r) =
      s.setBarrier i (r.move (s.barrierEntry i) s.now (sideRed s i) d fresh) := by
  rw [startMove, State.setBarrier_self, State.setBarrier_setBarrier]
  rfl

/-- "Begin" of the order table, with BARRIER_STALL ended after the new record is set (R112). -/
theorem beginOrder_eq (i : Fin 4) (d : BarrierEnd) (s : State) :
    beginOrder i d s =
      if s.barriers[i].provedAt d then
        conditionEnd .barrierTimeout (some i.val) (conditionEnd .barrierStall (some i.val)
          (s.setBarrier i (s.barriers[i].begun d).ended))
      else conditionEnd .barrierStall (some i.val)
        (s.setBarrier i ((s.barriers[i].begun d).move (s.barrierEntry i) s.now (sideRed s i) d true)) := by
  have hproved : (conditionEnd .barrierStall (some i.val) (s.setBarrier i (s.barriers[i].begun d))).barriers[i].provedAt d
      = s.barriers[i].provedAt d := by
    rw [conditionEnd_eq]
    dsimp only
    rw [State.setBarrier_self]
    cases d <;> rfl
  show (if (conditionEnd .barrierStall (some i.val) (s.setBarrier i (s.barriers[i].begun d))).barriers[i].provedAt d then
      enterAtEnd i (conditionEnd .barrierStall (some i.val) (s.setBarrier i (s.barriers[i].begun d)))
    else startMove i d true (conditionEnd .barrierStall (some i.val) (s.setBarrier i (s.barriers[i].begun d)))) = _
  rw [hproved, conditionEnd_setBarrier, enterAtEnd_setBarrier, startMove_setBarrier, conditionEnd_setBarrier,
    conditionEnd_setBarrier, conditionEnd_setBarrier]
  simp only [conditionEnd_eq .barrierStall]
  rfl

theorem beginOrder_keeps {d : BarrierEnd} (hs : p → ¬ MustStop s i) : Keeps p o s (beginOrder i d s) := by
  have hnew {r : BarrierRecord} (hg : p → UnderGate (MustStop s i) (MayLower s i) r)
      (hd : ∀ c, r.Demands (underCalibration s i = false) c →
        c = .barrierDisagree ∧ s.barriers[i].Demands (underCalibration s i = false) c) :
      Keeps p o s (conditionEnd .barrierStall (some i.val) (s.setBarrier i r)) ∧
      Keeps p o s (conditionEnd .barrierTimeout (some i.val)
        (conditionEnd .barrierStall (some i.val) (s.setBarrier i r))) := by
    have hstall : Keeps p o s (conditionEnd .barrierStall (some i.val) (s.setBarrier i r)) := by
      refine setBarrier_ends (fun hp _ => hg hp) fun c h => ?_
      obtain ⟨rfl, hr⟩ := hd c h
      exact ⟨by decide, hr⟩
    refine ⟨hstall, hstall.trans (conditionEnd_keeps fun _ h => ?_)⟩
    refine not_demands_setBarrier (fun hr => ?_) (by decide) (h.of_frame (conditionEnd_frame ..))
    exact absurd (hd _ hr).1 (by decide)
  rw [beginOrder_eq]
  split
  · refine (hnew (fun hp => BarrierRecord.ended_underGate (hs hp)) fun c h => ?_).2
    obtain ⟨rfl, hd, he⟩ := h.of_unsupervised rfl
    exact ⟨rfl, .disagree hd he⟩
  · refine (hnew (fun hp => BarrierRecord.move_underGate (hs hp) rfl mayLower_of_red _ _ _) fun c h => ?_).1
    obtain ⟨-, h', hdis⟩ := BarrierRecord.move_demands (.inl rfl) h
    obtain rfl := hdis rfl
    cases h' with
    | disagree hd he => exact ⟨rfl, .disagree hd he⟩

/-- An order is taken by a barrier of a crossing in use. -/
theorem order_keeps {d : BarrierEnd} (hu : p → Used s) : Keeps p o s (order i d s) := by
  unfold order
  dsimp only
  split
  next => exact .refl s
  next hservice =>
    have hs (hp : p) : ¬ MustStop s i := by
      rintro ⟨-, h | h⟩
      · exact hu hp h
      · exact hservice (by simp [h])
    split
    next => exact beginOrder_keeps hs
    next hstalled =>
      split
      next => exact .refl s
      next =>
        have hreversed : Keeps p o s (s.setBarrier i (s.barriers[i].reversed s.now d)) :=
          setBarrier_keeps (fun hp _ => underGate_of_off (hs hp) rfl rfl fun h => nomatch h) fun c h => by
            obtain ⟨rfl, hd, he⟩ := h.of_unsupervised rfl
            exact .disagree hd he
        split
        next => exact hreversed
        next => exact hreversed
        next => exact hreversed
        next hphase =>
          refine setBarrier_keeps (fun hp h => underGate_of_off (hs hp) ?_ ?_ ?_) fun c h => h.of_new id fun h h' => ⟨h, h'⟩
          · cases hdr : s.barriers[i].drive with
            | off => rfl
            | on d' duty =>
              have := (h.drive d' duty hdr).1
              rw [hphase] at this
              cases this
          · show s.barriers[i].phase.driven = false
            rw [hphase]; rfl
          · intro hh
            cases hphase.symm.trans hh
        all_goals exact beginOrder_keeps hs

theorem orderRole_keeps {role : BarrierRole} {d : BarrierEnd} (hu : p → Used s) :
    Keeps p o s (orderRole role d s) := by
  refine (forEach_keeps (P := fun t => t.crossing = s.crossing ∧ Keeps p o s t) (fun j t ⟨hc, ht⟩ => ?_)
    ⟨rfl, .refl s⟩).2
  split
  · exact ⟨((order_frame j d t).crossing (by decide)).trans hc,
      ht.trans (order_keeps fun hp => by rw [Used, hc]; exact hu hp)⟩
  · exact ⟨hc, ht⟩

theorem stopBarrier_keeps : Keeps p o s (stopBarrier i s) :=
  setBarrier_keeps (fun _ _ => s.barriers[i].stopped_atRest.underGate) fun _ h => (BarrierRecord.stopped_demands h).2

theorem stopAll_keeps : Keeps p o s (stopAll s) := forEach_keepsAll (fun _ _ => stopBarrier_keeps) s

/-! ## The gate (R113) -/

/-- Operations that change each barrier by its own record change all of them so. -/
theorem forEach_own {f : Fin 4 → State → State} {g : Fin 4 → BarrierRecord → BarrierRecord} (s : State)
    (h : ∀ i bs, f i { s with barriers := bs } = { s with barriers := bs.set i (g i bs[i]) }) :
    forEach 4 f s = { s with barriers := Vector.ofFn fun i => g i s.barriers[i] } := by
  have hfin : List.finRange 4 = [0, 1, 2, 3] := rfl
  have hs : s = { s with barriers := s.barriers } := rfl
  rw [hs, forEach, hfin]
  simp only [List.foldl_cons, List.foldl_nil, h]
  congr 1
  refine Vector.ext fun j hj => ?_
  match j, hj with
  | 0, _ | 1, _ | 2, _ | 3, _ => simp

/-- What a changed red-proved flag makes of a barrier that it gates: one HELD starts as it is gained, one driven down is
HELD as it is lost (R113). -/
def BarrierRecord.gated (e : BarrierEntry) (now : Time) (red : Bool) (r : BarrierRecord) : BarrierRecord :=
  if red then if r.phase = .held then r.toStart e now .down true else r
  else if r.phase.driven && r.target == some .down then { r.held with runOrigin := none, runStart := none } else r

/-- The flag of a side gates the barrier: it is in service there, and not under calibration (R113). -/
def gates (side : Side) (s : State) (i : Fin 4) : Bool :=
  (s.barrierEntry i).inService && (s.barrierEntry i).roadSide == side && !underCalibration s i

/-- Each barrier is gated by its own record. -/
theorem gateSide_eq (side : Side) (red : Bool) (s : State) : gateSide side red s = { s with
    barriers := Vector.ofFn fun i =>
      if gates side s i then s.barriers[i].gated (s.barrierEntry i) s.now red else s.barriers[i] } := by
  refine forEach_own s (g := fun i r => if gates side s i then r.gated (s.barrierEntry i) s.now red else r) fun i bs => ?_
  have hself : ({ s with barriers := bs } : State) = { s with barriers := bs.set i bs[i] } := by
    simp only [Fin.getElem_fin, Vector.set_getElem_self]
  have hgates : (!(s.barrierEntry i).inService || (s.barrierEntry i).roadSide != side || underCalibration s i) =
      !gates side s i := by
    simp [gates, bne]
  show (if !(s.barrierEntry i).inService || (s.barrierEntry i).roadSide != side || underCalibration s i then _
    else _) = _
  rw [hgates]
  cases gates side s i with
  | false => exact hself
  | true =>
    rw [if_neg (by simp), BarrierRecord.gated]
    split
    · split
      · rfl
      · exact hself
    · split
      · rfl
      · exact hself

theorem gateSide_barrier (side : Side) (red : Bool) (s : State) (i : Fin 4) : (gateSide side red s).barriers[i] =
    if gates side s i then s.barriers[i].gated (s.barrierEntry i) s.now red else s.barriers[i] := by
  rw [gateSide_eq]
  exact Vector.getElem_ofFn _

section
variable {stop low low' : Prop} {r : BarrierRecord}

theorem BarrierRecord.gated_underGate (h : UnderGate stop low r) {red : Bool} (hred : red = true → low') (e : BarrierEntry)
    (now : Time) : UnderGate stop low' (r.gated e now red) := by
  unfold BarrierRecord.gated
  cases red with
  | true =>
    have hlow := hred rfl
    rw [if_pos rfl]
    split
    next hh =>
      have ht := h.held hh
      exact (BarrierRecord.toStart_drivenTo e now .down true r).1.underGate ht (h.free_of_target ht) fun _ => hlow
    next => exact ⟨h.drive, h.held, h.stops, fun _ _ => hlow⟩
  | false =>
    rw [if_neg Bool.false_ne_true]
    split
    next hd =>
      obtain ⟨-, ht⟩ := (Bool.and_eq_true ..).mp hd
      have ht : r.target = some .down := by simpa using ht
      exact (BarrierRecord.held_underGate (h.free_of_target ht) ht).congr rfl rfl rfl
    next hd => exact ⟨h.drive, h.held, h.stops, fun hdr ht => absurd (by simp [hdr, ht]) hd⟩

theorem BarrierRecord.gated_demands {free : Prop} {e : BarrierEntry} {now : Time} {red : Bool} {c : FaultCode}
    (h : (r.gated e now red).Demands free c) : r.Demands free c := by
  unfold BarrierRecord.gated at h
  split at h
  · split at h
    · obtain ⟨hto, htravel⟩ := BarrierRecord.toStart_drivenTo e now .down true r
      exact hto.demands (fun hn => by rw [htravel] at hn; cases hn) h
    · exact h
  · split at h
    · obtain ⟨rfl, hd, he⟩ := h.of_unsupervised rfl
      exact .disagree hd he
    · exact h

end

/-- A changed red-proved flag is handed to the barriers as the lamps take it; a side that is dark then was so before. -/
theorem gateSide_keeps {side : Side} {red : Bool} {x : LampController}
    (hred : x.redProved = s.lamp.redProved.set side red)
    (hdark : ∀ side', ¬ o .roadSideDark → x.aspect = .red → x.redProved.get side' = false →
      x.darkEnd.get side' = none → Demands s .roadSideDark (some (sideNumber side'))) :
    Keeps p o s (gateSide side red { s with lamp := x }) := by
  rw [gateSide_eq]
  refine ⟨fun hb => ⟨hb.portA, hb.portB, hb.queue, hb.faults, hb.bank0, hb.bank1, hb.filling⟩, fun _ hg i => ?_,
    fun _ _ ha c y ho hd => ha c y ho ?_⟩
  · have hi := (gatedBarrier_iff s i).1 (hg i)
    refine (gatedBarrier_iff _ i).2 ?_
    have hlow (hservice : (s.barrierEntry i).inService = true) (hside : (s.barrierEntry i).roadSide = side) :
        x.redProved.get (s.barrierEntry i).roadSide = red := by
      rw [hside, hred, PerSide.get_set]
    simp only [Fin.getElem_fin, Vector.getElem_ofFn]
    split
    next hgates =>
      simp only [gates, Bool.and_eq_true, beq_iff_eq, Bool.not_eq_true'] at hgates
      obtain ⟨⟨hservice, hside⟩, hcal⟩ := hgates
      exact BarrierRecord.gated_underGate hi (fun hr _ _ => (hlow hservice hside).trans hr) _ _
    next hgates =>
      refine ⟨hi.drive, hi.held, hi.stops, fun hdr ht hs hc => ?_⟩
      have hs : (s.barrierEntry i).inService = true := hs
      have hc : underCalibration s i = false := hc
      have hother : (s.barrierEntry i).roadSide ≠ side := fun hside => hgates (by
        rw [gates]
        exact (Bool.and_eq_true ..).mpr
          ⟨(Bool.and_eq_true ..).mpr ⟨hs, beq_iff_eq.mpr hside⟩, by rw [Bool.not_eq_true']; exact hc⟩)
      exact (congrArg (PerSide.get · _) hred).trans
        ((PerSide.get_set_other _ hother _).trans (hi.lowers hdr ht hs hc))
  · cases hd with
    | critical h => exact .critical h
    | barrier i h =>
      refine .barrier i ?_
      simp only [Fin.getElem_fin, Vector.getElem_ofFn] at h
      split at h
      · exact BarrierRecord.gated_demands h
      · exact h
    | dark side' ha hr hd => exact hdark side' ho ha hr hd
    | invalid hl hd => exact .invalid hl hd

theorem conditionEnd_gateSide (c : FaultCode) (x : Option Nat) (side : Side) (red : Bool) (s : State) :
    gateSide side red (conditionEnd c x s) = conditionEnd c x (gateSide side red s) := by
  rw [gateSide_eq, gateSide_eq, conditionEnd_eq, conditionEnd_eq]
  rfl

theorem formRed_keeps {side : Side} : Keeps p o s (formRed side s) := by
  -- the other side is as it was, and this one is not newly dark
  have hgate (red : Bool) (end_ : Option Time) (hown : s.lamp.aspect = .red → red = false → end_ ≠ none) :
      Keeps p o s (gateSide side red { s with lamp := { s.lamp with
        redProved := s.lamp.redProved.set side red, darkEnd := s.lamp.darkEnd.set side end_ } }) := by
    refine gateSide_keeps rfl fun side' _ ha hr hd => ?_
    dsimp only at ha hr hd
    by_cases hside : side' = side
    · subst hside
      rw [PerSide.get_set] at hr hd
      exact absurd hd (hown ha hr)
    · rw [PerSide.get_set_other _ hside] at hr hd
      exact .dark side' ha hr hd
  cases hlit : sideHasRed s side <;> cases hred : s.lamp.redProved.get side
  case false.false | true.true => exact (formRed_same (hlit.trans hred.symm)).symm ▸ .refl s
  case true.false =>
    rw [formRed_gained hlit hred, conditionEnd_gateSide]
    refine (hgate true none fun _ h => nomatch h).trans (conditionEnd_keeps fun _ hd => ?_)
    obtain ⟨-, hr, -⟩ := hd.roadSideDark
    rw [gateSide_lamp] at hr
    exact absurd ((PerSide.get_set ..).symm.trans hr) (by simp)
  case false.true =>
    by_cases ha : s.lamp.aspect = .red
    · rw [formRed_lost_underRed hlit hred ha]
      exact hgate false _ fun _ _ => Option.some_ne_none _
    · rw [formRed_lost_elsewhere hlit hred ha]
      have h := hgate false (s.lamp.darkEnd.get side) fun h => absurd h ha
      rwa [PerSide.set_get_self] at h

theorem formBothRed_keeps : Keeps p o s (formBothRed s) := formRed_keeps.trans formRed_keeps

/-! ## Proving and disagreement (R108, R110, R117) -/

theorem judgeProving_keeps : Keeps p o s (judgeProving i s) := by
  have hset (a b : Bool) : Keeps p o s (s.setBarrier i { s.barriers[i] with provedDown := a, provedUp := b }) :=
    setBarrier_keeps (fun _ h => h.congr rfl rfl rfl) fun _ h => h.of_new id fun h h' => ⟨h, h'⟩
  unfold judgeProving
  dsimp only
  generalize provingOf (s.barrierEntry i) s.contacts[i] s.barriers[i].position = ab
  refine (hset ab.1 ab.2).trans ?_
  generalize s.setBarrier i { s.barriers[i] with provedDown := ab.1, provedUp := ab.2 } = t
  split
  next htarget => exact .ite (fun _ => enterAtEnd_keeps htarget) fun _ => .refl t
  next htarget => exact .ite (fun _ => .refl t) fun _ => startMove_keeps htarget (.inl rfl)
  next => exact .refl t

theorem judgeDisagreement_keeps : Keeps p o s (judgeDisagreement i s) := by
  unfold judgeDisagreement
  dsimp only
  split
  · exact .refl s
  · split
    · refine setBarrier_keeps (fun _ h => h.congr rfl rfl rfl) fun c h => ?_
      cases h with
      | stall hp => exact .stall hp
      | timeout hp hf ht => exact .timeout hp hf ht
      | disagree _ he => cases he
    · refine setBarrier_ends (c := .barrierDisagree)
        (r := { s.barriers[i] with disagreeing := false, disagreeEnd := none }) (fun _ h => h.congr rfl rfl rfl)
        fun c h => ?_
      cases h with
      | stall hp => exact ⟨by decide, .stall hp⟩
      | timeout hp hf ht => exact ⟨by decide, .timeout hp hf ht⟩
      | disagree hd _ => cases hd
    · exact .refl s
    · exact .refl s

theorem judgeBarrier_keeps : Keeps p o s (judgeBarrier i s) := judgeProving_keeps.trans judgeDisagreement_keeps

/-! ## Contacts (R117) -/

theorem contactMotion_keeps {d : BarrierEnd} {closed : Bool} : Keeps p o s (contactMotion i d closed s) := by
  unfold contactMotion
  dsimp only
  split
  next => exact .refl s
  next hother =>
    have htarget : s.barriers[i].target = some d := by
      simp only [Bool.or_eq_true, bne_iff_ne, ne_eq, not_or, not_not] at hother
      exact hother.1
    have hfree {stop low : Prop} (h : UnderGate stop low s.barriers[i]) : ¬ stop := h.free_of_target htarget
    split
    · refine .ite (fun hdriven => setBarrier_keeps (fun _ h => underGate_of_off (hfree h) rfl rfl fun h => nomatch h)
        fun c h => ?_) fun _ => .refl s
      exact h.of_new (fun hp => nomatch hp) fun _ ht => ⟨BarrierPhase.supervised_of_driven hdriven, ht⟩
    · refine .ite (fun hsettle => ?_) fun _ => .refl s
      have hsup : s.barriers[i].phase.supervised = true := by rw [hsettle]; rfl
      unfold BarrierRecord.fromSettle
      split
      next hd =>
        exact setBarrier_keeps (fun _ h => BarrierRecord.held_underGate (hfree h) (hd.1 ▸ htarget))
          fun _ h => (BarrierRecord.held_demands h).2
      next hd =>
        have hlow (h : d = .down) : MayLower s i :=
          mayLower_of_red (by simpa using fun hr => hd ⟨h, hr⟩)
        split
        · exact setBarrier_keeps (fun _ h => underGate_of_on (hfree h) rfl rfl htarget hlow)
            fun _ h => h.of_new (fun hp => nomatch hp) fun _ ht => ⟨hsup, ht⟩
        · obtain ⟨hto, htravel⟩ :=
            BarrierRecord.toRun_drivenTo (s.barrierEntry i) s.now d s.barriers[i]
          exact setBarrier_keeps (fun _ h => hto.underGate htarget (hfree h) hlow)
            fun _ h => hto.demands (fun ht => ⟨hsup, htravel ▸ ht⟩) h

/-! ## Angle results (R107, R109, R115, R116) -/

section
variable {r : BarrierRecord} {d : BarrierEnd} (ht : r.target = some d) (e : BarrierEntry) (now : Time)
  (was : Option Nat)
include ht

/-- In RUN and BRAKE a movement that loses its position runs on open loop (R115). -/
theorem BarrierRecord.steer_lost (hp : r.phase = .run ∨ r.phase = .brake) (hpos : r.position = none) :
    r.steer e now was =
      if was.isSome then { r with phase := .run, openLoopOnly := true, drive := .on d e.ratedDuty } else r := by
  rcases hp with hp | hp <;> simp only [BarrierRecord.steer, ht, hp, hpos]

theorem BarrierRecord.steer_brake (hp : r.phase = .brake) {pos : Nat} (hpos : r.position = some pos) :
    r.steer e now was = r := by
  simp only [BarrierRecord.steer, ht, hp, hpos, if_true]

/-- In RUN a valid position in the brake zone brakes the movement (R116). -/
theorem BarrierRecord.steer_brakes (hp : r.phase = .run) {pos : Nat} (hpos : r.position = some pos)
    (hzone : r.openLoopOnly = false ∧ inBrakeZone e d pos = true) :
    r.steer e now was = { r with phase := .brake, drive := .on d e.brakeDuty } := by
  obtain ⟨hloop, hzone⟩ := hzone
  simp only [BarrierRecord.steer, ht, hp, hpos, hloop, hzone, reduceCtorEq, if_false, if_true, Bool.not_false,
    Bool.and_true]

/-- A regulated movement takes a new duty (R115). -/
theorem BarrierRecord.steer_regulates (hp : r.phase = .run) {pos origin : Nat} {t0 : Time} (hpos : r.position = some pos)
    (hloop : r.openLoopOnly = false) (hzone : inBrakeZone e d pos = false) (hclosed : e.closedLoop = true)
    (horigin : r.runOrigin = some origin) (hstart : r.runStart = some t0) :
    r.steer e now was = { r with drive := .on d (regulatedDuty e d origin pos (now - t0).toNat) } := by
  simp only [BarrierRecord.steer, ht, hp, hpos, hloop, hzone, hclosed, horigin, hstart, reduceCtorEq, if_false,
    Bool.and_false, Bool.false_eq_true]

/-- Any other movement in RUN keeps its duty (R115). -/
theorem BarrierRecord.steer_runs (hp : r.phase = .run) {pos : Nat} (hpos : r.position = some pos)
    (hzone : r.openLoopOnly = true ∨ inBrakeZone e d pos = false)
    (hfree : r.openLoopOnly = true ∨ e.closedLoop = false ∨ r.runOrigin = none ∨ r.runStart = none) :
    r.steer e now was = r := by
  have hz : (!r.openLoopOnly && inBrakeZone e d pos) = false := by rcases hzone with h | h <;> simp [h]
  simp only [BarrierRecord.steer, ht, hp, hpos, hz, reduceCtorEq, if_false, Bool.false_eq_true]
  split
  next hclosed horigin hstart hloop => simp [hclosed, horigin, hstart, hloop] at hfree
  next => rfl

/-- In any other phase a movement under way that loses its position is open loop from then on (R115). -/
theorem BarrierRecord.steer_other (hrun : r.phase ≠ .run) (hbrake : r.phase ≠ .brake) :
    r.steer e now was =
      if r.underway && was.isSome && r.position.isNone then { r with openLoopOnly := true } else r := by
  simp only [BarrierRecord.steer, ht]
  cases hp : r.phase with
  | run => exact absurd hp hrun
  | brake => exact absurd hp hbrake
  | idle | start | settle | atEnd | held | reverse | tripped | stalled => rfl

end

theorem BarrierRecord.steer_untargeted {r : BarrierRecord} (ht : r.target = none) (e : BarrierEntry) (now : Time)
    (was : Option Nat) : r.steer e now was = r := by
  simp only [BarrierRecord.steer, ht]

/-- A new position leaves a movement, makes it open loop, or drives it anew in RUN or BRAKE. -/
theorem BarrierRecord.steer_cases (e : BarrierEntry) (now : Time) (was : Option Nat) (r : BarrierRecord) :
    r.steer e now was = r ∨ r.steer e now was = { r with openLoopOnly := true } ∨
    ∃ d, r.target = some d ∧ r.phase.driven = true ∧ r.DrivenTo d (r.steer e now was) ∧
      (r.steer e now was).travelEnd = r.travelEnd := by
  rcases Option.eq_none_or_eq_some r.target with ht | ⟨d, ht⟩
  · exact .inl (BarrierRecord.steer_untargeted ht e now was)
  have hdrives {r' : BarrierRecord} (h : r.steer e now was = r') (hd : r.phase.driven = true) (hto : r.DrivenTo d r')
      (htravel : r'.travelEnd = r.travelEnd) :
      ∃ d, r.target = some d ∧ r.phase.driven = true ∧ r.DrivenTo d (r.steer e now was) ∧
        (r.steer e now was).travelEnd = r.travelEnd :=
    ⟨d, ht, hd, h ▸ hto, h ▸ htravel⟩
  by_cases hmoving : r.phase = .run ∨ r.phase = .brake
  · have hdriven : r.phase.driven = true := by rcases hmoving with h | h <;> rw [h] <;> rfl
    rcases Option.eq_none_or_eq_some r.position with hpos | ⟨pos, hpos⟩
    · have h := BarrierRecord.steer_lost ht e now was hmoving hpos
      split at h
      · exact .inr (.inr (hdrives h hdriven ⟨rfl, ⟨_, rfl⟩, rfl, rfl, rfl⟩ rfl))
      · exact .inl h
    · rcases hmoving with hp | hp
      · by_cases hzone : r.openLoopOnly = false ∧ inBrakeZone e d pos = true
        · exact .inr (.inr (hdrives (BarrierRecord.steer_brakes ht e now was hp hpos hzone) hdriven
            ⟨rfl, ⟨_, rfl⟩, rfl, rfl, rfl⟩ rfl))
        · simp only [not_and_or, Bool.not_eq_false, Bool.not_eq_true] at hzone
          by_cases hfree : r.openLoopOnly = true ∨ e.closedLoop = false ∨ r.runOrigin = none ∨ r.runStart = none
          · exact .inl (BarrierRecord.steer_runs ht e now was hp hpos hzone hfree)
          · simp only [not_or, Bool.not_eq_true, Bool.not_eq_false, ← ne_eq, Option.ne_none_iff_exists'] at hfree
            obtain ⟨hloop, hclosed, ⟨origin, horigin⟩, ⟨t0, hstart⟩⟩ := hfree
            exact .inr (.inr (hdrives (BarrierRecord.steer_regulates ht e now was hp hpos hloop
              (hzone.resolve_left (by simp [hloop])) hclosed horigin hstart) hdriven
              ⟨hdriven, ⟨_, rfl⟩, rfl, rfl, rfl⟩ rfl))
      · exact .inl (BarrierRecord.steer_brake ht e now was hp hpos)
  · obtain ⟨hrun, hbrake⟩ := not_or.1 hmoving
    have h := BarrierRecord.steer_other ht e now was hrun hbrake
    split at h
    · exact .inr (.inl h)
    · exact .inl h

theorem angleResult_keeps {result : ScanResult} : Keeps p o s (angleResult i result s) := by
  have hfeedback (b : Bool) : Keeps p o s (s.setBarrier i { s.barriers[i] with feedbackLost := b }) :=
    setBarrier_keeps (fun _ h => h.congr rfl rfl rfl) fun _ h => h.of_new id fun h h' => ⟨h, h'⟩
  have hjudged : Keeps p o s (judgeFeedback i result.overrange s) := by
    unfold judgeFeedback
    dsimp only
    split
    · exact (hfeedback true).trans conditionPresent_keeps_quiet
    · exact (hfeedback false).trans conditionEnd_keeps_quiet
    · exact .refl s
    · exact .refl s
  unfold angleResult
  dsimp only
  refine Keeps.trans (t := if (s.barrierEntry i).inService then judgeFeedback i result.overrange s else s)
    (.ite (fun _ => hjudged) fun _ => .refl s) ?_
  generalize (if (s.barrierEntry i).inService then judgeFeedback i result.overrange s else s) = t
  refine Keeps.trans ?_ judgeBarrier_keeps
  generalize positionOf (s.barrierEntry i) (some result) = pos
  have hplaced : Keeps p o t (t.setBarrier i { t.barriers[i] with position := pos }) :=
    setBarrier_keeps (fun _ h => h.congr rfl rfl rfl) fun _ h => h.of_new id fun h h' => ⟨h, h'⟩
  split
  · exact hplaced
  · rcases BarrierRecord.steer_cases (s.barrierEntry i) t.now t.barriers[i].position
      { t.barriers[i] with position := pos } with h | h | ⟨d, ht, hdriven, hto, htravel⟩
    · rw [h]; exact hplaced
    · rw [h]
      exact setBarrier_keeps (fun _ h => h.congr rfl rfl rfl) fun _ h => h.of_new id fun h h' => ⟨h, h'⟩
    · have ht : t.barriers[i].target = some d := ht
      have hdriven : t.barriers[i].phase.driven = true := hdriven
      refine setBarrier_keeps (fun _ h => ?_) fun c h => ?_
      · exact hto.underGate ht (h.free_of_target ht) fun hd => h.lowers hdriven (hd ▸ ht)
      · have hnew := hto.demands (fun hn => ⟨BarrierPhase.supervised_of_driven hdriven, htravel ▸ hn⟩) h
        exact hnew.of_new id fun h h' => ⟨h, h'⟩

/-! ## Trips and the ends of the timers (R110, R114, R118 to R121) -/

theorem alarmPair_barrier {c : FaultCode} (hc : c = .barrierStall ∨ c = .barrierTimeout ∨ c = .barrierDisagree)
    (i : Fin 4) : AlarmPair c (some i.val) := by
  rcases hc with rfl | rfl | rfl <;> exact ⟨i.val, rfl, i.isLt⟩

theorem trip_keeps (hd : s.barriers[i].phase.driven = true) : Keeps p o s (trip i s) := by
  have hevent : Keeps p o s (eventEntered .barrierOvercurrent (some i.val) none s) := eventEntered_keeps
  have hd' : (eventEntered .barrierOvercurrent (some i.val) none s).barriers[i].phase.driven = true := by
    rwa [(eventEntered_frame ..).barrier (by decide)]
  unfold trip
  refine hevent.trans ?_
  dsimp only
  generalize eventEntered .barrierOvercurrent (some i.val) none s = t at hd' ⊢
  have hphase : t.barriers[i].phase ≠ .idle := fun h => by rw [h] at hd'; cases hd'
  have hsup := BarrierPhase.supervised_of_driven hd'
  refine .ite (fun _ => ?_) fun _ => ?_
  · exact setBarrier_keeps (fun _ h => underGate_of_off (h.free (.inr hphase)) rfl rfl fun h => (by cases h))
      fun _ h => h.of_new (fun h => (by cases h)) fun _ ht => ⟨hsup, ht⟩
  · refine setBarrier_presents (fun _ h => underGate_of_off (h.free (.inr hphase)) rfl rfl fun h => (by cases h)) rfl
      (alarmPair_barrier (.inl rfl) i) fun c h => ?_
    cases h with
    | stall => exact .inl rfl
    | timeout _ hf ht => exact .inr (.timeout hsup hf ht)
    | disagree hd he => exact .inr (.disagree hd he)

theorem currentResult_keeps {result : ScanResult} : Keeps p o s (currentResult i result s) := by
  unfold currentResult
  refine .ite (fun h => trip_keeps ?_) fun _ => .refl s
  simp only [Bool.and_eq_true] at h
  exact h.1.1

theorem startPhaseEnds_keeps : Keeps p o s (startPhaseEnds i s) := by
  unfold startPhaseEnds
  dsimp only
  split
  next d ht =>
    refine .ite (fun h => ?_) fun _ => .refl s
    simp only [Bool.and_eq_true, decide_eq_true_eq] at h
    obtain ⟨hstart, -⟩ := h
    have hdriven : s.barriers[i].phase.driven = true := by rw [hstart]; rfl
    obtain ⟨hto, htravel⟩ := BarrierRecord.toRun_drivenTo (s.barrierEntry i) s.now d s.barriers[i]
    exact setBarrier_keeps (fun _ h => hto.underGate ht (h.free_of_target ht) fun hd => h.lowers hdriven (hd ▸ ht))
      fun _ h => hto.demands (fun hn => ⟨BarrierPhase.supervised_of_driven hdriven, htravel ▸ hn⟩) h
  next => exact .refl s

theorem pauseEnds_keeps {phase : BarrierPhase} {fresh : Bool} (hf : fresh = true ∨ phase.supervised = true) :
    Keeps p o s (pauseEnds phase fresh i s) := by
  unfold pauseEnds
  dsimp only
  split
  next d ht =>
    refine .ite (fun h => .ite (fun _ => enterAtEnd_keeps ht) fun _ => startMove_keeps ht ?_) fun _ => .refl s
    simp only [Bool.and_eq_true, decide_eq_true_eq] at h
    rwa [h.1]
  next => exact .refl s

theorem travelEnds_keeps : Keeps p o s (travelEnds i s) := by
  refine .ite (fun _ => ?_) fun _ => .refl s
  refine setBarrier_presents (r := { s.barriers[i] with travelEnd := none }) (fun _ h => h.congr rfl rfl rfl) rfl
    (alarmPair_barrier (.inr (.inl rfl)) i) fun c h => ?_
  cases h with
  | stall hp => exact .inr (.stall hp)
  | timeout => exact .inl rfl
  | disagree hd he => exact .inr (.disagree hd he)

theorem disagreementEnds_keeps : Keeps p o s (disagreementEnds i s) := by
  refine .ite (fun _ => ?_) fun _ => .refl s
  refine setBarrier_presents (r := { s.barriers[i] with disagreeEnd := none }) (fun _ h => h.congr rfl rfl rfl) rfl
    (alarmPair_barrier (.inr (.inr rfl)) i) fun c h => ?_
  cases h with
  | stall hp => exact .inr (.stall hp)
  | timeout hp hf ht => exact .inr (.timeout hp hf ht)
  | disagree => exact .inl rfl

/-! ## Table writes (R105, R107) -/

theorem takeBarrierOut_keeps : Keeps p o s (takeBarrierOut i s) := by
  have hnone {c : FaultCode} : ¬ BarrierRecord.Demands (underCalibration s i = false) { s.barriers[i].stopped with
      disagreeEnd := none, disagreeing := false, feedbackLost := false } c := by
    intro h
    obtain ⟨-, hd, -⟩ := h.of_unsupervised rfl
    cases hd
  have hgone {c : FaultCode} (hc : c ≠ .roadSideDark) : ¬ Demands (s.setBarrier i { s.barriers[i].stopped with
      disagreeEnd := none, disagreeing := false, feedbackLost := false }) c (some i.val) :=
    not_demands_setBarrier hnone hc
  refine ((((setBarrier_keeps ?_ fun c h => absurd h hnone).trans (conditionEnd_keeps ?_)).trans
    (conditionEnd_keeps ?_)).trans (conditionEnd_keeps ?_)).trans conditionEnd_keeps_quiet
  · exact fun _ _ => BarrierRecord.AtRest.underGate ⟨rfl, rfl, rfl⟩
  · exact fun _ h => hgone (by decide) h
  · exact fun _ h => hgone (by decide) (h.of_frame (conditionEnd_frame ..))
  · exact fun _ h => hgone (by decide) ((h.of_frame (conditionEnd_frame ..)).of_frame (conditionEnd_frame ..))

theorem rejudgePosition_keeps : Keeps p o s (rejudgePosition i s) := by
  unfold rejudgePosition
  refine Keeps.trans (setBarrier_keeps (fun _ h => ?_) fun c h => ?_) judgeBarrier_keeps
  · split
    · exact h
    · exact h.congr rfl rfl rfl
  · split at h
    · exact h
    · exact h.of_new id fun h h' => ⟨h, h'⟩

end

end Sys2Proof.Machine
end

section
/-! SUPPORT. The operations of the Lamp Controller, of the calibration and of the table-valid flag keep the bounds, the
gate and the records of the ALARM conditions (R89 to R103, R110, R124 to R126, R138, R178). -/

namespace Sys2Proof.Machine

set_option Elab.async false

section
variable {p : Prop} {o : FaultCode → Prop} {s : State}

/-! ## The lamps (R89 to R98) -/

theorem setLamp_keeps {i : Fin 12} {r : LampRecord} : Keeps p o s (s.setLamp i r) := withLamp_keeps_quiet

theorem setMode_keeps {i : Fin 12} {m : LampMode} : Keeps p o s (setMode i m s) :=
  .ite (fun _ => .refl s) fun _ => setLamp_keeps.trans (.ite (fun _ => .refl _) fun _ => conditionEnd_keeps_quiet)

theorem countJudged_keeps {i : Fin 12} {ok : Bool} : Keeps p o s (countJudged i ok s) :=
  .ite (fun _ => setLamp_keeps.trans conditionEnd_keeps_quiet) fun _ =>
    setLamp_keeps.trans (.ite (fun _ => conditionPresent_keeps_quiet) fun _ => .refl _)

theorem judgeInterval_keeps {i : Fin 12} : Keeps p o s (judgeInterval i s) := setLamp_keeps.trans countJudged_keeps

theorem flashResult_keeps {i : Fin 12} {res : ScanResult} : Keeps p o s (flashResult i res s) := by
  unfold flashResult
  dsimp only
  split
  · exact .ite (fun _ => judgeInterval_keeps) fun _ => .ite (fun _ => setLamp_keeps) fun _ => .refl s
  · exact .refl s

theorem darkResult_keeps {i : Fin 12} {res : ScanResult} : Keeps p o s (darkResult i res s) := by
  unfold darkResult
  dsimp only
  refine .ite (fun _ => .refl s) fun _ => ?_
  split
  · exact setLamp_keeps.trans conditionPresent_keeps_quiet
  · exact setLamp_keeps.trans conditionEnd_keeps_quiet
  · exact .refl s
  · exact .refl s

theorem lampResult_keeps {i : Fin 12} {res : ScanResult} : Keeps p o s (lampResult i res s) := by
  unfold lampResult
  dsimp only
  split
  · exact flashResult_keeps.trans formBothRed_keeps
  · exact .ite (fun _ => countJudged_keeps.trans formBothRed_keeps) fun _ => .refl s
  · exact darkResult_keeps

theorem openLit_keeps {phase : Phase} {i : Fin 12} : Keeps p o s (openLit phase i s) :=
  .ite (fun _ => (Keeps.ite (fun _ => judgeInterval_keeps) fun _ => .refl s).trans setLamp_keeps) fun _ => .refl s

theorem startHalfPeriod_keeps {phase : Phase} : Keeps p o s (startHalfPeriod phase s) :=
  (Keeps.trans withLamp_keeps_quiet (forEach_keepsAll (fun _ _ => openLit_keeps) _)).trans formBothRed_keeps

theorem halfPeriodEnds_keeps : Keeps p o s (halfPeriodEnds s) := by
  unfold halfPeriodEnds
  split
  · exact .ite (fun _ => startHalfPeriod_keeps) fun _ => .refl s
  · exact .refl s

/-! ## The aspect and the dark timers (R89, R90, R99) -/

/-- Dark timers of which none has ended newly under RED. -/
theorem withDarkEnd_keeps {ends : PerSide (Option Time)}
    (h : ∀ side, ¬ o .roadSideDark → s.lamp.aspect = .red → s.lamp.redProved.get side = false → ends.get side = none →
      s.lamp.darkEnd.get side = none) : Keeps p o s { s with lamp := { s.lamp with darkEnd := ends } } :=
  withLamp_keeps rfl fun side ho ha hr hd => ⟨ha, h side ho ha hr hd⟩

theorem darkTimerOnAspect_keeps {side : Side} : Keeps p o s (darkTimerOnAspect side s) := by
  unfold darkTimerOnAspect
  refine .ite (fun _ => .ite (fun _ => .refl s) fun _ => withDarkEnd_keeps fun side' _ _ _ hd => ?_) fun ha => ?_
  · by_cases hside : side' = side
    · subst hside
      rw [PerSide.get_set] at hd
      cases hd
    · rwa [PerSide.get_set_other _ hside] at hd
  · exact (withDarkEnd_keeps fun _ _ h => absurd h ha).trans (conditionEnd_keeps fun _ hd => ha hd.roadSideDark.1)

theorem aspectFormed_keeps {a : Aspect} (h : o .roadSideDark) : Keeps p o s (aspectFormed a s) := by
  have haspect : Keeps p o s (s.withAspect a) := withLamp_keeps rfl fun _ hn => absurd h hn
  rw [aspectFormed_eq, aspected_eq, giveModes]
  exact (haspect.trans (forEach_keepsAll (fun _ _ => setMode_keeps) _)).trans formBothRed_keeps

theorem changeAspect_keeps {a : Aspect} : Keeps p o s (changeAspect a s) := by
  -- until its dark timers are set, a side may be dark under RED with no record of it
  have howing : Keeps p (fun c => c = .roadSideDark ∨ o c) s (changeAspect a s) := by
    have hformed : Keeps p (fun c => c = .roadSideDark ∨ o c) s (aspectFormed a s) := aspectFormed_keeps (.inl rfl)
    have htimers {t : State} : Keeps p (fun c => c = .roadSideDark ∨ o c) t (darkTimers t) :=
      darkTimerOnAspect_keeps.trans darkTimerOnAspect_keeps
    have hstopped : Keeps p (fun c => c = .roadSideDark ∨ o c) s (generatorStopped (aspectFormed a s)) :=
      hformed.trans withLamp_keeps_quiet
    rw [changeAspect_eq]
    exact .ite (fun _ => (hformed.trans htimers).trans startHalfPeriod_keeps) fun _ =>
      .ite (fun _ => hstopped.trans htimers) fun _ => hstopped
  refine howing.settles fun x hd => ?_
  generalize hc : FaultCode.roadSideDark = c at hd
  cases hd with
  | critical | invalid => cases hc
  | barrier i h => cases h <;> cases hc
  | dark side ha hr hd =>
    obtain rfl : a = .red := (changeAspect_held a s).1.symm.trans ha
    rw [changeAspect_red_dark hr] at hd
    cases hd

theorem takeAspect_keeps : Keeps p o s (takeAspect s) := by
  have hsound {t : State} : Keeps p o t (if t.crossing.sound = t.lamp.sound then t else changeSound t.crossing.sound t) :=
    .ite (fun _ => .refl t) fun _ => withLamp_keeps_quiet
  exact (Keeps.ite (fun _ => .refl s) fun _ => changeAspect_keeps).trans hsound

theorem darkTimerEnds_keeps {side : Side} : Keeps p o s (darkTimerEnds side s) := by
  refine .ite (fun _ => .presents rfl ?_ (withDarkEnd_keeps fun _ h => absurd trivial h) rfl fun c y hd => ?_)
    fun _ => .refl s
  · cases side
    · exact ⟨0, rfl, by decide⟩
    · exact ⟨1, rfl, by decide⟩
  · cases hd with
    | critical h => exact .inr (.critical h)
    | barrier i h => exact .inr (.barrier i h)
    | invalid hl hd => exact .inr (.invalid hl hd)
    | dark side' ha hr hd =>
      dsimp only at ha hr hd
      by_cases hside : side' = side
      · exact .inl ⟨rfl, by rw [hside]⟩
      · rw [PerSide.get_set_other _ hside] at hd
        exact .inr (.dark side' ha hr hd)

theorem audibleResult_keeps {i : Fin 2} {res : ScanResult} : Keeps p o s (audibleResult i res s) := by
  unfold audibleResult
  dsimp only
  refine .ite (fun _ => .ite (fun _ => ?_) fun _ => .ite (fun _ => ?_) fun _ => ?_) fun _ => .refl s
  · exact Keeps.trans withLamp_keeps_quiet conditionEnd_keeps_quiet
  · exact Keeps.trans withLamp_keeps_quiet conditionPresent_keeps_quiet
  · exact withLamp_keeps_quiet

/-! ## The lamp test (R100, R101) -/

theorem openSlot_keeps {from_ : Nat} : Keeps p o s (openSlot from_ s) := by
  unfold openSlot
  split
  · exact Keeps.trans withLamp_keeps_quiet setMode_keeps
  · exact withLamp_keeps_quiet

theorem startLampTest_keeps : Keeps p o s (startLampTest s) := by
  have hdark {t : State} : Keeps p o t (forEach 12 (fun i u => setMode i .dark u) t) :=
    forEach_keepsAll (fun _ _ => setMode_keeps) t
  unfold startLampTest
  exact (Keeps.trans withLamp_keeps_quiet hdark).trans openSlot_keeps

theorem slotEnds_keeps : Keeps p o s (slotEnds s) := by
  unfold slotEnds
  split
  · exact .ite (fun _ => ((Keeps.trans withLamp_keeps_quiet setMode_keeps).trans formBothRed_keeps).trans openSlot_keeps)
      fun _ => .refl s
  · exact .refl s

/-! ## The table-valid flag (R178) -/

theorem lampsOnClear_keeps : Keeps p o s (lampsOnClear s) := by
  have htest : Keeps p o s (endLampTest s) := .ite (fun _ => withLamp_keeps_quiet) fun _ => .refl s
  have hlamp (i : Fin 12) (t : State) : Keeps p o t (lampOnClear i t) := by
    unfold lampOnClear
    refine Keeps.trans (Keeps.trans ?_ conditionEnd_keeps_quiet) conditionEnd_keeps_quiet
    exact setMode_keeps.trans setLamp_keeps
  have hzero {t : State} : Keeps p o t (zeroAudible t) := withLamp_keeps_quiet
  exact (((htest.trans (forEach_keepsAll hlamp _)).trans hzero).trans
    (forEach_keepsAll (fun _ _ => conditionEnd_keeps_quiet) _)).trans formBothRed_keeps

/-- No battery is critical that is not seen to be. -/
theorem not_demands_critical (h : s.scan.batteryCritical = false) {x : Option Nat} : ¬ Demands s .batteryCritical x := by
  intro hd
  cases hd with
  | critical hc => exact Bool.false_ne_true (h.symm.trans hc)
  | barrier i h => cases h

theorem batteryOnClear_keeps : Keeps p o s (batteryOnClear s) := by
  have hclear : Keeps p o s { s with scan := { s.scan with batteryLow := false, batteryCritical := false } } :=
    withScan_keeps fun h => nomatch h
  refine (hclear.trans conditionEnd_keeps_quiet).trans (conditionEnd_keeps fun _ => not_demands_critical ?_)
  exact (conditionEnd_frame ..).batteryCritical (by decide)

theorem unseenHeads_keeps : Keeps p o s (unseenHeads s) := .quiet (Frame.refl [.heads] s).withHeads

theorem clearValid_keeps : Keeps p o s (clearValid s) := by
  unfold clearValid
  refine .ite (fun _ => ?_) fun _ => .refl s
  have hheads {t : State} : Keeps p o t (headsOnClear t) := unseenHeads_keeps.trans
    (forEach_keepsAll (fun _ _ => Keeps.trans conditionEnd_keeps_quiet conditionEnd_keeps_quiet) _)
  have hdue {t : State} : Keeps p o t { t with report := { t.report with statusDue := none, linkEnd := none } } :=
    .quiet (ps := [.status, .link]) (Frame.refl _ t).withReport
  have hreport {t : State} : Keeps p o t (reportOnClear t) := hdue.trans conditionEnd_keeps_quiet
  have hflag : Keeps p o s { s with tm := { s.tm with valid := false } } := withTm_keeps (fun _ => ⟨rfl, rfl⟩) id
  exact (((hflag.trans hheads).trans lampsOnClear_keeps).trans batteryOnClear_keeps).trans hreport

/-! ## The calibration (R110, R124 to R126) -/

/-- No barrier but this one is under calibration. -/
def CalibratesOnly (s : State) (i : Fin 4) : Prop := ∀ j, underCalibration s j = true → j = i

theorem calibratesOnly_of_current {c : CalBarrier} (h : s.cal.current = some c) : CalibratesOnly s c.barrier := by
  intro j hj
  simp only [underCalibration, h, beq_iff_eq] at hj
  exact hj.symm

theorem calibratesOnly_of_none (h : s.cal.current = none) (i : Fin 4) : CalibratesOnly s i := by
  intro j hj
  simp [underCalibration, h] at hj

theorem CalibratesOnly.of_frame {ps : List Part} {s t : State} {i : Fin 4} (h : CalibratesOnly s i)
    (hf : Frame ps s t) (m : Part.cal ∉ ps := by decide) : CalibratesOnly t i := by
  intro j hj
  rw [hf.underCalibration m] at hj
  exact h j hj

/-- The barrier in progress moves on, by what is kept of it. -/
theorem setCurrent_keeps {c : CalBarrier} (h : CalibratesOnly s c.barrier) :
    Keeps p o s (s.setCal { s.cal with current := some c }) := by
  refine setCal_keeps fun _ i hi hc => ?_
  simp [underCalibration, h i hi] at hc

theorem driveCalibration_keeps {i : Fin 4} {d : BarrierEnd} (hi : underCalibration s i = true) :
    Keeps p o s (driveCalibration i d s) := by
  refine setBarrier_ends (fun _ _ => underGate_of_on ?_ rfl rfl rfl fun _ _ hc => ?_) fun c h => ?_
  · rintro ⟨hc, -⟩
    cases hi.symm.trans hc
  · cases hi.symm.trans hc
  · cases h with
    | stall h => cases h
    | timeout _ hc => cases hi.symm.trans hc
    | disagree hd he => exact ⟨by decide, .disagree hd he⟩

section
variable {c : CalBarrier} (h : CalibratesOnly s c.barrier)
include h

theorem beginMovement_keeps {stage : CalStage} {d : BarrierEnd} : Keeps p o s (beginMovement c stage d s) := by
  refine Keeps.trans (setCurrent_keeps (by exact h)) (driveCalibration_keeps ?_)
  simp [underCalibration]

theorem beginReading_keeps {stage : CalStage} : Keeps p o s (beginReading c stage s) :=
  Keeps.trans (setCurrent_keeps (by exact h)) stopBarrier_keeps

end

theorem beginBarrier_keeps {i : Fin 4} (h : s.cal.current = none) : Keeps p o s (beginBarrier i s) := by
  have hset : Keeps p o s (s.setBarrier i { s.barriers[i] with
      disagreeEnd := none, disagreeing := s.barriers[i].disagreeing && s.barriers[i].disagreeEnd.isNone }) := by
    refine setBarrier_keeps (fun _ h => h.congr rfl rfl rfl) fun c h => ?_
    cases h with
    | stall hp => exact .stall hp
    | timeout hp hf ht => exact .timeout hp hf ht
    | disagree hd _ =>
      obtain ⟨hd, he⟩ := (Bool.and_eq_true ..).mp hd
      exact .disagree hd (by simpa using he)
  exact hset.trans (.ite (fun _ => beginReading_keeps (by exact calibratesOnly_of_none h i)) fun _ =>
    beginMovement_keeps (by exact calibratesOnly_of_none h i))

/-- The next barrier is taken, the last one being left at rest. -/
theorem nextBarrier_keeps (h : p → ∀ i, underCalibration s i = true → s.barriers[i].AtRest) :
    Keeps p o s (nextBarrier s) := by
  unfold nextBarrier
  split
  · exact Keeps.trans (setCal_keeps fun hp i hi _ => h hp i hi) (beginBarrier_keeps rfl)
  · exact setCal_keeps fun hp i hi _ => h hp i hi

theorem stopBarrier_atRest (i : Fin 4) (s : State) : (stopBarrier i s).barriers[i].AtRest := by
  rw [stopBarrier, State.setBarrier_self]
  exact s.barriers[i].stopped_atRest

section
variable {c : CalBarrier} (h : CalibratesOnly s c.barrier)
include h

theorem failBarrier_keeps {reason : CalReason} : Keeps p o s (failBarrier c reason s) := by
  unfold failBarrier
  have hstopped : Keeps p o s
      (eventEntered .calibrationFailed (some c.barrier.val) (some reason) (stopBarrier c.barrier s)) :=
    stopBarrier_keeps.trans eventEntered_keeps
  have hf : Frame [.barriers, .faults, .newFault] s
      (eventEntered .calibrationFailed (some c.barrier.val) (some reason) (stopBarrier c.barrier s)) :=
    ((stopBarrier_frame ..).mono (by decide)).step (eventEntered_frame ..)
  have hrest : (eventEntered .calibrationFailed (some c.barrier.val) (some reason)
      (stopBarrier c.barrier s)).barriers[c.barrier].AtRest := by
    rw [(eventEntered_frame ..).barrier (by decide)]
    exact stopBarrier_atRest c.barrier s
  refine (hstopped.trans (setCal_keeps fun _ i hi _ => ?_)).trans (nextBarrier_keeps fun _ i hi => ?_)
  · rw [h.of_frame hf (by decide) i hi]
    exact hrest
  · simp [underCalibration] at hi

theorem judgeCalibration_keeps {travelUp : Nat} : Keeps p o s (judgeCalibration c travelUp s) := by
  unfold judgeCalibration
  refine .ite (fun _ => failBarrier_keeps h) fun _ => .ite (fun _ => failBarrier_keeps h) fun _ => ?_
  have hwritten : Keeps p o s { s with tm := { s.tm with tables := { s.tm.tables with
      barrier := s.tm.tables.barrier.set c.barrier ((s.barrierEntry c.barrier).calibrated c travelUp) } } } := by
    refine withTm_keeps (fun i => ?_) id
    by_cases hi : i = c.barrier
    · subst hi
      simp [State.barrierEntry, BarrierEntry.calibrated]
    · have hne : (s.tm.tables.barrier.set c.barrier ((s.barrierEntry c.barrier).calibrated c travelUp))[i] =
          s.tm.tables.barrier[i] := Vector.getElem_set_ne _ _ fun hj => hi (Fin.ext hj.symm)
      rw [hne]
      exact ⟨rfl, rfl⟩
  refine ((hwritten.trans clearValid_keeps).trans stopBarrier_keeps).trans (nextBarrier_keeps fun _ i hi => ?_)
  have honly : CalibratesOnly (stopBarrier c.barrier (clearValid { s with tm := { s.tm with tables := { s.tm.tables with
      barrier := s.tm.tables.barrier.set c.barrier ((s.barrierEntry c.barrier).calibrated c travelUp) } } })) c.barrier :=
    CalibratesOnly.of_frame (CalibratesOnly.of_frame (by exact h) (clearValid_frame _)) (stopBarrier_frame _ _)
  rw [honly i hi]
  exact stopBarrier_atRest ..

theorem afterReading_keeps {stage : CalStage} {d : BarrierEnd} : Keeps p o s (afterReading c stage d s) :=
  .ite (fun _ => failBarrier_keeps h) fun _ => beginMovement_keeps h

end

theorem calibrationContact_keeps {i : Fin 4} {d : BarrierEnd} : Keeps p o s (calibrationContact i d s) := by
  unfold calibrationContact
  split
  next => exact .refl s
  next c hc =>
    have honly := calibratesOnly_of_current hc
    refine .ite (fun _ => .refl s) fun _ => ?_
    dsimp only
    split
    · exact beginReading_keeps honly
    · exact beginReading_keeps (by exact honly)
    · exact stopBarrier_keeps.trans (judgeCalibration_keeps (honly.of_frame (stopBarrier_frame i s)))
    all_goals exact .refl s

theorem calibrationAngle_keeps {i : Fin 4} {res : ScanResult} : Keeps p o s (calibrationAngle i res s) := by
  unfold calibrationAngle
  split
  next => exact .refl s
  next c hc =>
    have honly := calibratesOnly_of_current hc
    have hafter {c' : CalBarrier} {stage : CalStage} {d : BarrierEnd} (hb : c'.barrier = c.barrier) :
        Keeps p o s (afterReading c' stage d s) := afterReading_keeps (by rwa [hb])
    have hreading : Keeps p o s (
        if res.overrange then failBarrier c .span s
        else
          let codes := c.codes ++ [res.code]
          if codes.length < Config.calibrationReads then
            s.setCal { s.cal with current := some { c with codes := codes } }
          else
            let mean := codes.sum / Config.calibrationReads
            if c.stage = .readUp then afterReading { c with upCode := mean } .lower .down s
            else afterReading { c with downCode := mean } .raise .up s) :=
      .ite (fun _ => failBarrier_keeps honly) fun _ => .ite (fun _ => setCurrent_keeps (by exact honly)) fun _ =>
        .ite (fun _ => hafter rfl) fun _ => hafter rfl
    refine .ite (fun _ => .refl s) fun _ => ?_
    split
    case h_4 | h_5 => exact hreading
    all_goals exact .refl s

theorem calibrationCurrent_keeps {i : Fin 4} {res : ScanResult} : Keeps p o s (calibrationCurrent i res s) := by
  unfold calibrationCurrent
  split
  next => exact .refl s
  next c hc =>
    have honly := calibratesOnly_of_current hc
    refine .ite (fun _ => .refl s) fun _ => .ite (fun _ => ?_) fun _ => .ite (fun _ => setCurrent_keeps (by exact honly))
      fun _ => .refl s
    exact (stopBarrier_keeps.trans eventEntered_keeps).trans (failBarrier_keeps
      ((honly.of_frame (stopBarrier_frame i s)).of_frame (eventEntered_frame ..)))

theorem calibrationLimitEnds_keeps : Keeps p o s (calibrationLimitEnds s) := by
  unfold calibrationLimitEnds
  split
  next => exact .refl s
  next c hc => exact .ite (fun _ => failBarrier_keeps (calibratesOnly_of_current hc)) fun _ => .refl s

end

end Sys2Proof.Machine
end

section
/-! SUPPORT. The operations of the Crossing Sequencer keep the bounds, the gate and the records of the ALARM conditions
(R61 to R85). -/

namespace Sys2Proof.Machine

set_option Elab.async false

section
variable {p : Prop} {o : FaultCode → Prop} {s : State}

/-! ## The programs (R63, R65) -/

theorem setCrossing_keeps_state {c : CrossingRecord} (h : c.state = s.crossing.state) : Keeps p o s (s.setCrossing c) :=
  setCrossing_keeps fun hc => h.symm.trans hc

theorem setCrossing_keeps_used {c : CrossingRecord} (h : c.state ≠ .outOfUse) : Keeps p o s (s.setCrossing c) :=
  setCrossing_keeps fun hc => absurd hc h

theorem stepEffect_keeps {k : ProgramStep} (hu : p → Used s) : Keeps p o s (stepEffect k s).1 := by
  unfold stepEffect
  cases k.kind with
  | finish | waitDown | waitUp => exact .refl s
  | amber | red | dark | soundOn | soundOff | wait => exact setCrossing_keeps_state rfl
  | lowerEntry | lowerExit | raiseEntry | raiseExit =>
    dsimp only
    exact orderRole_keeps hu

theorem runSteps_keeps (steps : List ProgramStep) :
    ∀ (n : Nat) {s : State}, (p → Used s) → Keeps p o s (runSteps n steps s).1 := by
  induction steps with
  | nil => exact fun n s _ => .refl s
  | cons k rest ih =>
    intro n s hu
    unfold runSteps
    split
    · exact .refl s
    · have hentered : Keeps p o s (s.setCrossing { s.crossing with step := some n, stepWait := .none, waitEnd := none }) :=
        setCrossing_keeps_state rfl
      have hu' : p → Used (s.setCrossing { s.crossing with step := some n, stepWait := .none, waitEnd := none }) := hu
      dsimp only
      generalize s.setCrossing { s.crossing with step := some n, stepWait := .none, waitEnd := none } = t at hentered hu'
      have heffect : Keeps p o s (stepEffect k t).1 := hentered.trans (stepEffect_keeps hu')
      have hused : p → Used (stepEffect k t).1 := fun hp => used_of_state (stepEffect_state k t) (hu' hp)
      split
      next u heq =>
        rw [heq] at heffect hused
        exact heffect.trans (ih _ hused)
      next u w heq =>
        rw [heq] at heffect
        exact heffect.trans (setCrossing_keeps_state rfl)

theorem runOpening_keeps {n : Nat} (hu : p → Used s) : Keeps p o s (runOpening n s) := by
  have hrun : Keeps p o s (runSteps n ((programTable s .opening).drop (n - 1)) s).1 := runSteps_keeps _ n hu
  unfold runOpening
  split
  next t heq =>
    rw [heq] at hrun
    exact hrun.trans (setCrossing_keeps_used (nomatch ·))
  next t heq =>
    rw [heq] at hrun
    exact hrun

theorem enterOpening_keeps : Keeps p o s (enterOpening s) := by
  have hentered : Keeps p o s (s.setCrossing { s.crossing with
      state := .opening, program := .opening, step := none, stepWait := .none, waitEnd := none,
      openDelayEnd := none, permitLapse := none, closedSince := none, longReported := false }) :=
    setCrossing_keeps_used (nomatch ·)
  refine (hentered.trans conditionEnd_keeps_quiet).trans (runOpening_keeps fun _ => ?_)
  exact used_of_state (x := .opening) (congrArg CrossingRecord.state (conditionEnd_crossing ..))

theorem judgePermit_keeps : Keeps p o s (judgePermit s) := by
  unfold judgePermit
  refine .ite (fun _ => .refl s) fun _ => .ite (fun _ => setCrossing_keeps_state rfl) fun _ => ?_
  dsimp only
  split
  · exact setCrossing_keeps_state rfl
  · exact .ite (fun _ => enterOpening_keeps) fun _ => setCrossing_keeps_state rfl

theorem runClosing_keeps {n : Nat} (hu : p → Used s) : Keeps p o s (runClosing n s) := by
  have hrun : Keeps p o s (runSteps n ((programTable s .closing).drop (n - 1)) s).1 := runSteps_keeps _ n hu
  unfold runClosing
  split
  next t heq =>
    rw [heq] at hrun
    unfold enterClosed
    exact (hrun.trans (setCrossing_keeps_used fun h => by cases h)).trans judgePermit_keeps
  next t heq =>
    rw [heq] at hrun
    exact hrun

theorem enterClosing_keeps : Keeps p o s (enterClosing s) := by
  have hclosing : Keeps p o s (s.setCrossing (s.crossing.toClosing s.now)) := setCrossing_keeps_used fun h => by cases h
  exact hclosing.trans (runClosing_keeps fun _ => used_of_state (x := .closing) rfl)

theorem reenterClosing_keeps : Keeps p o s (reenterClosing s) := by
  unfold reenterClosing
  dsimp only
  refine Keeps.trans (setCrossing_keeps_used fun h => ?_) (runClosing_keeps fun _ => used_of_state (x := .closing) rfl)
  cases h

theorem moveOn_keeps (hu : p → Used s) : Keeps p o s (moveOn s) := by
  unfold moveOn
  split
  · exact .refl s
  · have hleft : Keeps p o s (s.setCrossing { s.crossing with stepWait := .none, waitEnd := none }) :=
      setCrossing_keeps_state rfl
    dsimp only
    split
    · exact hleft.trans (runClosing_keeps hu)
    · exact hleft.trans (runOpening_keeps hu)
    · exact hleft

/-! ## Failure (R76, R77) -/

theorem orderExits_keeps (hu : p → Used s) : Keeps p o s (orderExits s) := by
  have hset : Keeps p o s (s.setCrossing { s.crossing with exitDelayEnd := none }) := setCrossing_keeps_state rfl
  unfold orderExits
  exact hset.trans (orderRole_keeps hu)

theorem enterFailed_keeps : Keeps p o s (enterFailed s) := by
  have hordered (e : Option Time) : Keeps p o s (orderRole .entry .down (s.setCrossing (s.crossing.toFailed e))) :=
    (setCrossing_keeps_used fun h => by cases h).trans (orderRole_keeps fun _ => used_of_state (x := .failed) rfl)
  obtain h | h := Nat.eq_zero_or_pos s.params.exitDelayFailed
  · rw [enterFailed_atOnce h]
    refine (hordered none).trans (orderRole_keeps fun _ => used_of_state (x := .failed) ?_)
    exact congrArg CrossingRecord.state (orderRole_crossing ..)
  · rw [enterFailed_delays h]
    exact hordered _

theorem takeAlarm_keeps : Keeps p o s (takeAlarm s) := by
  have hnotice : Keeps p o s { s with handed := { s.handed with alarm := false } } :=
    .quiet (Frame.refl [.handed] s).withHanded
  unfold takeAlarm
  refine .ite (fun _ => ?_) fun _ => hnotice
  split
  · exact hnotice.trans enterFailed_keeps
  · exact hnotice.trans enterFailed_keeps
  · exact hnotice.trans enterFailed_keeps
  · exact hnotice.trans enterFailed_keeps
  · exact hnotice
  · exact hnotice

/-! ## The turn, and the end of an event (R57, R61, R66, R73, R78) -/

theorem sequencerTurn_keeps {before : State} : Keeps p o s (sequencerTurn before s) := by
  unfold sequencerTurn
  refine takeAlarm_keeps.trans ?_
  dsimp only
  generalize takeAlarm s = t
  split
  next => exact .ite (fun _ => enterClosing_keeps) fun _ => .refl t
  next h =>
    exact .ite (fun _ => reenterClosing_keeps) fun _ => .ite (fun _ => moveOn_keeps fun _ => used_of_state h) fun _ => .refl t
  next h => exact .ite (fun _ => moveOn_keeps fun _ => used_of_state h) fun _ => .refl t
  next => exact .ite (fun _ => judgePermit_keeps) fun _ => .refl t
  next => exact .refl t
  next => exact .refl t

theorem crossingTurn_keeps {before : State} : Keeps p o s (crossingTurn before s) :=
  (sequencerTurn_keeps.trans takeAspect_keeps).trans (setCrossing_keeps_state rfl)

theorem scannerTurn_keeps {before : State} : Keeps p o s (scannerTurn before s) :=
  .quiet (scannerTurn_frame before s)

theorem produceStatus_keeps : Keeps p o s (produceStatus s) :=
  .of_bounded (produceStatus_frame s) fun h => h.produceStatus

theorem reportTurn_keeps : Keeps p o s (reportTurn s) := .of_bounded (reportTurn_frame s) fun h => h.reportTurn

theorem finish_keeps {before : State} : Keeps p o s (finish before s) :=
  ((crossingTurn_keeps.trans scannerTurn_keeps).trans reportTurn_keeps).trans reportTurn_keeps

/-! ## The timers of the crossing (R65, R73, R74, R77, R79) -/

theorem permitLapses_keeps : Keeps p o s (permitLapses s) :=
  .ite (fun _ => setCrossing_keeps_state rfl) fun _ => .refl s

theorem openDelayEnds_keeps : Keeps p o s (openDelayEnds s) := .ite (fun _ => enterOpening_keeps) fun _ => .refl s

theorem exitDelayEnds_keeps : Keeps p o s (exitDelayEnds s) := by
  refine .ite (fun h => orderExits_keeps fun _ => ?_) fun _ => .refl s
  simp only [Bool.and_eq_true, decide_eq_true_eq] at h
  exact used_of_state h.1

theorem longClosureEnds_keeps : Keeps p o s (longClosureEnds s) := by
  unfold longClosureEnds
  split
  · refine .ite (fun _ => ?_) fun _ => .refl s
    have hset : Keeps p o s (s.setCrossing { s.crossing with longReported := true }) := setCrossing_keeps_state rfl
    exact hset.trans conditionPresent_keeps_quiet
  · exact .refl s

/-- A WAIT step ends in a program that is run, so with the crossing in use. -/
theorem waitEnds_keeps (h : p → ProgramFits s) : Keeps p o s (waitEnds s) := by
  refine .ite (fun _ => ?_) fun _ => .refl s
  by_cases hs : s.crossing.state = .outOfUse
  · by_cases hp : p
    · have hprogram : s.crossing.program = .none := by
        have hfits : s.crossing.program = programOf s.crossing.state := h hp
        rw [hfits, hs]
        rfl
      unfold moveOn
      split
      · exact .refl s
      · dsimp only
        simp only [State.setCrossing_crossing, hprogram]
        exact setCrossing_keeps_state rfl
    · exact moveOn_keeps fun h => absurd h hp
  · exact moveOn_keeps fun _ => hs

end

end Sys2Proof.Machine
end

section
/-! SUPPORT. The Approach Timer, the Section Counter and the Head Monitor keep the bounds, the gate and the records of the
ALARM conditions (R1 to R56). -/

namespace Sys2Proof.Machine

set_option Elab.async false

section
variable {p : Prop} {o : FaultCode → Prop} {s : State}

/-! ## The approaches (R37 to R56) -/

theorem setApproach_keeps {i : Fin 4} {r : ApproachRecord} : Keeps p o s (s.setApproach i r) :=
  .quiet (Frame.refl [.approaches] s).setApproach

theorem strike_keeps {i : Fin 4} {cause : StrikeCause} : Keeps p o s (strike i cause s) := by
  unfold strike
  exact .ite (fun _ => .refl s) fun _ => setApproach_keeps.trans (.ite (fun _ => eventEntered_keeps) fun _ => .refl _)

theorem applyOutcome_keeps {i : Fin 4} {position : Nat} {w : WheelOutcome} : Keeps p o s (applyOutcome i position w s) := by
  unfold applyOutcome
  cases w with
  | nothing => exact .refl s
  | strike cause => exact strike_keeps
  | discard st => exact .ite (fun _ => setApproach_keeps) fun _ => .refl s
  | deadline d => exact .ite (fun _ => setApproach_keeps.trans (.ite (fun _ => strike_keeps) fun _ => .refl _)) fun _ => .refl s

theorem timingWheel_keepsAll {i : Fin 4} {position : Nat} {w : WheelEvent} : Keeps p o s (timingWheel i position w s) := by
  unfold timingWheel
  refine .ite (fun _ => setApproach_keeps) fun _ => ?_
  have hentered {t : State} {c : Prop} [Decidable c] :
      Keeps p o t (if c then eventEntered .overspeed (some i.val) none t else t) :=
    .ite (fun _ => eventEntered_keeps) fun _ => .refl t
  exact (setApproach_keeps.trans hentered).trans (.ite (fun _ => .refl _) fun _ => applyOutcome_keeps)

theorem approachWheel_keeps {w : WheelEvent} : Keeps p o s (approachWheel w s) := by
  refine forEach_keepsAll (fun i u => .ite (fun _ => ?_) fun _ => .refl u) s
  split
  · exact timingWheel_keepsAll
  · exact .refl u

theorem appendPassage_keeps {r : PassageRecord} : Keeps p o s (appendPassage r s) := by
  cases hone : s.report.fillingBank with
  | none =>
    simp only [appendPassage, hone]
    exact eventEntered_keeps
  | some one =>
    have hf : Frame [.banks] s (appendPassage r s) := by
      simp only [appendPassage, hone]
      split
      · exact (Frame.refl _ s).withReport
      · exact (Frame.refl _ s).withReport
    exact .of_bounded hf fun h => h.appendPassage r

theorem releaseEvents_keeps {i : Fin 4} {seen short : Bool} : Keeps p o s (releaseEvents i seen short s) := by
  have hshort {u : State} : Keeps p o u (if short then eventEntered .shortWarning (some i.val) none u else u) :=
    .ite (fun _ => eventEntered_keeps) fun _ => .refl u
  cases seen with
  | true => exact hshort
  | false => exact Keeps.trans eventEntered_keeps hshort

theorem release_keeps {i : Fin 4} : Keeps p o s (release i s) := by
  rw [release_unfold]
  exact (setApproach_keeps.trans appendPassage_keeps).trans releaseEvents_keeps

theorem islandTaken_keeps {i : Fin 4} {cause : ReportCause} : Keeps p o s (islandTaken i cause s) :=
  .ite (fun _ => .refl s) fun _ => setApproach_keeps

theorem approachReport_keeps {i : Fin 4} {rep : SectionReport} : Keeps p o s (approachReport i rep s) := by
  unfold approachReport
  extract_lets e ea ei was struck taken entered
  have hstruck : Keeps p o s struck := .ite (fun _ => strike_keeps) fun _ => .refl s
  have htaken : Keeps p o struck taken := .ite (fun _ => islandTaken_keeps) fun _ => .refl _
  have hentered : Keeps p o taken entered := .ite (fun _ => strike_keeps) fun _ => .refl _
  refine ((hstruck.trans htaken).trans hentered).trans ?_
  generalize entered = u
  split
  · exact .ite (fun _ => setApproach_keeps) fun _ => .refl u
  · exact .ite (fun _ => setApproach_keeps) fun _ => .refl u
  · exact .ite (fun _ => setApproach_keeps) fun _ => .refl u
  · exact .ite (fun _ => release_keeps) fun _ => .refl u
  · exact .refl u

theorem approachReports_keeps {rep : SectionReport} : Keeps p o s (approachReports rep s) :=
  forEach_keepsAll (fun _ u => .ite (fun _ => approachReport_keeps) fun _ => .refl u) s

theorem deadlineEnds_keeps {i : Fin 4} : Keeps p o s (deadlineEnds i s) := .ite (fun _ => strike_keeps) fun _ => .refl s

theorem strikeAllDisturbed_keeps : Keeps p o s (strikeAllDisturbed s) :=
  forEach_keepsAll (fun _ u => .ite (fun _ => strike_keeps) fun _ => .refl u) s

theorem setUpApproaches_keeps : Keeps p o s (setUpApproaches s) :=
  forEach_keepsAll (fun _ u => .ite (fun _ => .refl u) fun _ => .ite (fun _ => strike_keeps) fun _ =>
    .ite (fun _ => strike_keeps) fun _ => .refl u) s

theorem idleApproaches_keeps : Keeps p o s (idleApproaches s) := .quiet (idleApproaches_frame s)

/-! ## The sections (R20 to R28) -/

theorem changeSection_keeps {i : Fin 8} {r : SectionRecord} : Keeps p o s (changeSection i r s) := by
  have hset : Keeps p o s (s.setSection i r) := .quiet (Frame.refl [.sections] s).setSection
  exact hset.trans (.ite (fun _ => conditionPresent_keeps_quiet) fun _ => .refl _)

theorem handReport_keeps {cause : ReportCause} {before : State} : Keeps p o s (handReport cause before s) :=
  .ite (fun _ => .refl s) fun _ => approachReports_keeps.trans crossingTurn_keeps

theorem moveSections_keeps {next : Fin 8 → SectionRecord} : Keeps p o s (moveSections next s) :=
  forEach_keepsAll (fun _ _ => changeSection_keeps) s

theorem sectionWheel_keeps {w : WheelEvent} : Keeps p o s (sectionWheel w s) := by
  rw [sectionWheel_eq]
  exact moveSections_keeps.trans handReport_keeps

theorem disturbSections_keeps {head : Fin 16} : Keeps p o s (disturbSections head s) := by
  rw [disturbSections_eq]
  exact moveSections_keeps.trans handReport_keeps

theorem resetSectionRecord_keeps {i : Fin 8} : Keeps p o s (resetSectionRecord i s) := by
  have hset {r : SectionRecord} : Keeps p o s (s.setSection i r) := .quiet (Frame.refl [.sections] s).setSection
  have hended {u : State} : Keeps p o u (conditionEnd .sectionDisturbed (some i.val) u) := conditionEnd_keeps_quiet
  have hentered {u : State} : Keeps p o u (eventEntered .sectionReset (some i.val) none u) := eventEntered_keeps
  unfold resetSectionRecord
  exact ((hset.trans hended).trans hentered).trans handReport_keeps

theorem setUpSections_keeps : Keeps p o s (setUpSections s) := by
  have hblank {v : Vector SectionRecord 8} : Keeps p o s { s with sections := v } :=
    .quiet (Frame.refl [.sections] s).withSections
  have hmarked {u : State} : Keeps p o u (forEach 8 (fun i u =>
      if s.tm.tables.sectionTable[i].inService then conditionPresent .sectionDisturbed (some i.val) u
      else conditionEnd .sectionDisturbed (some i.val) u) u) :=
    forEach_keepsAll (fun _ _ => .ite (fun _ => conditionPresent_keeps_quiet) fun _ => conditionEnd_keeps_quiet) u
  rw [setUpSections_eq]
  exact (hblank.trans hmarked).trans handReport_keeps

/-! ## The heads (R1 to R13) -/

theorem setHead_keeps {i : Fin 16} {r : HeadRecord} : Keeps p o s (s.setHead i r) := .quiet (Frame.refl [.heads] s).setHead

theorem countSkip_keeps {i : Fin 16} : Keeps p o s (countSkip i s) := eventEntered_keeps

theorem endLost_keeps {i : Fin 16} : Keeps p o s (endLost i s) := conditionEnd_keeps_quiet

theorem wheelToApproach_keeps {w : WheelEvent} : Keeps p o s (wheelToApproach w s) := by
  have htold {x : Handed} : Keeps p o s { s with handed := x } := .quiet (Frame.refl [.handed] s).withHanded
  exact (htold.trans approachWheel_keeps).trans crossingTurn_keeps

theorem ordinaryWheel_keeps {w : WheelEvent} : Keeps p o s (ordinaryWheel w s) :=
  wheelToApproach_keeps.trans sectionWheel_keeps

theorem wheelTelegramFor_keeps {i : Fin 16} {t : Observed} : Keeps p o s (wheelTelegramFor i t s) := by
  unfold wheelTelegramFor
  dsimp only
  split
  next => exact setHead_keeps
  next =>
    refine .ite (fun _ => setHead_keeps.trans endLost_keeps) fun _ => ?_
    split
    · exact (setHead_keeps.trans endLost_keeps).trans wheelToApproach_keeps
    · exact ((setHead_keeps.trans endLost_keeps).trans disturbSections_keeps).trans countSkip_keeps
  next => exact (setHead_keeps.trans disturbSections_keeps).trans countSkip_keeps
  next => exact (setHead_keeps.trans disturbSections_keeps).trans countSkip_keeps
  next => exact setHead_keeps.trans ordinaryWheel_keeps
  next =>
    split
    · exact .ite (fun _ => setHead_keeps.trans ordinaryWheel_keeps) fun _ => .ite (fun _ => .refl s) fun _ =>
        ((setHead_keeps.trans disturbSections_keeps).trans countSkip_keeps).trans wheelToApproach_keeps
    · exact setHead_keeps.trans ordinaryWheel_keeps

theorem applyCondition_keeps {i : Fin 16} {c : HealthCondition} {skip : Bool} : Keeps p o s (applyCondition i c skip s) := by
  unfold applyCondition
  extract_lets skipped disturbed
  have hskipped : Keeps p o s skipped := .ite (fun _ => countSkip_keeps) fun _ => .refl s
  have hdisturbed : Keeps p o skipped disturbed := .ite (fun _ => disturbSections_keeps) fun _ => .refl skipped
  refine (hskipped.trans hdisturbed).trans ?_
  cases c with
  | normal | sensorDisturbed => exact .refl _
  | sensorFault => exact setHead_keeps.trans conditionPresent_keeps_quiet

theorem healthTelegramFor_keeps {i : Fin 16} {t : Observed} : Keeps p o s (healthTelegramFor i t s) := by
  unfold healthTelegramFor
  dsimp only
  split
  · exact setHead_keeps.trans applyCondition_keeps
  · exact setHead_keeps.trans applyCondition_keeps
  · exact .ite (fun _ => setHead_keeps.trans conditionEnd_keeps_quiet) fun _ => setHead_keeps
  · exact .ite (fun _ => .ite (fun _ => (setHead_keeps.trans endLost_keeps).trans conditionEnd_keeps_quiet) fun _ =>
      setHead_keeps.trans endLost_keeps) fun _ => (setHead_keeps.trans endLost_keeps).trans applyCondition_keeps

theorem headSilent_keeps {i : Fin 16} : Keeps p o s (headSilent i s) := by
  unfold headSilent
  exact .ite (fun _ => (setHead_keeps.trans disturbSections_keeps).trans conditionPresent_keeps_quiet) fun _ => .refl s

/-! ## A validation takes effect (R163, R178, R182) -/

theorem beginSupervision_keeps : Keeps p o s (beginSupervision s) := by
  refine Keeps.trans (withLamp_keeps_quiet (x := { s.lamp with duty := some s.params.lampBaseDuty })) ?_
  exact .quiet (Frame.refl [.link] _).withReport

theorem setUpOnValid_keeps : Keeps p o s (setUpOnValid s) := by
  unfold setUpOnValid
  exact ((produceStatus_keeps.trans unseenHeads_keeps).trans setUpSections_keeps).trans beginSupervision_keeps

theorem not_demands_invalid {d : Derived} (h : s.tm.derived = some d) {x : Option Nat} : ¬ Demands s .tableInvalid x := by
  generalize hc : FaultCode.tableInvalid = c
  intro hd
  cases hd with
  | invalid _ hn => rw [h] at hn; cases hn
  | critical | dark => cases hc
  | barrier i h => cases h <;> cases hc

/-- The figures adopted, nothing is owed of TABLE_INVALID. -/
theorem validationPassed_settles {t : State} {d : Derived} (h : Keeps p (fun c => c = .tableInvalid ∨ o c) s t) :
    Keeps p o s (validationPassed d t) := by
  have hadopted : Keeps p (fun c => c = .tableInvalid ∨ o c) s (adoptFigures d t) :=
    h.trans (withTm_keeps (fun _ => ⟨rfl, rfl⟩) fun hn => by cases hn)
  have hsettled : Keeps p o s (adoptFigures d t) := hadopted.settles fun _ => not_demands_invalid (d := d) rfl
  have hended := hsettled.trans (conditionEnd_keeps (c := .tableInvalid) (x := none) fun _ => not_demands_invalid (d := d) rfl)
  exact .ite (fun _ => hended) fun _ => hended.trans setUpOnValid_keeps

theorem validationPassed_keeps {d : Derived} : Keeps p o s (validationPassed d s) := validationPassed_settles (.refl s)

end

end Sys2Proof.Machine
end

section
/-! SUPPORT. The Proving Scanner, the loop and the command processor keep the bounds, the gate and the records of the ALARM
conditions (R130 to R137, R153 to R172). -/

namespace Sys2Proof.Machine

set_option Elab.async false

section
variable {p : Prop} {o : FaultCode → Prop} {s : State}

/-! ## The battery (R136, R137) -/

theorem judgeBatteryLow_keeps {v : Nat} : Keeps p o s (judgeBatteryLow v s) := by
  have hset (b : Bool) : Keeps p o s { s with scan := { s.scan with batteryLow := b } } := withScan_keeps id
  unfold judgeBatteryLow
  exact .ite (fun _ => .ite (fun _ => .refl s) fun _ => (hset true).trans conditionPresent_keeps_quiet) fun _ =>
    .ite (fun _ => (hset false).trans conditionEnd_keeps_quiet) fun _ => .refl s

/-- The battery found critical: nothing else becomes present. -/
theorem Demands.of_critical {b : Bool} {c : FaultCode} {x : Option Nat}
    (h : Demands { s with scan := { s.scan with batteryCritical := b } } c x) :
    (c = .batteryCritical ∧ x = none) ∨ Demands s c x := by
  cases h with
  | critical _ => exact .inl ⟨rfl, rfl⟩
  | barrier i h => exact .inr (.barrier i h)
  | dark side ha hr hd => exact .inr (.dark side ha hr hd)
  | invalid hl hd => exact .inr (.invalid hl hd)

theorem judgeBatteryCritical_keeps {v : Nat} : Keeps p o s (judgeBatteryCritical v s) := by
  have hset (b : Bool) : Keeps p (fun _ => True) s { s with scan := { s.scan with batteryCritical := b } } :=
    ⟨fun hb => ⟨hb.portA, hb.portB, hb.queue, hb.faults, hb.bank0, hb.bank1, hb.filling⟩,
      fun _ hg i => (gatedBarrier_iff _ i).2 ((gatedBarrier_iff s i).1 (hg i)), fun _ _ _ _ _ h => absurd trivial h⟩
  have hcleared : Keeps p o s { s with scan := { s.scan with batteryCritical := false } } :=
    withScan_keeps fun h => by cases h
  unfold judgeBatteryCritical
  refine .ite (fun _ => .ite (fun _ => .refl s) fun _ => ?_) fun _ => .ite (fun _ => ?_) fun _ => .refl s
  · exact .presents rfl rfl (hset true) rfl fun _ _ h => h.of_critical
  · exact hcleared.trans (conditionEnd_keeps fun _ => not_demands_critical rfl)

theorem setDuty_keeps {v : Nat} : Keeps p o s (setDuty v s) := by
  unfold setDuty
  exact .ite (fun _ => .refl s) fun _ => withLamp_keeps_quiet

theorem batteryResult_keeps {res : ScanResult} : Keeps p o s (batteryResult res s) := by
  have hmeasured (v : Nat) : Keeps p o s { s with scan := { s.scan with vBat := some v } } := withScan_keeps id
  unfold batteryResult
  exact .ite (fun _ => (((hmeasured _).trans judgeBatteryLow_keeps).trans judgeBatteryCritical_keeps).trans setDuty_keeps)
    fun _ => .refl s

/-! ## The strobe and the contacts (R117, R124, R130, R132) -/

theorem takeAngle_keeps {i : Fin 4} {res : ScanResult} : Keeps p o s (takeAngle i res s) :=
  angleResult_keeps.trans calibrationAngle_keeps

theorem takeCurrent_keeps {i : Fin 4} {res : ScanResult} : Keeps p o s (takeCurrent i res s) := by
  unfold takeCurrent
  split
  · exact calibrationCurrent_keeps
  · exact currentResult_keeps

theorem handResult_keeps {n : Fin 24} {res : ScanResult} : Keeps p o s (handResult n res s) := by
  unfold handResult
  extract_lets lit first second angles currents
  have hlit : Keeps p o s lit :=
    forEach_keepsAll (fun i u => .ite (fun _ => lampResult_keeps) fun _ => .refl u) s
  have hfirst : Keeps p o lit first := .ite (fun _ => audibleResult_keeps) fun _ => .refl lit
  have hsecond : Keeps p o first second := .ite (fun _ => audibleResult_keeps) fun _ => .refl first
  have hangles : Keeps p o second angles :=
    forEach_keepsAll (fun i u => .ite (fun _ => takeAngle_keeps) fun _ => .refl u) second
  have hcurrents : Keeps p o angles currents :=
    forEach_keepsAll (fun i u => .ite (fun _ => takeCurrent_keeps) fun _ => .refl u) angles
  exact ((((hlit.trans hfirst).trans hsecond).trans hangles).trans hcurrents).trans
    (.ite (fun _ => batteryResult_keeps) fun _ => .refl currents)

theorem startBlock_keeps : Keeps p o s (startBlock s) := .quiet (startBlock_frame s)

theorem completeBlock_keeps {inputs : List AnalogueLevels} : Keeps p o s (completeBlock inputs s) := by
  have hstored (n : Fin 24) (res : ScanResult) : Keeps p o s { s with scan := { s.scan with
      results := s.scan.results.set n (some res), blockStart := none } } :=
    .quiet (ps := [.block, .results]) (Frame.refl _ s).withScan
  unfold completeBlock
  split
  next n start _ _ => exact (hstored n (blockResult (s.scanEntry n) inputs start s.now)).trans handResult_keeps
  next => exact .refl s

theorem strobeTaken_keeps {inputs : List AnalogueLevels} : Keeps p o s (strobeTaken inputs s) :=
  .ite (fun _ => completeBlock_keeps.trans startBlock_keeps) fun _ => .refl s

theorem contactChanged_keeps {i : Fin 4} {d : BarrierEnd} {closed : Bool} : Keeps p o s (contactChanged i d closed s) := by
  have hset : Keeps p o s (setContact i d closed s) := .quiet (setContact_frame i d closed s)
  have hjudged {u : State} : Keeps p o u (judgeBarrier i (contactMotion i d closed u)) :=
    contactMotion_keeps.trans judgeBarrier_keeps
  unfold contactChanged
  refine .ite (fun _ => .refl s) fun _ => hset.trans (.ite (fun _ => .refl _) fun _ => hjudged.trans ?_)
  exact .ite (fun _ => calibrationContact_keeps) fun _ => .refl _

/-! ## The report's timers (R153, R155) -/

theorem quietEnds_keeps : Keeps p o s (quietEnds s) := .quiet (quietEnds_frame s)

theorem statusDueEnds_keeps : Keeps p o s (statusDueEnds s) := .quiet (statusDueEnds_frame s)

theorem linkEnds_keeps : Keeps p o s (linkEnds s) := by
  have hset : Keeps p o s { s with report := { s.report with linkEnd := none } } := .quiet (Frame.refl [.link] s).withReport
  exact .ite (fun _ => hset.trans conditionPresent_keeps_quiet) fun _ => .refl s

theorem linkRefresh_keeps {source : Nat} : Keeps p o s (linkRefresh source s) := by
  have hset {u : State} {t : Option Time} : Keeps p o u { u with report := { u.report with linkEnd := t } } :=
    .quiet (Frame.refl [.link] u).withReport
  unfold linkRefresh
  exact .ite (fun _ => Keeps.trans conditionEnd_keeps_quiet hset) fun _ => .refl s

/-! ## The loop (R162 to R171) -/

theorem joinQueue_keeps {c : QueuedCommand} : Keeps p o s (joinQueue c s) :=
  .of_bounded (joinQueue_frame c s) fun h => h.joinQueue c

theorem forwardTo_keeps {port : Port} {frame : List Byte} : Keeps p o s (forwardTo port frame s) :=
  .of_bounded (forwardTo_frame port frame s) fun h => h.forwardTo port frame

theorem placeReply_keeps {port : Port} {t : Inserted} (ht : t.isStatus = false) : Keeps p o s (placeReply port t s) :=
  .of_bounded (placeReply_frame port t s) fun h => h.placeReply port ht

theorem freeProcessor_keeps (hr : s.lnu.restarting = false) : Keeps p o s (freeProcessor s) :=
  .of_bounded (freeProcessor_frame s) fun h => h.freeProcessor hr

theorem consume_keeps {port : Port} {t : Telegram} : Keeps p o s (consume port t s) := by
  unfold consume
  exact linkRefresh_keeps.trans (.ite (fun _ => joinQueue_keeps) fun _ => .refl _)

theorem observe_keeps {t : Telegram} : Keeps p o s (observe t s) := .quiet (observe_frame t s)

theorem receive_keeps {port : Port} {frame : List Byte} : Keeps p o s (receive port frame s) := by
  unfold receive
  split
  next t _ =>
    unfold dispose
    split
    · exact .refl s
    · exact consume_keeps
    · exact observe_keeps.trans forwardTo_keeps
    · exact forwardTo_keeps
  next => exact .refl s

theorem takePassed_keeps {kind : ObservedKind} {act : Fin 16 → Observed → State → State}
    (hact : ∀ i t u, Keeps p o u (act i t u)) : Keeps p o s (takePassed kind act s) := by
  have htaken (rest : List Observed) : Keeps p o s { s with lnu := { s.lnu with passed := rest } } :=
    .quiet (ps := [.passed]) ((Frame.refl _ s).withLnu (hd := .inl (by decide)))
  unfold takePassed
  split
  · refine .ite (fun _ => ?_) fun _ => .refl s
    dsimp only
    split
    · exact (htaken _).trans (hact _ _ _)
    · exact htaken _
  · exact .refl s

/-- A part at the beginning of a cold start meets the bounds, the gate and the records of the ALARM conditions. -/
theorem coldStart_keeps {written : Nat} {t : State} : Keeps p (fun _ => False) s (coldStart written t) := by
  have hcold := coldStart_isCold written t
  exact ⟨fun _ => hcold.bounded, fun _ _ => hcold.gated, fun _ _ _ => (alarmsRecorded_iff _).1 hcold.alarmsRecorded⟩

theorem transmissionEnds_keeps {port : Port} {written : Nat} : Keeps p (fun _ => False) s (transmissionEnds port written s) := by
  by_cases hcold : ∃ frame, (s.lnu.port port).sending = some (.inserted (.reply frame true))
  · obtain ⟨frame, hcold⟩ := hcold
    unfold transmissionEnds
    rw [hcold]
    exact coldStart_keeps
  · refine .of_bounded (transmissionEnds_frame (not_exists.1 hcold) written) fun h => ?_
    unfold transmissionEnds
    split
    · exact h
    · exact absurd ⟨_, ‹_›⟩ hcold
    · have hp := (h.port port).fits
      exact h.startPort ⟨hp.forward, hp.replies, hp.statuses, hp.run⟩

/-! ## The command processor (R171, R186) -/

theorem completing_spec {q : QueuedCommand} (h : completing s = some q) : s.lnu.restarting = false := by
  unfold completing at h
  split at h
  · cases h
  · next hr => simpa using hr

theorem answered_keeps {q : QueuedCommand} {code : ReplyCode} {data : List Byte} (hr : s.lnu.restarting = false) :
    Keeps p o s (freeProcessor (placeAnswer q code data s)) := by
  refine Keeps.trans (placeReply_keeps rfl) (freeProcessor_keeps ?_)
  exact ((placeReply_frame ..).same .queue (by decide)).2.2.trans hr

theorem complete_keeps {ps : List Part} {c : Command} {own : QueuedCommand → State → Answered}
    (hframe : ∀ q, Frame ps s (own q s).state) (hown : ∀ q, Keeps p o s (own q s).state)
    (hps : Part.queue ∉ ps := by decide) : Keeps p o s (complete c own s) := by
  unfold complete
  split
  next q hq =>
    have hr := completing_spec hq
    refine .ite (fun _ => ?_) fun _ => .refl s
    split
    · exact answered_keeps hr
    · exact (hown q).trans (answered_keeps (((hframe q).same _ hps).2.2.trans hr))
  next => exact .refl s

theorem completeUnknown_keeps : Keeps p o s (completeUnknown s) := by
  unfold completeUnknown
  split
  next hq => exact .ite (fun _ => answered_keeps (completing_spec hq)) fun _ => .refl s
  next => exact .refl s

theorem completeUnanswerable_keeps : Keeps p o s (completeUnanswerable s) := by
  unfold completeUnanswerable
  split
  next hq => exact .ite (fun _ => .refl s) fun _ => freeProcessor_keeps (completing_spec hq)
  next => exact .refl s

end

end Sys2Proof.Machine
end

section
/-! SUPPORT. The commands keep the bounds, the gate and the records of the ALARM conditions (R80 to R84, R100, R123, R126,
R149, R157, R158, R176 to R184). -/

namespace Sys2Proof.Machine

set_option Elab.async false

section
variable {p : Prop} {o : FaultCode → Prop} {s t : State}

/-! ## A part with every barrier at rest (R111, R112) -/

/-- A crossing out of use that calibrates no barrier has every one of them at rest. -/
theorem Gated.atRest (hg : Gated s) (hs : s.crossing.state = .outOfUse) (hc : s.cal.current = none) (i : Fin 4) :
    s.barriers[i].AtRest :=
  (hg i).stopped hs (by rw [underCalibration, hc])

/-- With every barrier at rest the crossing may go out of use, and barriers out of service. -/
theorem Keeps.of_atRest {ps : List Part} (hf : Frame ps s t) (h : p → Gated s → ∀ i : Fin 4, t.barriers[i].AtRest)
    (hps : ps ⊆ [.crossing, .tables] ++ quietParts := by decide) : Keeps p o s t := by
  replace hf := hf.mono hps
  refine ⟨fun hb => hb.withFaults hf ?_ (by decide) (by decide) (by decide), fun hp hg i => ?_,
    fun _ _ ha c x hc hd => ?_⟩
  · rw [hf.faults (by decide)]
    exact hb.faults
  · exact (gatedBarrier_iff t i).2 (h hp hg i).underGate
  · rw [Recorded, hf.faults (by decide)]
    refine ha c x hc ?_
    have hlamp := hf.lamp (by decide)
    cases hd with
    | critical h => exact .critical (hf.batteryCritical (by decide) ▸ h)
    | barrier i h => exact .barrier i (by rwa [hf.barrier (by decide), hf.underCalibration (by decide)] at h)
    | dark side ha hr hd => exact .dark side (hlamp ▸ ha) (hlamp ▸ hr) (hlamp ▸ hd)
    | invalid hl hd => exact .invalid (hf.loading (by decide) ▸ hl) (hf.derived (by decide) ▸ hd)

theorem stopAll_atRest (s : State) (i : Fin 4) : (stopAll s).barriers[i].AtRest := by
  rw [stopAll_eq]
  simp [BarrierRecord.AtRest, BarrierRecord.stopped]

/-! ## The signaller's commands (R80 to R84, R149) -/

theorem ownFaultAccept_keeps {q : QueuedCommand} : Keeps p o s (ownFaultAccept q s).state :=
  .of_lists (ownFaultAccept_frame q s) (fun hb => hb.withFaults (ownFaultAccept_frame q s) hb.faults.accept)
    fun _ _ _ _ hr => FaultRecorder.Holds.accept hr

theorem ownCloseRequest_keeps {q : QueuedCommand} : Keeps p o s (ownCloseRequest q s).state := by
  unfold ownCloseRequest
  split
  · exact .refl s
  · split_ifs
    · exact .refl s
    · exact .refl s
    · exact setCrossing_keeps_state rfl

theorem restored_keeps : Keeps p o s (restored s) := by
  have hclosed : Keeps p o s (s.setCrossing { s.crossing.noProgram with
      state := .closed, aspect := .red, sound := false, closedSince := some s.now, longReported := false,
      openDelayEnd := none, permitLapse := none, exitDelayEnd := none }) := setCrossing_keeps_used fun h => by cases h
  exact .ite (fun _ => hclosed.trans judgePermit_keeps) fun _ => reenterClosing_keeps

theorem ownRestore_keeps {q : QueuedCommand} : Keeps p o s (ownRestore q s).state := by
  unfold ownRestore
  split_ifs
  · exact .refl s
  · exact .refl s
  · exact restored_keeps

theorem sequencerOutOfUse_keeps : Keeps p o s (sequencerOutOfUse s) := by
  let c : CrossingRecord := { s.crossing.noProgram with
    state := .outOfUse, aspect := .dark, sound := false, openDelayEnd := none, permitLapse := none,
    exitDelayEnd := none, closedSince := none, longReported := false, closureRequest := false }
  have hcommutes : stopAll (s.setCrossing c) = (stopAll s).setCrossing c := by rw [stopAll_eq, stopAll_eq]; rfl
  have hleft : Keeps p o (stopAll s) ((stopAll s).setCrossing c) :=
    .of_atRest (ps := [.crossing, .request]) (Frame.refl _ _).withCrossing fun _ _ => stopAll_atRest s
  have hended {u : State} : Keeps p o u (conditionEnd .longClosure none u) := conditionEnd_keeps_quiet
  exact (hcommutes ▸ stopAll_keeps.trans hleft : Keeps p o s (stopAll (s.setCrossing c))).trans hended

theorem ownTakeOutOfUse_keeps {q : QueuedCommand} : Keeps p o s (ownTakeOutOfUse q s).state := by
  unfold ownTakeOutOfUse
  split
  · exact sequencerOutOfUse_keeps.trans idleApproaches_keeps
  · exact .refl s

theorem enterOpen_keeps : Keeps p o s (enterOpen s) := setCrossing_keeps_used fun h => by cases h

theorem chooseCrossing_keeps : Keeps p o s (chooseCrossing s) :=
  .ite (fun _ => enterFailed_keeps) fun _ => .ite (fun _ => enterClosing_keeps) fun _ =>
    .ite (fun _ => enterOpen_keeps) fun _ => enterOpening_keeps

theorem ownReturnToUse_keeps {q : QueuedCommand} : Keeps p o s (ownReturnToUse q s).state := by
  unfold ownReturnToUse
  split
  · exact .refl s
  · split
    · exact .refl s
    · split
      · exact .refl s
      · exact (validationPassed_keeps.trans setUpApproaches_keeps).trans chooseCrossing_keeps

theorem ownResetSection_keeps {q : QueuedCommand} : Keeps p o s (ownResetSection q s).state := by
  unfold ownResetSection
  split
  · dsimp only
    split_ifs
    · exact .refl s
    · exact .refl s
    · exact .refl s
    · exact resetSectionRecord_keeps
  · exact .refl s

theorem ownDepart_keeps {q : QueuedCommand} : Keeps p o s (ownDepart q s).state := by
  unfold ownDepart
  split
  · dsimp only
    split_ifs
    · exact .refl s
    · exact strike_keeps
    · exact .refl s
  · exact .refl s

/-! ## The maintenance terminal's commands (R100, R123, R126, R157, R158, R176 to R184) -/

/-- Nothing but a calibration moves a barrier of a crossing out of use. -/
theorem InUse.atRest (h : InUse s) (hg : Gated s) (hs : s.crossing.state = .outOfUse) (hr : s.cal.run ≠ .running)
    (i : Fin 4) : s.barriers[i].AtRest :=
  hg.atRest hs (not_not.1 fun hc => hr (h.calibrating hc)) i

theorem afterWrite_keeps {x : TableId} {first n : Nat} {before : Tables} : Keeps p o s (afterWrite x first n before s) := by
  have hrejudged {u : State} : Keeps p o u (forEach 4 rejudgePosition u) := forEach_keepsAll (fun _ _ => rejudgePosition_keeps) u
  cases x with
  | scan =>
    refine (forEach_keepsAll (fun i u => .ite (fun _ => ?_) fun _ => .refl u) s).trans hrejudged
    exact .quiet (scanWritten_frame i u)
  | barrier => exact (forEach_keepsAll (fun i u => .ite (fun _ => takeBarrierOut_keeps) fun _ => .refl u) s).trans hrejudged
  | node | params | dpt | sectionTable | approach | closing | opening | lamp | reportMask => exact .refl s

theorem writeTable_keeps {x : TableId} {first : Nat} {entries : List (List Byte)}
    (h : p → Gated s → ∀ i : Fin 4, s.barriers[i].AtRest) : Keeps p o s (writeTable x first entries s) := by
  have hwritten {ts : Tables} : Keeps p o s { s with tm := { s.tm with tables := ts } } :=
    .of_atRest (ps := [.tables]) (Frame.refl _ s).withTm h
  exact (hwritten.trans afterWrite_keeps).trans clearValid_keeps

theorem ownTableWrite_keeps {q : QueuedCommand} (h : p → InUse s) : Keeps p o s (ownTableWrite q s).state := by
  have hwrites (hs : s.crossing.state = .outOfUse) (hcal : s.cal.run ≠ .running) (x : TableId) (first : Nat)
      (entries : List (List Byte)) : Keeps p o s (writeTable x first entries s) :=
    writeTable_keeps fun hp hg => (h hp).atRest hg hs hcal
  unfold ownTableWrite
  dsimp only
  split_ifs with hout hrun
  · exact .refl s
  · exact .refl s
  · have hs : s.crossing.state = .outOfUse := by simpa [outOfUse] using hout
    have hcal : s.cal.run ≠ .running := by
      simp only [Bool.or_eq_true, beq_iff_eq, not_or] at hrun
      exact hrun.2
    split
    · exact .refl s
    · split
      · exact .refl s
      · split
        · exact .refl s
        · exact hwrites hs hcal _ _ _

theorem ownSaveTables_keeps {q : QueuedCommand} : Keeps p o s (ownSaveTables q s).state := by
  have hstarted : Keeps p o s (startSave s) := .quiet (startSave_frame s)
  unfold ownSaveTables
  split
  · exact .refl s
  · split
    · exact .refl s
    · split
      · exact .refl s
      · exact hstarted.trans validationPassed_keeps

theorem startCalibration_keeps {selected : List (Fin 4)} (h : p → s.cal.current = none) :
    Keeps p o s (startCalibration selected s) := by
  refine Keeps.trans (setCal_keeps fun hp i hi _ => ?_) (nextBarrier_keeps fun _ i hi => ?_)
  · rw [underCalibration, h hp] at hi
    cases hi
  · cases hi

theorem ownCalibrate_keeps {q : QueuedCommand} (h : p → InUse s) : Keeps p o s (ownCalibrate q s).state := by
  unfold ownCalibrate
  dsimp only
  split_ifs with _ hrun
  · exact .refl s
  · exact .refl s
  · exact .refl s
  · exact .refl s
  · refine startCalibration_keeps fun hp => not_not.1 fun hc => hrun ?_
    have hcal := (h hp).calibrating hc
    simp [anyRunning, hcal]

theorem cancelCalibration_keeps : Keeps p o s (cancelCalibration s) := by
  let c : CalibrationRun := { run := .doneFail, current := none, remaining := [], allPassed := true }
  have hcommutes : cancelCalibration s = (stopAll s).setCal c := by rw [cancelCalibration, stopAll_eq, stopAll_eq]; rfl
  rw [hcommutes]
  exact stopAll_keeps.trans (setCal_keeps fun _ i _ _ => stopAll_atRest s i)

theorem ownCalibrateCancel_keeps {q : QueuedCommand} : Keeps p o s (ownCalibrateCancel q s).state := by
  unfold ownCalibrateCancel
  split
  · exact cancelCalibration_keeps
  · exact .refl s

theorem ownLampTest_keeps {q : QueuedCommand} : Keeps p o s (ownLampTest q s).state := by
  have hstarts : Keeps p o s (startLampTest s) := startLampTest_keeps
  unfold ownLampTest
  split
  · exact .refl s
  · split
    · exact .refl s
    · split
      · exact .refl s
      · dsimp only [answer]
        exact hstarts

theorem ownPassageClose_keeps {q : QueuedCommand} : Keeps p o s (ownPassageClose q s).state := by
  have hf := ownPassageClose_frame q s
  refine .of_bounded hf fun hb => hb.withBanks hf ?_
  unfold ownPassageClose
  split
  next one hone =>
    split_ifs with hrecords
    · exact hb.banks
    · exact hb.banks.makeReady fun hnil => hrecords (by rw [hnil]; rfl)
  next => exact hb.banks

theorem ownPassageRelease_keeps {q : QueuedCommand} : Keeps p o s (ownPassageRelease q s).state := by
  have hf := ownPassageRelease_frame q s
  refine .of_bounded hf fun hb => hb.withBanks hf ?_
  unfold ownPassageRelease
  split
  · exact hb.banks
  · split_ifs
    · exact hb.banks.releaseBank
    · exact hb.banks

end

end Sys2Proof.Machine
end

section
/-! The bounds of the lists, the gate and the records of the ALARM conditions through every step: what each event makes of
them, and the statements (R105 to R113, R140 to R144, R187, R188). -/

namespace Sys2Proof.Machine

set_option Elab.async false

section
variable {p : Prop} {o : FaultCode → Prop} {s t : State}

/-! ## The completion of loading (R187, R188) -/

/-- A condition that is owed its record gets it. -/
theorem Keeps.pays {c : FaultCode} {x : Option Nat} (hc : c.cls = .alarm) (hpair : AlarmPair c x)
    (h : Keeps p (fun c' => c' = c ∨ o c') s t) (hx : ∀ y, Demands t c y → y = x) (hk : c.kind = .condition := by rfl) :
    Keeps p o s (conditionPresent c x t) := by
  have hf := conditionPresent_frame c x t
  refine ⟨fun hb => (h.bounded hb).conditionPresent hk fun _ => hpair, fun hp hg => (h.gated hp hg).of_frame hf,
    fun hp hb ha c' y ho hd => ?_⟩
  have hd' := hd.of_frame hf
  by_cases hcc : c' = c
  · subst hcc
    rw [hx y hd']
    exact recorded_present hc x (h.bounded hb).faults
  · refine recorded_conditionPresent hd'.alarm ?_ c x
    exact h.alarms hp hb (fun c x hn => ha c x fun hoc => hn (.inr hoc)) c' y (fun hn => hn.elim hcc ho) hd'

theorem demands_invalid_subject {x : Option Nat} (h : Demands s .tableInvalid x) : x = none := by
  generalize hc : FaultCode.tableInvalid = c at h
  cases h with
  | invalid => rfl
  | critical => rfl
  | dark => cases hc
  | barrier i h => cases h <;> cases hc

/-- The tables loaded, a record of TABLE_INVALID is all that can be owed. -/
theorem adoptTables_keeps {ts : Tables} (h : p → Gated s → ∀ i : Fin 4, s.barriers[i].AtRest) :
    Keeps p (fun c => c = .tableInvalid ∨ o c) s (adoptTables ts s) := by
  refine ⟨fun hb => hb.withFaults (adoptTables_frame ts s) hb.faults, fun hp hg i => ?_, fun _ _ ha c x hc hd => ha c x hc ?_⟩
  · exact (gatedBarrier_iff _ i).2 (h hp hg i).underGate
  · cases hd with
    | critical h => exact .critical h
    | barrier i h => exact .barrier i h
    | dark side ha hr hd => exact .dark side ha hr hd
    | invalid => exact absurd (.inl rfl) hc

theorem judgeAllBarriers_keeps : Keeps p o s (judgeAllBarriers s) := forEach_keepsAll (fun _ _ => judgeBarrier_keeps) s

theorem completeLoading_keeps {answers : Bool} (h : p → InUse s) : Keeps p o s (completeLoading answers s) := by
  unfold completeLoading
  refine .ite (fun hl => ?_) fun _ => .refl s
  have hrest (hp : p) (hg : Gated s) : ∀ i : Fin 4, s.barriers[i].AtRest := by
    obtain ⟨hs, -, ⟨hcal, -⟩, -⟩ := (h hp).loading hl
    exact (h hp).atRest hg hs hcal
  have hadopted {ts : Tables} : Keeps p (fun c => c = .tableInvalid ∨ o c) s
      (eventEntered .coldStart none none (adoptTables ts s)) := (adoptTables_keeps hrest).trans eventEntered_keeps
  extract_lets outcome u
  split
  next d _ =>
    exact ((((validationPassed_settles hadopted).trans judgeAllBarriers_keeps).trans strikeAllDisturbed_keeps).trans
      enterClosing_keeps).trans startBlock_keeps
  next =>
    have hpaid {ts : Tables} : Keeps p o s (conditionPresent .tableInvalid none (eventEntered .coldStart none none
        (adoptTables ts s))) := .pays rfl rfl hadopted fun _ => demands_invalid_subject
    exact (hpaid.trans judgeAllBarriers_keeps).trans startBlock_keeps

/-! ## The lines, the store and the end of a RESTART (R185, R186) -/

theorem cutSave_keeps {written : Nat} : Keeps p o s (cutSave written s) := .quiet (cutSave_frame written s)

theorem completeSave_keeps {readBack : List Word} : Keeps p o s (completeSave readBack s) :=
  .quiet (completeSave_frame readBack s)

theorem lines_keep (supply held : Bool) : Keeps p o s { s with supply := supply, resetHeld := held } := by
  refine .quiet (ps := [.lines]) ⟨fun q hq => ?_⟩
  cases q with
  | lines => exact absurd (by decide) hq
  | _ => simp [Part.same]

theorem withPending_keeps {rest : List Instr} : Keeps p o s { s with pending := rest } := by
  refine .quiet (ps := [.pending]) ⟨fun q hq => ?_⟩
  cases q with
  | pending => exact absurd (by decide) hq
  | _ => simp [Part.same]

theorem beginRestart_keeps {q : QueuedCommand} {written : Nat} (hq : s.lnu.processor ≠ none) :
    Keeps p (fun _ => False) s (beginRestart q written s) := by
  have hbusy : Keeps p (fun _ => False) s { s with lnu := { s.lnu with restarting := true } } := by
    have hf : Frame [.queue] s { s with lnu := { s.lnu with restarting := true } } := (Frame.refl _ s).withLnu
    exact .of_bounded hf fun hb => hb.withQueue hf ⟨hb.queue.queue, hb.queue.taken, fun _ => hq⟩
  unfold beginRestart
  exact .ite (fun _ => hbusy.trans (placeReply_keeps rfl)) fun _ => coldStart_keeps

theorem completeRestart_keeps {written : Nat} : Keeps p (fun _ => False) s (completeRestart written s) := by
  unfold completeRestart
  split
  next q hq =>
    have hr := completing_spec hq
    have hbusy : s.lnu.processor ≠ none := by
      simp only [completing, hr, Bool.false_eq_true, if_false] at hq
      simp [hq]
    refine .ite (fun _ => ?_) fun _ => .refl s
    split
    · exact answered_keeps hr
    · exact .ite (fun _ => beginRestart_keeps hbusy) fun _ => answered_keeps hr
  next => exact .refl s

/-! ## Every command -/

theorem event_keeps {dt : Time} {work : State → State} (h : Keeps p o (s.advance dt) (work (s.advance dt))) :
    Keeps p o s (event dt work s) := by
  have hadvanced : Keeps p o s (s.advance dt) := .quiet (advance_frame dt s)
  exact .ite (fun _ => (hadvanced.trans h).trans finish_keeps) fun _ => .refl s

end

section
variable {s u : State}

theorem next_event_keeps {dt : Time} {work : State → State}
    (hu : (.next (event dt work s) : Host.Outcome State Fault Refusal) = .next u)
    (hwork : ∀ {w : State}, (InUse s → InUse w) → Keeps (InUse s) (fun _ => False) w (work w)) :
    Keeps (InUse s) (fun _ => False) s u :=
  Host.Outcome.next.inj hu ▸ event_keeps (hwork fun h => h.advance dt)

theorem exec_keeps (c : Instr) (hu : exec c s = .next u) : Keeps (InUse s) (fun _ => False) s u := by
  cases c
  case powerUp => exact Host.Outcome.next.inj hu ▸ coldStart_keeps
  case resetLineHeld => exact Host.Outcome.next.inj hu ▸ (lines_keep s.supply true).trans cutSave_keeps
  case resetLineRelease =>
    obtain rfl := Host.Outcome.next.inj hu
    exact .ite (fun _ => coldStart_keeps) fun _ => lines_keep s.supply false
  case supplyFailure => exact Host.Outcome.next.inj hu ▸ (lines_keep false s.resetHeld).trans cutSave_keeps
  case loadingComplete => exact next_event_keeps hu fun h => completeLoading_keeps h
  case telegramReception => exact next_event_keeps hu fun _ => receive_keeps
  case wheelTelegram => exact next_event_keeps hu fun _ => takePassed_keeps fun _ _ _ => wheelTelegramFor_keeps
  case healthTelegram => exact next_event_keeps hu fun _ => takePassed_keeps fun _ _ _ => healthTelegramFor_keeps
  case transmissionComplete => exact next_event_keeps hu fun _ => transmissionEnds_keeps
  case poll => exact next_event_keeps hu fun _ => complete_keeps (fun q => ownPoll_frame q _) fun q => .quiet (ownPoll_frame q _)
  case faultRead =>
    exact next_event_keeps hu fun _ => complete_keeps (fun q => ownFaultRead_frame q _) fun q => .quiet (ownFaultRead_frame q _)
  case faultAccept =>
    exact next_event_keeps hu fun _ => complete_keeps (fun q => ownFaultAccept_frame q _) fun _ => ownFaultAccept_keeps
  case closeRequest =>
    exact next_event_keeps hu fun _ => complete_keeps (fun q => ownCloseRequest_frame q _) fun _ => ownCloseRequest_keeps
  case restore =>
    exact next_event_keeps hu fun _ => complete_keeps (fun q => ownRestore_frame q _) fun _ => ownRestore_keeps
  case takeOutOfUse =>
    exact next_event_keeps hu fun _ => complete_keeps (fun q => ownTakeOutOfUse_frame q _) fun _ => ownTakeOutOfUse_keeps
  case returnToUse =>
    exact next_event_keeps hu fun _ => complete_keeps (fun q => ownReturnToUse_frame q _) fun _ => ownReturnToUse_keeps
  case resetSection =>
    exact next_event_keeps hu fun _ => complete_keeps (fun q => ownResetSection_frame q _) fun _ => ownResetSection_keeps
  case depart => exact next_event_keeps hu fun _ => complete_keeps (fun q => ownDepart_frame q _) fun _ => ownDepart_keeps
  case passageRead =>
    exact next_event_keeps hu fun _ => complete_keeps (fun q => ownPassageRead_frame q _) fun q =>
      .quiet (ownPassageRead_frame q _)
  case tableWrite =>
    exact next_event_keeps hu fun h => complete_keeps (fun q => ownTableWrite_frame q _) fun _ => ownTableWrite_keeps h
  case tableRead =>
    exact next_event_keeps hu fun _ => complete_keeps (fun q => ownTableRead_frame q _) fun q => .quiet (ownTableRead_frame q _)
  case saveTables =>
    exact next_event_keeps hu fun _ => complete_keeps (fun q => ownSaveTables_frame q _) fun _ => ownSaveTables_keeps
  case restart => exact next_event_keeps hu fun _ => completeRestart_keeps
  case calibrate =>
    exact next_event_keeps hu fun h => complete_keeps (fun q => ownCalibrate_frame q _) fun _ => ownCalibrate_keeps h
  case calibrateCancel =>
    exact next_event_keeps hu fun _ => complete_keeps (fun q => ownCalibrateCancel_frame q _) fun _ => ownCalibrateCancel_keeps
  case lampTest =>
    exact next_event_keeps hu fun _ => complete_keeps (fun q => ownLampTest_frame q _) fun _ => ownLampTest_keeps
  case measureRead =>
    exact next_event_keeps hu fun _ => complete_keeps (fun q => ownMeasureRead_frame q _) fun q =>
      .quiet (ownMeasureRead_frame q _)
  case passageClose =>
    exact next_event_keeps hu fun _ => complete_keeps (fun q => ownPassageClose_frame q _) fun _ => ownPassageClose_keeps
  case passageRelease =>
    exact next_event_keeps hu fun _ => complete_keeps (fun q => ownPassageRelease_frame q _) fun _ => ownPassageRelease_keeps
  case unknownCommand => exact next_event_keeps hu fun _ => completeUnknown_keeps
  case unanswerableCommand => exact next_event_keeps hu fun _ => completeUnanswerable_keeps
  case headSilenceExpiry => exact next_event_keeps hu fun _ => headSilent_keeps
  case deadlineExpiry => exact next_event_keeps hu fun _ => deadlineEnds_keeps
  case waitExpiry => exact next_event_keeps hu fun h => waitEnds_keeps fun hs => (h hs).program
  case permitLapse => exact next_event_keeps hu fun _ => permitLapses_keeps
  case openDelayExpiry => exact next_event_keeps hu fun _ => openDelayEnds_keeps
  case exitDelayExpiry => exact next_event_keeps hu fun _ => exitDelayEnds_keeps
  case longClosureExpiry => exact next_event_keeps hu fun _ => longClosureEnds_keeps
  case halfPeriodExpiry => exact next_event_keeps hu fun _ => halfPeriodEnds_keeps
  case darkTimerExpiry => exact next_event_keeps hu fun _ => darkTimerEnds_keeps
  case lampTestSlotEnd => exact next_event_keeps hu fun _ => slotEnds_keeps
  case startPhaseExpiry => exact next_event_keeps hu fun _ => startPhaseEnds_keeps
  case reversePauseExpiry => exact next_event_keeps hu fun _ => pauseEnds_keeps (.inl rfl)
  case trippedPauseExpiry => exact next_event_keeps hu fun _ => pauseEnds_keeps (.inr rfl)
  case travelExpiry => exact next_event_keeps hu fun _ => travelEnds_keeps
  case disagreementTimerExpiry => exact next_event_keeps hu fun _ => disagreementEnds_keeps
  case calibrationLimitExpiry => exact next_event_keeps hu fun _ => calibrationLimitEnds_keeps
  case contactChange dt i d closed =>
    obtain rfl := Host.Outcome.next.inj hu
    exact .ite (fun _ => event_keeps contactChanged_keeps) fun _ => .quiet (setContact_frame i d closed s)
  case strobe => exact next_event_keeps hu fun _ => strobeTaken_keeps
  case quietEndExpiry => exact next_event_keeps hu fun _ => quietEnds_keeps
  case statusDueExpiry => exact next_event_keeps hu fun _ => statusDueEnds_keeps
  case linkEndExpiry => exact next_event_keeps hu fun _ => linkEnds_keeps
  case saveRunComplete => exact next_event_keeps hu fun _ => completeSave_keeps

theorem step_keeps (hstep : step s = .next u) : Keeps (InUse s) (fun _ => False) s u := by
  unfold step at hstep
  split at hstep
  next c rest _ =>
    have hexec := exec_keeps c hstep
    have hin (h : InUse s) : InUse { s with pending := rest } := h.withPending rest
    exact withPending_keeps.trans ⟨hexec.bounded, fun h => hexec.gated (hin h), fun h => hexec.alarms (hin h)⟩
  next => exact Host.Outcome.next.inj hstep ▸ .refl s

end

/-- Settles O58: command by command, each by what the operations of its event make of every barrier. -/
theorem gateIsKept : Obligations.GateIsKept := fun _ _ h hg hstep => (step_keeps hstep).gated h hg

/-- Settles O60: command by command, the lists by the operations that fill them, and the records by the operations that
make a condition present or end one. -/
theorem boundsAndAlarmRecordsAreKept : Obligations.BoundsAndAlarmRecordsAreKept :=
  ⟨fun _ _ hb hstep => (step_keeps hstep).bounded hb, fun s t h hb ha hstep =>
    (alarmsRecorded_iff t).2 ((step_keeps hstep).alarms h hb ((alarmsRecorded_iff s).1 ha))⟩

end Sys2Proof.Machine
end

section
/-! CALIBRATE and CALIBRATE_CANCEL: obligation O20 (R123, R124, R126). -/

namespace Sys2Proof.Machine

set_option Elab.async false

/-- The bits 0 to 3 of a mask name no barrier exactly where the mask is 0. -/
theorem selectedBarriers_eq_nil_iff {mask : Nat} (h : mask < 16) : selectedBarriers mask = [] ↔ mask = 0 := by
  have hall : ∀ m < 16, selectedBarriers m = [] ↔ m = 0 := by decide
  exact hall mask h

theorem calibratable_iff (ts : Tables) (i : Fin 4) : calibratable ts i = true ↔
    ts.barrier[i].angleEntry ≠ ts.barrier[i].currentEntry ∧ NamesScan ts ts.barrier[i].angleEntry ∧
      NamesScan ts ts.barrier[i].currentEntry := by
  simp only [calibratable, Bool.and_eq_true, scanServes_iff, bne_iff_ne, and_assoc]

/-- The mask of a CALIBRATE names barriers, all of them in service (R123, 11.2). -/
def MaskFits (s : State) (mask : Nat) : Prop :=
  mask ≠ 0 ∧ mask < 16 ∧ ∀ i ∈ selectedBarriers mask, s.tm.tables.barrier[i].inService = true

section
variable (q : QueuedCommand) {s : State}

theorem maskRefused_iff (mask : Nat) : ((selectedBarriers mask).isEmpty || decide (16 ≤ mask) ||
    !(selectedBarriers mask).all fun i => (s.barrierEntry i).inService) = true ↔ ¬ MaskFits s mask := by
  have hall : ((selectedBarriers mask).all fun i => (s.barrierEntry i).inService) = true ↔
      ∀ i ∈ selectedBarriers mask, s.tm.tables.barrier[i].inService = true := List.all_eq_true
  by_cases hlt : mask < 16
  · rw [MaskFits, ← hall, Ne, ← selectedBarriers_eq_nil_iff hlt]
    simp [hlt, Nat.not_le.2 hlt, imp_iff_not_or]
  · simp [MaskFits, hlt, Nat.not_lt.1 hlt]

theorem ownCalibrate_refused (h : s.crossing.state ≠ .outOfUse ∨ ¬ NothingRuns s) :
    ownCalibrate q s = refuse .refusedState s := by
  unfold ownCalibrate
  dsimp only
  split
  · rfl
  next hout =>
    have hs : s.crossing.state = .outOfUse := (outOfUse_iff s).1 (by simpa using hout)
    exact if_pos ((anyRunning_iff s).2 (h.resolve_left (absurd hs)))

section
variable (hs : s.crossing.state = .outOfUse) (hruns : NothingRuns s)
include hs hruns

theorem ownCalibrate_unfit (h : ¬ (MaskFits s (q.arg 0) ∧
    ∀ i ∈ selectedBarriers (q.arg 0), calibratable s.tm.tables i = true)) :
    ownCalibrate q s = refuse .refusedArgument s := by
  have hrun : ¬ anyRunning s = true := mt (anyRunning_iff s).1 (not_not.2 hruns)
  unfold ownCalibrate
  dsimp only
  rw [(outOfUse_iff s).2 hs, if_neg (by decide), if_neg hrun]
  split
  · rfl
  next hfits =>
    rw [maskRefused_iff, not_not] at hfits
    refine if_pos ?_
    rw [Bool.not_eq_true', Bool.eq_false_iff, Ne, List.all_eq_true]
    exact fun hall => h ⟨hfits, hall⟩

theorem ownCalibrate_starts (hfits : MaskFits s (q.arg 0))
    (hall : ∀ i ∈ selectedBarriers (q.arg 0), calibratable s.tm.tables i = true) :
    ownCalibrate q s = answer .accepted (startCalibration (selectedBarriers (q.arg 0)) s) := by
  have hrun : ¬ anyRunning s = true := mt (anyRunning_iff s).1 (not_not.2 hruns)
  have hserve : ((selectedBarriers (q.arg 0)).all fun i => calibratable s.tm.tables i) = true := List.all_eq_true.2 hall
  unfold ownCalibrate
  dsimp only
  rw [(outOfUse_iff s).2 hs, if_neg (by decide), if_neg hrun, if_neg (mt (maskRefused_iff (s := s) _).1 (not_not.2 hfits)),
    hserve]
  rfl

end

end

/-- Settles O20: the two commands by their own work in each case. -/
theorem calibrationStartsAndIsCancelled : Obligations.CalibrationStartsAndIsCancelled := by
  intro s q dt replied
  refine ⟨fun mask hq => ?_, fun hq => ⟨fun hidle => ?_, fun hrun => ?_⟩⟩
  · have hexec {reply : ReplyCode} {u : State}
        (hown : ownCalibrate q (s.advance dt) = { state := u, code := reply, data := [] }) :
        exec (.calibrate dt) s = replied reply u :=
      congrArg Host.Outcome.next (hq.event_eq (c := .calibrate) rfl rfl rfl hown)
    have harg : q.arg 0 = mask.toNat := hq.1.arg_eq 0
    intro selected serves named
    have hserves : (∀ i ∈ selectedBarriers (q.arg 0), calibratable (s.advance dt).tm.tables i = true) ↔
        ∀ i ∈ selected, serves i := by
      rw [harg]
      exact forall₂_congr fun i _ => calibratable_iff _ i
    have hnamed : MaskFits (s.advance dt) (q.arg 0) ↔ named := by rw [harg]; rfl
    refine ⟨fun h => hexec (ownCalibrate_refused (s := s.advance dt) q h), fun hs hruns hunfit => hexec ?_,
      fun hs hruns hfits hall => hexec ?_⟩
    · exact ownCalibrate_unfit (s := s.advance dt) q hs hruns fun h => hunfit ⟨hnamed.1 h.1, hserves.1 h.2⟩
    · refine (ownCalibrate_starts (s := s.advance dt) q hs hruns (hnamed.2 hfits) (hserves.2 hall)).trans ?_
      rw [harg]
      rfl
  · refine congrArg Host.Outcome.next (hq.event_eq (c := .calibrateCancel) rfl rfl rfl ?_)
    exact if_neg hidle
  · refine congrArg Host.Outcome.next (hq.event_eq (c := .calibrateCancel) rfl rfl rfl ?_)
    refine (if_pos hrun).trans ?_
    rw [cancelCalibration, stopAll_eq]
    rfl

end Sys2Proof.Machine
end

section
/-! The timers of the barriers and of a calibration movement: obligation O24 (R110, R112, R114, R118, R119, R121, R124). -/

namespace Sys2Proof.Machine

set_option Elab.async false

section
variable {s : State} {e : Time} (hr : reached s.now e = true) {i : Fin 4}
include hr

theorem startPhaseEnds_reached {d : BarrierEnd} (ht : s.barriers[i].target = some d) (hp : s.barriers[i].phase = .start)
    (he : s.barriers[i].phaseEnd = some e) :
    startPhaseEnds i s = s.setBarrier i (s.barriers[i].toRun (s.barrierEntry i) s.now d) := by
  simp only [startPhaseEnds, ht, hp, he, due_some, hr, decide_true, Bool.and_self, if_true]

theorem pauseEnds_reached {d : BarrierEnd} {phase : BarrierPhase} (fresh : Bool) (ht : s.barriers[i].target = some d)
    (hp : s.barriers[i].phase = phase) (he : s.barriers[i].phaseEnd = some e) : pauseEnds phase fresh i s =
      if s.barriers[i].provedAt d then enterAtEnd i s else startMove i d fresh s := by
  simp only [pauseEnds, ht, hp, he, due_some, hr, decide_true, Bool.and_self, if_true]

theorem travelEnds_reached (he : s.barriers[i].travelEnd = some e)
    (hd : ∀ d, s.barriers[i].target = some d → s.barriers[i].provedAt d = false) : travelEnds i s =
      conditionPresent .barrierTimeout (some i.val) (s.setBarrier i { s.barriers[i] with travelEnd := none }) := by
  have hopen : s.barriers[i].provedAtTarget = false := by
    unfold BarrierRecord.provedAtTarget
    split
    next d ht => exact hd d ht
    next => rfl
  simp only [travelEnds, he, due_some, hr, hopen, Bool.not_false, Bool.and_self, if_true]

theorem disagreementEnds_reached (he : s.barriers[i].disagreeEnd = some e) : disagreementEnds i s =
    conditionPresent .barrierDisagree (some i.val) (s.setBarrier i { s.barriers[i] with disagreeEnd := none }) := by
  simp only [disagreementEnds, he, due_some, hr, if_true]

theorem calibrationLimitEnds_reached {c : CalBarrier} (hc : s.cal.current = some c) (he : c.limit = some e) :
    calibrationLimitEnds s = failBarrier c .travel s := by
  simp only [calibrationLimitEnds, hc, he, due_some, hr, if_true]

end

/-- The limit of a barrier that is proved at its target makes nothing active (R121). -/
theorem travelEnds_proved {s : State} {i : Fin 4} {d : BarrierEnd} (ht : s.barriers[i].target = some d)
    (hd : s.barriers[i].provedAt d = true) : travelEnds i s = s := by
  have hproved : s.barriers[i].provedAtTarget = true := by rw [BarrierRecord.provedAtTarget, ht]; exact hd
  simp only [travelEnds, hproved, Bool.not_true, Bool.and_false, Bool.false_eq_true, if_false]

/-- Settles O24: each timer by the lemma of its end. -/
theorem barrierTimersExpire : Obligations.BarrierTimersExpire := by
  intro s dt e i hrun he t r table red sets ends atEnd
  have hr : reached t.now e = true := he
  have hpause {d : BarrierEnd} {phase : BarrierPhase} (fresh : Bool) (ht : r.target = some d) (hp : r.phase = phase)
      (hend : r.phaseEnd = some e) :
      (r.provedAt d = true → pauseEnds phase fresh i t = atEnd) ∧
      (r.provedAt d = false → pauseEnds phase fresh i t = sets (r.move table t.now red d fresh)) := by
    have hreached := pauseEnds_reached (s := t) hr (i := i) fresh ht hp hend
    exact ⟨fun h => hreached.trans (if_pos h), fun h => hreached.trans (if_neg (by rw [Bool.not_eq_true]; exact h))⟩
  refine ⟨fun d ht hp hend => next_event hrun dt (startPhaseEnds_reached (s := t) hr ht hp hend), fun d ht hp hend => ?_,
    fun d ht hp hend => ?_, fun hend hd => next_event hrun dt (travelEnds_reached (s := t) hr hend hd),
    fun d _ ht hd => next_event hrun dt (travelEnds_proved (s := t) ht hd),
    fun hend => next_event hrun dt (disagreementEnds_reached (s := t) hr hend),
    fun c hc hend => next_event hrun dt (calibrationLimitEnds_reached (s := t) hr hc hend)⟩
  · obtain ⟨hproved, hopen⟩ := hpause true ht hp hend
    exact ⟨fun h => next_event hrun dt (hproved h), fun h => next_event hrun dt (hopen h)⟩
  · obtain ⟨hproved, hopen⟩ := hpause false ht hp hend
    exact ⟨fun h => next_event hrun dt (hproved h), fun h => next_event hrun dt (hopen h)⟩

end Sys2Proof.Machine
end

section
/-! A contact that closes or opens: obligation O27 (R105, R108, R110, R111, R117, R124). -/

namespace Sys2Proof.Machine

set_option Elab.async false

/-! ## Phases and the calibration -/

theorem BarrierPhase.driven_iff (x : BarrierPhase) : x.driven = true ↔ x = .start ∨ x = .run ∨ x = .brake := by
  cases x <;> simp [BarrierPhase.driven]

theorem BarrierPhase.settleFrom_of_driven {x : BarrierPhase} (h : x.driven = true) :
    x.settleFrom = if x = .start then some .start else if x = .run then some .run else some .brake := by
  cases x with
  | start | run | brake => rfl
  | idle | held | settle | reverse | tripped | stalled | atEnd => cases h

theorem BarrierRecord.toSettle_of_driven {r : BarrierRecord} (h : r.phase.driven = true) : r.toSettle = { r with
    phase := .settle, drive := .off, phaseEnd := none, runOrigin := none, runStart := none
    settleFrom := if r.phase = .start then some .start else if r.phase = .run then some .run else some .brake } := by
  rw [BarrierRecord.toSettle, BarrierPhase.settleFrom_of_driven h]

theorem underCalibration_eq_true {s : State} {i : Fin 4} {c : CalBarrier} (h : s.cal.current = some c)
    (hi : c.barrier = i) : underCalibration s i = true := by
  simp [underCalibration, h, hi]

theorem underCalibration_eq_false_iff (s : State) (i : Fin 4) :
    underCalibration s i = false ↔ ∀ c, s.cal.current = some c → c.barrier ≠ i := by
  cases h : s.cal.current <;> simp [underCalibration, h]

theorem underCalibration_of_none {s : State} (h : s.cal.current = none) (i : Fin 4) : underCalibration s i = false := by
  rw [underCalibration, h]

/-- The gate is open: the movement is upward, or red is proved on the side (R113). -/
theorem not_gated {d : BarrierEnd} {red : Bool} (h : d = .up ∨ red = true) : ¬ (d = .down ∧ red = false) := by
  rintro ⟨rfl, rfl⟩
  simp at h

/-! ## The movement (R117) -/

section
variable {s : State} {i : Fin 4} {d : BarrierEnd}

theorem contactMotion_calibrated (hc : underCalibration s i = true) (closed : Bool) : contactMotion i d closed s = s := by
  simp [contactMotion, hc]

theorem contactMotion_other (ht : s.barriers[i].target ≠ some d) (closed : Bool) : contactMotion i d closed s = s := by
  have htarget : (s.barriers[i].target != some d) = true := bne_iff_ne.2 ht
  simp only [contactMotion, htarget, Bool.true_or, if_true]

section
variable (ht : s.barriers[i].target = some d) (hc : underCalibration s i = false)
include ht hc

theorem contactMotion_closes : contactMotion i d true s =
    if s.barriers[i].phase.driven then s.setBarrier i s.barriers[i].toSettle else s := by
  have htarget : (s.barriers[i].target != some d) = false := bne_eq_false_iff_eq.2 ht
  simp only [contactMotion, htarget, hc, Bool.or_self, Bool.false_eq_true, if_false, if_true]

theorem contactMotion_opens : contactMotion i d false s = if s.barriers[i].phase = .settle then
    s.setBarrier i (s.barriers[i].fromSettle (s.barrierEntry i) s.now (sideRed s i) d) else s := by
  have htarget : (s.barriers[i].target != some d) = false := bne_eq_false_iff_eq.2 ht
  simp only [contactMotion, htarget, hc, Bool.or_self, Bool.false_eq_true, if_false]

end

/-- Any other change of a contact moves no movement (R117). -/
theorem contactMotion_still {closed : Bool} (h : s.barriers[i].target ≠ some d ∨
      (closed = true ∧ s.barriers[i].phase.driven = false) ∨ (closed = false ∧ s.barriers[i].phase ≠ .settle)) :
    contactMotion i d closed s = s := by
  cases hc : underCalibration s i with
  | true => exact contactMotion_calibrated hc closed
  | false =>
    by_cases ht : s.barriers[i].target = some d
    · rcases h with hn | ⟨rfl, hdriven⟩ | ⟨rfl, hphase⟩
      · exact absurd ht hn
      · rw [contactMotion_closes ht hc, hdriven]
        rfl
      · rw [contactMotion_opens ht hc, if_neg hphase]
    · exact contactMotion_other ht closed

theorem BarrierRecord.fromSettle_held {e : BarrierEntry} {now : Time} {r : BarrierRecord} :
    r.fromSettle e now false .down = r.held := rfl

theorem BarrierRecord.fromSettle_brake {e : BarrierEntry} {now : Time} {red : Bool} {r : BarrierRecord}
    (h : d = .up ∨ red = true) (hs : r.settleFrom = some .brake) (hl : r.openLoopOnly = false) :
    r.fromSettle e now red d = { r with phase := .brake, drive := .on d e.brakeDuty, settleFrom := none } := by
  rw [BarrierRecord.fromSettle, if_neg (not_gated h), if_pos ⟨hs, hl⟩]

theorem BarrierRecord.fromSettle_run {e : BarrierEntry} {now : Time} {red : Bool} {r : BarrierRecord}
    (h : d = .up ∨ red = true) (hs : r.settleFrom ≠ some .brake ∨ r.openLoopOnly = true) :
    r.fromSettle e now red d = r.toRun e now d := by
  rw [BarrierRecord.fromSettle, if_neg (not_gated h), if_neg]
  rintro ⟨hbrake, hloop⟩
  rcases hs with hs | hs
  · exact hs hbrake
  · rw [hloop] at hs
    cases hs

/-! ## The event -/

/-- A contact takes no part in the calibration of another barrier. -/
theorem calibrationContact_free (hc : underCalibration s i = false) : calibrationContact i d s = s := by
  have hother := (underCalibration_eq_false_iff s i).1 hc
  unfold calibrationContact
  split
  · rfl
  next c h => exact if_pos (hother c h)

theorem contactChanged_same {closed : Bool} (h : s.contacts[i].at_ d = closed) : contactChanged i d closed s = s :=
  if_pos h

section
variable {closed : Bool} (h : s.contacts[i].at_ d ≠ closed)
include h

/-- While loading, and for a barrier out of service, only the input changes. -/
theorem contactChanged_input (hin : s.loading = true ∨ (s.barrierEntry i).inService = false) :
    contactChanged i d closed s = setContact i d closed s := by
  refine (if_neg h).trans (if_pos ?_)
  rw [Bool.or_eq_true, Bool.not_eq_true']
  exact hin

section
variable (hl : s.loading = false) (hs : (s.barrierEntry i).inService = true)
include hl hs

theorem contactChanged_taken {u : State} (hu : judgeBarrier i (contactMotion i d closed (setContact i d closed s)) = u) :
    contactChanged i d closed s = if closed then calibrationContact i d u else u := by
  refine (if_neg h).trans ((if_neg ?_).trans ?_)
  · rw [Bool.not_eq_true, Bool.or_eq_false_iff, Bool.not_eq_false']
    exact ⟨hl, hs⟩
  · dsimp only
    rw [hu]

/-- The barrier is not under calibration. -/
theorem contactChanged_free (hc : underCalibration s i = false) :
    contactChanged i d closed s = judgeBarrier i (contactMotion i d closed (setContact i d closed s)) := by
  have hframe : Frame [.barriers, .faults] (setContact i d closed s)
      (judgeBarrier i (contactMotion i d closed (setContact i d closed s))) :=
    ((contactMotion_frame ..).mono (by decide)).step (judgeBarrier_frame ..)
  have hfree : underCalibration (judgeBarrier i (contactMotion i d closed (setContact i d closed s))) i = false :=
    (hframe.underCalibration (by decide) i).trans hc
  rw [contactChanged_taken h hl hs rfl, calibrationContact_free hfree, ite_self]

theorem contactChanged_calibrated (hc : underCalibration s i = true) : contactChanged i d closed s =
    if closed then calibrationContact i d (judgeBarrier i (setContact i d closed s))
    else judgeBarrier i (setContact i d closed s) :=
  contactChanged_taken h hl hs (congrArg _ (contactMotion_calibrated (s := setContact i d closed s) hc closed))

end

end

end

theorem exec_contactChange {s : State} (h : Running s) (dt : Time) (i : Fin 4) (d : BarrierEnd) (closed : Bool) :
    exec (.contactChange dt i d closed) s =
      .next (finish (s.advance dt) (contactChanged i d closed (s.advance dt))) := by
  refine congrArg Host.Outcome.next ((if_pos (State.alive_of_running h)).trans ?_)
  exact event_of_running h dt _

/-- Settles O27: the event by what it makes of the movement in each case. -/
theorem contactsMoveTheBarrier : Obligations.ContactsMoveTheBarrier := by
  intro s dt i d closed hrun r table red t ends moves driven
  have ht : t = setContact i d closed (s.advance dt) := by
    cases d <;> rfl
  have hends {u : State} (hu : contactChanged i d closed (s.advance dt) = u) : ends u :=
    (exec_contactChange hrun dt i d closed).trans (by rw [hu])
  have hdriven : r.phase.driven = true ↔ driven := r.phase.driven_iff
  refine ⟨fun hsame => hends (contactChanged_same hsame), fun hnew hin => ?_, fun hnew hl hs hfree => ?_,
    fun hnew hl hs c hc hi => ?_⟩
  · rw [ht]
    exact hends (contactChanged_input (s := s.advance dt) hnew hin)
  · have hc : underCalibration (s.advance dt) i = false := (underCalibration_eq_false_iff s i).2 hfree
    have hjudged {u : State} (hu : contactMotion i d closed (setContact i d closed (s.advance dt)) = u) :
        ends (judgeBarrier i u) :=
      hends ((contactChanged_free (s := s.advance dt) hnew hl hs hc).trans (congrArg _ hu))
    refine ⟨fun htarget hclosed hdr => ?_, fun htarget hclosed hsettle => ?_, fun hother => ?_⟩
    · subst hclosed
      have hmoved := (contactMotion_closes (s := setContact i d true (s.advance dt)) htarget hc).trans (if_pos (hdriven.2 hdr))
      refine hjudged (hmoved.trans ?_)
      rw [← ht]
      exact congrArg (State.setBarrier t i) (BarrierRecord.toSettle_of_driven (hdriven.2 hdr))
    · subst hclosed
      have hmoved {r' : BarrierRecord} (hr : r.fromSettle table (s.now + dt) red d = r') : moves r' := by
        refine hjudged ((contactMotion_opens (s := setContact i d false (s.advance dt)) htarget hc).trans
          ((if_pos hsettle).trans ?_))
        rw [← ht]
        exact congrArg (State.setBarrier t i) hr
      refine ⟨fun hd hred => hmoved ?_, fun hopen hfrom hloop => hmoved (BarrierRecord.fromSettle_brake hopen hfrom hloop),
        fun hopen hfrom => hmoved (BarrierRecord.fromSettle_run hopen hfrom)⟩
      rw [hd, hred]
      exact BarrierRecord.fromSettle_held
    · rw [ht]
      refine hjudged (contactMotion_still (s := setContact i d closed (s.advance dt)) ?_)
      rwa [← hdriven, Bool.not_eq_true] at hother
  · have hcal : underCalibration (s.advance dt) i = true := underCalibration_eq_true hc hi
    have htaken := contactChanged_calibrated (s := s.advance dt) hnew hl hs hcal
    rw [ht]
    refine ⟨fun hclosed => hends (htaken.trans (if_pos hclosed)), fun hclosed => hends (htaken.trans (if_neg ?_))⟩
    rw [hclosed]
    exact Bool.false_ne_true

end Sys2Proof.Machine
end

section
/-! The figures of a barrier and its trips: obligation O39 (R107, R108, R113 to R116, R119 to R121). -/

namespace Sys2Proof.Machine

set_option Elab.async false

/-! ## Position and proving (R107, R108) -/

/-- The fraction of the span, clamped to 0 at its lower end and to 1000 at its upper one (R107). -/
theorem spanFraction_eq {code down up : Nat} (h : down < up) :
    min 1000 ((((code : Int) - down) * 1000).fdiv ((up : Int) - down)).toNat =
      if code ≤ down then 0 else min 1000 ((code - down) * 1000 / (up - down)) := by
  rw [Int.fdiv_eq_ediv_of_nonneg _ (by omega)]
  split
  next hlow =>
    have hnonpos : (((code : Int) - down) * 1000) / ((up : Int) - down) ≤ 0 :=
      Int.ediv_nonpos_of_nonpos_of_neg (by omega) (by omega)
    omega
  next hhigh =>
    have hcast : ((code : Int) - down) * 1000 / ((up : Int) - down) = ((code - down) * 1000 / (up - down) : Nat) := by
      push_cast [Int.ofNat_sub (le_of_lt (not_le.1 hhigh)), Int.ofNat_sub (le_of_lt h)]
      rfl
    rw [hcast, Int.toNat_natCast]

theorem positionOf_valid {e : BarrierEntry} {x : ScanResult} (hentry : e.angleEntry < 24) (hspan : e.downCode + 400 ≤ e.upCode)
    (hx : x.overrange = false) : positionOf e (some x) = some (if x.code ≤ e.downCode then 0
      else min 1000 ((x.code - e.downCode) * 1000 / (e.upCode - e.downCode))) := by
  have husable : e.spanUsable = true := decide_eq_true hspan
  rw [← spanFraction_eq (by omega)]
  simp [positionOf, hx, husable, Nat.not_le.2 hentry]

theorem positionOf_invalid {e : BarrierEntry} {x : ScanResult}
    (h : 24 ≤ e.angleEntry ∨ e.upCode < e.downCode + 400 ∨ x.overrange = true) : positionOf e (some x) = none := by
  refine if_pos ?_
  simp only [BarrierEntry.spanUsable, Bool.or_eq_true, decide_eq_true_eq, Bool.not_eq_true', decide_eq_false_iff_not, not_le]
  rcases h with h | h | h
  · exact .inl (.inr h)
  · exact .inr h
  · exact .inl (.inl h)

theorem provingOf_valid {e : BarrierEntry} (hs : e.inService = true) (c : Contacts) (p : Nat) :
    provingOf e c (some p) =
      (decide (c.down = true ∧ p ≤ e.downWindow), decide (c.up = true ∧ e.upWindow ≤ p)) := by
  simp [provingOf, hs]

theorem provingOf_invalid {e : BarrierEntry} (hs : e.inService = true) (c : Contacts) :
    provingOf e c none = (c.down, c.up) := by
  simp [provingOf, hs]

/-! ## Entry to RUN and to START (R113, R114, R116) -/

theorem inBrakeZone_down (e : BarrierEntry) (p : Nat) : inBrakeZone e .down p = true ↔ p ≤ e.brakePos := decide_eq_true_iff

theorem inBrakeZone_up (e : BarrierEntry) (p : Nat) : inBrakeZone e .up p = true ↔ 1000 - e.brakePos ≤ p :=
  decide_eq_true_iff

section
variable {e : BarrierEntry} {d : BarrierEnd} {r : BarrierRecord}

theorem BarrierRecord.brakeTest_brakes {p : Nat} (hp : r.position = some p) (hl : r.openLoopOnly = false)
    (hz : inBrakeZone e d p = true) : r.brakeTest e d = { r with phase := .brake, drive := .on d e.brakeDuty } := by
  simp [BarrierRecord.brakeTest, hp, hl, hz]

theorem BarrierRecord.brakeTest_runs
    (h : ∀ p, r.position = some p → ¬ (r.openLoopOnly = false ∧ inBrakeZone e d p = true)) : r.brakeTest e d = r := by
  unfold BarrierRecord.brakeTest
  split
  next p hp =>
    refine if_neg ?_
    rw [Bool.and_eq_true, Bool.not_eq_true']
    exact h p hp
  next => rfl

variable (now : Time) {red : Bool} {fresh : Bool}

/-- A movement that enters START stays there for start_ms, or enters RUN at once (R114, R119). -/
theorem BarrierRecord.move_starts (h : d = .up ∨ red = true) : r.move e now red d fresh = r.toStart e now d fresh :=
  if_neg (not_gated h)

end

/-! ## The regulated duty (R115) -/

theorem clamp_cast (clamp : Nat) (duty : Int) : ((min clamp duty.toNat : Nat) : Int) = max 0 (min (clamp : Int) duty) := by
  omega

/-! ## Trips (R119, R120) -/

section
variable {s : State} {i : Fin 4} {x : ScanResult}

theorem ScanResult.trips_iff (x : ScanResult) : x.trips = true ↔ x.cls = .high ∨ x.overrange = true := by
  simp [ScanResult.trips]

theorem currentResult_ignored (h : ¬ (s.barriers[i].phase.driven = true ∧ x.trips = true)) : currentResult i x s = s := by
  refine if_neg ?_
  rw [Bool.and_eq_true, Bool.and_eq_true]
  exact fun hall => h hall.1

theorem currentResult_trips (hdriven : s.barriers[i].phase.driven = true) (hx : x.trips = true)
    (hc : underCalibration s i = false) : currentResult i x s = trip i s := by
  unfold currentResult
  rw [hdriven, hx, hc]
  rfl

/-- The event of a trip is entered before the barrier changes. -/
theorem trip_eq : trip i s =
    let r := s.barriers[i]
    let entered := eventEntered .barrierOvercurrent (some i.val) none s
    if r.retries < 3 then entered.setBarrier i { r with
      phase := .tripped, drive := .off, retries := r.retries + 1, phaseEnd := some (after s.now 2000) }
    else conditionPresent .barrierStall (some i.val)
      (entered.setBarrier i { r with phase := .stalled, drive := .off, phaseEnd := none }) := by
  have hf := eventEntered_frame .barrierOvercurrent (some i.val) none s
  unfold trip
  dsimp only
  rw [hf.barrier (by decide), hf.now (by decide)]
  rfl

theorem setBarrier_entered (c : FaultCode) (r : BarrierRecord) :
    (eventEntered c (some i.val) none s).setBarrier i r =
      { eventEntered c (some i.val) none s with barriers := s.barriers.set i r } := by
  rw [State.setBarrier, (eventEntered_frame ..).barriers (by decide)]

end

/-- Settles O39: each figure by the lemma of its definition. -/
theorem barrierFiguresAndTrips : Obligations.BarrierFiguresAndTrips := by
  refine ⟨fun e x => ⟨positionOf_valid, positionOf_invalid, rfl⟩,
    fun e c p hs => ⟨provingOf_valid hs c p, provingOf_invalid hs c⟩, fun e now d r => ?_, fun e now red d fresh r => ?_,
    fun e origin position elapsed => ⟨clamp_cast .., clamp_cast ..⟩, fun s i x hcal => ?_⟩
  · intro zone running
    have hzone (p : Nat) : r.openLoopOnly = false ∧ inBrakeZone e d p = true ↔ zone p := by
      cases d with
      | down => exact and_congr_right' (inBrakeZone_down e p)
      | up => exact and_congr_right' (inBrakeZone_up e p)
    refine ⟨fun p hp hz => ?_, fun hz => ?_⟩
    · obtain ⟨hl, hin⟩ := (hzone p).2 hz
      exact BarrierRecord.brakeTest_brakes (r := running) hp hl hin
    · exact BarrierRecord.brakeTest_runs (r := running) fun p hp h => hz p hp ((hzone p).1 h)
  · intro retried limit start
    have hlimit : limit = e.travel d * 3 / 2 := by cases d <;> rfl
    have hmoves (h : d = .up ∨ red = true) :
        r.move e now red d fresh = if e.startMs = 0 then start.toRun e now d else start := by
      rw [BarrierRecord.move_starts now h, BarrierRecord.toStart, ← hlimit]
    refine ⟨fun hd hred => if_pos ⟨hd, hred⟩, fun h hms => (hmoves h).trans (if_neg hms.ne'), fun h hms =>
      (hmoves h).trans (if_pos hms)⟩
  · intro r driven trips entered
    have hdriven : r.phase.driven = true ↔ driven := r.phase.driven_iff
    have htrips : x.trips = true ↔ trips := x.trips_iff
    have htripped (hd : driven) (ht : trips) : currentResult i x s = _ :=
      (currentResult_trips (hdriven.2 hd) (htrips.2 ht) (underCalibration_of_none hcal i)).trans trip_eq
    refine ⟨fun h => currentResult_ignored (by rwa [hdriven, htrips]), fun hd ht hretries => ?_, fun hd ht hretries => ?_⟩
    · refine (htripped hd ht).trans ((if_pos hretries).trans ?_)
      exact setBarrier_entered ..
    · refine (htripped hd ht).trans ((if_neg (Nat.not_lt.2 hretries)).trans ?_)
      exact congrArg _ (setBarrier_entered ..)

end Sys2Proof.Machine
end

section
/-! Lower and raise orders, and the red-proved gate: obligation O38 (R112, R113, R114, R118). -/

namespace Sys2Proof.Machine

set_option Elab.async false

/-- The end of a condition beside a new record of one barrier. -/
theorem conditionEnd_barrier (c : FaultCode) (x : Option Nat) (i : Fin 4) (r : BarrierRecord) (s : State) :
    conditionEnd c x (s.setBarrier i r) = { conditionEnd c x s with barriers := s.barriers.set i r } := by
  rw [conditionEnd_setBarrier, State.setBarrier, (conditionEnd_frame ..).barriers (by decide)]

/-! ## Orders by phase (R112) -/

section
variable {s : State} {i : Fin 4} {d : BarrierEnd}

theorem order_outOfService (hs : (s.barrierEntry i).inService = false) : order i d s = s := by
  simp [order, hs]

section
variable (hs : (s.barrierEntry i).inService = true)
include hs

theorem order_stalled (hp : s.barriers[i].phase = .stalled) : order i d s = beginOrder i d s := by
  simp only [order, hs, hp, Bool.not_true, Bool.false_eq_true, if_false, if_true]

theorem order_same (ht : s.barriers[i].target = some d) (hp : s.barriers[i].phase ≠ .stalled) : order i d s = s := by
  simp only [order, hs, ht, hp, Bool.not_true, Bool.false_eq_true, if_false, if_true]

section
variable (ht : s.barriers[i].target ≠ some d)
include ht

/-- An order for the other end, by the phase. -/
theorem order_other (hp : s.barriers[i].phase ≠ .stalled) : order i d s =
    if s.barriers[i].phase.driven then s.setBarrier i (s.barriers[i].reversed s.now d)
    else if s.barriers[i].phase = .reverse then s.setBarrier i { s.barriers[i] with target := some d }
    else beginOrder i d s := by
  simp only [order, hs, ht, hp, Bool.not_true, Bool.false_eq_true, if_false]
  cases hphase : s.barriers[i].phase with
  | start | run | brake | reverse | idle | held | settle | tripped | stalled | atEnd => simp [BarrierPhase.driven]

theorem order_driven (hp : s.barriers[i].phase.driven = true) :
    order i d s = s.setBarrier i (s.barriers[i].reversed s.now d) := by
  rw [order_other hs ht (fun h => by rw [h] at hp; cases hp), if_pos hp]

theorem order_reverse (hp : s.barriers[i].phase = .reverse) :
    order i d s = s.setBarrier i { s.barriers[i] with target := some d } := by
  rw [order_other hs ht (fun h => by rw [hp] at h; cases h), if_neg (by rw [hp]; exact Bool.false_ne_true), if_pos hp]

end

/-- The order begins its movement. -/
theorem order_begins (h : s.barriers[i].phase = .stalled ∨
    (s.barriers[i].target ≠ some d ∧ s.barriers[i].phase.driven = false ∧ s.barriers[i].phase ≠ .reverse)) :
    order i d s = beginOrder i d s := by
  by_cases hp : s.barriers[i].phase = .stalled
  · exact order_stalled hs hp
  · obtain ⟨ht, hdriven, hreverse⟩ := h.resolve_left hp
    rw [order_other hs ht hp, if_neg (by rw [hdriven]; exact Bool.false_ne_true), if_neg hreverse]

end

theorem beginOrder_proved (h : s.barriers[i].provedAt d = true) : beginOrder i d s =
    conditionEnd .barrierTimeout (some i.val) { conditionEnd .barrierStall (some i.val) s with
      barriers := s.barriers.set i (s.barriers[i].begun d).ended } := by
  rw [beginOrder_eq, if_pos h, conditionEnd_barrier]

theorem beginOrder_moves (h : s.barriers[i].provedAt d = false) : beginOrder i d s =
    { conditionEnd .barrierStall (some i.val) s with
      barriers := s.barriers.set i ((s.barriers[i].begun d).move (s.barrierEntry i) s.now (sideRed s i) d true) } := by
  rw [beginOrder_eq, if_neg (by rw [h]; exact Bool.false_ne_true), conditionEnd_barrier]

end

/-- Each order of a list reads the roles of the tables as they stand. -/
theorem orderRole_eq (role : BarrierRole) (d : BarrierEnd) (s : State) : orderRole role d s = forEach 4 (fun i u =>
    if s.tm.tables.barrier[i].role = role then order i d u else u) s := by
  refine forEach_congr (Q := fun _ u => u.tm.tables = s.tm.tables) (fun i u hu => ?_) (fun _ j u _ hu => ?_) fun _ => rfl
  · rw [State.barrierEntry, hu]
  · split
    · exact ((order_frame j d u).tables (by decide)).trans hu
    · exact hu

/-! ## The gate (R113) -/

section
variable {e : BarrierEntry} {now : Time} {r : BarrierRecord}

theorem BarrierRecord.gated_lost (hd : r.phase.driven = true) (ht : r.target = some .down) :
    r.gated e now false = { r.held with runOrigin := none, runStart := none } := by
  simp [BarrierRecord.gated, hd, ht]

theorem BarrierRecord.gated_lost_other (h : r.phase.driven = false ∨ r.target ≠ some .down) :
    r.gated e now false = r := by
  simp only [BarrierRecord.gated, Bool.false_eq_true, if_false, Bool.and_eq_true, beq_iff_eq]
  refine if_neg ?_
  rintro ⟨hd, ht⟩
  rcases h with h | h
  · rw [hd] at h
    cases h
  · exact h ht

theorem BarrierRecord.gated_gained (hp : r.phase = .held) : r.gated e now true = r.toStart e now .down true := by
  simp [BarrierRecord.gated, hp]

theorem BarrierRecord.gated_gained_other (hp : r.phase ≠ .held) : r.gated e now true = r := by
  simp [BarrierRecord.gated, hp]

end

/-- Settles O38: the orders by the lemma of their case, and the gate by what it makes of one record. -/
theorem ordersAndTheGate : Obligations.OrdersAndTheGate := by
  intro s i d table r red sets driven fresh ended held begun
  have hdriven : r.phase.driven = true ↔ driven := r.phase.driven_iff
  have hnotDriven : r.phase.driven = false ↔ ¬ driven := by rw [← hdriven, Bool.not_eq_true]
  have hbegun (b : BarrierRecord) (d : BarrierEnd) : b.toStart table s.now d true = begun b d := by cases d <;> rfl
  have hbegins (hs : table.inService = true)
      (h : r.phase = .stalled ∨ (r.target ≠ some d ∧ ¬ driven ∧ r.phase ≠ .reverse)) :
      order i d s = beginOrder i d s := order_begins hs (by rwa [hnotDriven])
  refine ⟨order_outOfService, order_same, fun hs ht hp => order_driven hs ht (hdriven.2 hp), order_reverse, fun hs h =>
    ⟨fun hproved => (hbegins hs h).trans (beginOrder_proved hproved), fun hopen hd hred => ?_, fun hopen hfree => ?_⟩,
    fun role => orderRole_eq role d s, fun side hcal hs hside => ?_⟩
  · refine (hbegins hs h).trans ((beginOrder_moves hopen).trans (congrArg (sets · ended) ?_))
    exact if_pos ⟨hd, hred⟩
  · refine (hbegins hs h).trans ((beginOrder_moves hopen).trans (congrArg (sets · ended) ?_))
    exact (BarrierRecord.move_starts s.now hfree).trans (hbegun fresh d)
  · have hgates : gates side s i = true := by
      rw [gates, underCalibration_of_none hcal, Bool.not_false, Bool.and_true, Bool.and_eq_true, beq_iff_eq]
      exact ⟨hs, hside⟩
    have hgated (red : Bool) : (gateSide side red s).barriers[i] = r.gated table s.now red :=
      (gateSide_barrier side red s i).trans (if_pos hgates)
    refine ⟨fun hd ht => (hgated false).trans (BarrierRecord.gated_lost (hdriven.2 hd) ht), fun h => (hgated false).trans ?_,
      fun hp => (hgated true).trans ((BarrierRecord.gated_gained hp).trans (hbegun r .down)),
      fun hp => (hgated true).trans (BarrierRecord.gated_gained_other hp)⟩
    exact BarrierRecord.gated_lost_other (by rwa [hnotDriven])

end Sys2Proof.Machine
end

section
/-! A result of the angle entry, proving and disagreement: obligation O40 (R107 to R110, R112, R114 to R117). -/

namespace Sys2Proof.Machine

set_option Elab.async false

/-! ## FEEDBACK_LOST (R109) -/

theorem becameActive_setBarrier (c : FaultCode) (i : Fin 4) (r : BarrierRecord) (s : State) :
    becameActive c (s.setBarrier i r) = (becameActive c s).setBarrier i r := by
  unfold becameActive markNewFault
  rw [State.setBarrier_tm]
  split <;> split <;> rfl

theorem conditionPresent_setBarrier (c : FaultCode) (x : Option Nat) (i : Fin 4) (r : BarrierRecord) (s : State) :
    conditionPresent c x (s.setBarrier i r) = (conditionPresent c x s).setBarrier i r := by
  have hset (f : FaultRecorder) : becameActive c { s.setBarrier i r with faults := f } =
      (becameActive c { s with faults := f }).setBarrier i r := becameActive_setBarrier c i r { s with faults := f }
  unfold conditionPresent
  rw [State.setBarrier_faults, State.setBarrier_now]
  cases findRecord s.faults.records c x with
  | some q =>
    dsimp only
    cases q.state with
    | latched => exact hset _
    | active | acceptedActive => rfl
  | none =>
    dsimp only
    split
    · exact hset _
    · rfl

/-- What a stored angle result makes of FEEDBACK_LOST. -/
def feedbackJudged (i : Fin 4) (overrange : Bool) (s : State) : State :=
  if (s.barrierEntry i).inService && overrange != s.barriers[i].feedbackLost then
    if overrange then conditionPresent .feedbackLost (some i.val) s else conditionEnd .feedbackLost (some i.val) s
  else s

/-- The flag feedbackLost of the record after a stored angle result. -/
def feedbackFlag (i : Fin 4) (overrange : Bool) (s : State) : Bool :=
  if (s.barrierEntry i).inService then overrange else s.barriers[i].feedbackLost

theorem feedbackJudged_frame (i : Fin 4) (overrange : Bool) (s : State) :
    Frame [.faults, .newFault, .handed] s (feedbackJudged i overrange s) :=
  .ite (.ite ((conditionPresent_frame ..).mono (by decide)) ((conditionEnd_frame ..).mono (by decide))) (.refl _ s)

theorem judgeFeedback_eq (i : Fin 4) (overrange : Bool) (s : State) :
    (if (s.barrierEntry i).inService then judgeFeedback i overrange s else s) =
      (feedbackJudged i overrange s).setBarrier i { s.barriers[i] with feedbackLost := feedbackFlag i overrange s } := by
  have hself (t : State) (ht : t.barriers = s.barriers) (b : Bool) (hb : s.barriers[i].feedbackLost = b) :
      t = t.setBarrier i { s.barriers[i] with feedbackLost := b } := by
    subst hb
    have hset : s.barriers.set i s.barriers[i] = s.barriers := by simp only [Fin.getElem_fin, Vector.set_getElem_self]
    show t = { t with barriers := t.barriers.set i s.barriers[i] }
    rw [ht, hset, ← ht]
  unfold feedbackJudged feedbackFlag judgeFeedback
  cases hs : (s.barrierEntry i).inService with
  | false => exact hself s rfl _ rfl
  | true =>
    dsimp only
    cases hl : s.barriers[i].feedbackLost <;> cases overrange
    · exact hself s rfl _ hl
    · exact conditionPresent_setBarrier ..
    · exact conditionEnd_setBarrier ..
    · exact hself s rfl _ hl

/-- A result of the angle entry of a barrier that is not under calibration: FEEDBACK_LOST, the new position, the movement
it steers, and the judgements on it. -/
theorem angleResult_eq {s : State} {i : Fin 4} (hc : underCalibration s i = false) (x : ScanResult) :
    let lost := feedbackFlag i x.overrange s
    let p := positionOf (s.barrierEntry i) (some x)
    angleResult i x s = judgeBarrier i ((feedbackJudged i x.overrange s).setBarrier i
      (BarrierRecord.steer (s.barrierEntry i) s.now s.barriers[i].position
        { s.barriers[i] with position := p, feedbackLost := lost })) := by
  intro lost p
  have hf := feedbackJudged_frame i x.overrange s
  have hcal (r : BarrierRecord) : underCalibration ((feedbackJudged i x.overrange s).setBarrier i r) i = false :=
    (hf.underCalibration (by decide) i).trans hc
  unfold angleResult
  dsimp only
  rw [judgeFeedback_eq, hcal, State.setBarrier_self, State.setBarrier_setBarrier, State.setBarrier_now, hf.now (by decide)]
  rfl

/-! ## Proving (R108, R112, R117) -/

/-- The record with proved_down and proved_up formed again. -/
def formedAt (s : State) (i : Fin 4) : BarrierRecord :=
  { s.barriers[i] with
    provedDown := (provingOf (s.barrierEntry i) s.contacts[i] s.barriers[i].position).1
    provedUp := (provingOf (s.barrierEntry i) s.contacts[i] s.barriers[i].position).2 }

section
variable {s : State} {i : Fin 4}

theorem judgeProving_settle {d : BarrierEnd} (ht : s.barriers[i].target = some d) (hp : s.barriers[i].phase = .settle) :
    judgeProving i s = if (formedAt s i).provedAt d then
      conditionEnd .barrierTimeout (some i.val) (s.setBarrier i (formedAt s i).ended) else s.setBarrier i (formedAt s i) := by
  have hformed : judgeProving i s = if ((s.setBarrier i (formedAt s i)).barriers[i]).provedAt d then
      enterAtEnd i (s.setBarrier i (formedAt s i)) else s.setBarrier i (formedAt s i) := by
    unfold judgeProving formedAt
    dsimp only
    rw [State.setBarrier_self, hp, ht]
  rw [hformed, enterAtEnd_setBarrier, State.setBarrier_self]

theorem judgeProving_atEnd {d : BarrierEnd} (ht : s.barriers[i].target = some d) (hp : s.barriers[i].phase = .atEnd) :
    judgeProving i s = if (formedAt s i).provedAt d then s.setBarrier i (formedAt s i) else
      s.setBarrier i ((formedAt s i).move (s.barrierEntry i) s.now (sideRed s i) d true) := by
  have hformed : judgeProving i s = if ((s.setBarrier i (formedAt s i)).barriers[i]).provedAt d then
      s.setBarrier i (formedAt s i) else startMove i d true (s.setBarrier i (formedAt s i)) := by
    unfold judgeProving formedAt
    dsimp only
    rw [State.setBarrier_self, hp, ht]
  rw [hformed, startMove_setBarrier, State.setBarrier_self]

theorem judgeProving_still
    (h : (s.barriers[i].phase ≠ .settle ∧ s.barriers[i].phase ≠ .atEnd) ∨ s.barriers[i].target = none) :
    judgeProving i s = s.setBarrier i (formedAt s i) := by
  unfold judgeProving formedAt
  dsimp only
  rw [State.setBarrier_self]
  dsimp only
  split
  next hp ht =>
    rcases h with ⟨hsettle, -⟩ | hn
    · exact absurd hp hsettle
    · cases hn.symm.trans ht
  next hp ht =>
    rcases h with ⟨-, hend⟩ | hn
    · exact absurd hp hend
    · cases hn.symm.trans ht
  next => rfl

end

/-! ## Disagreement (R110) -/

theorem disagreementOf_iff (c : Contacts) (position : Option Nat) : disagreementOf c position = true ↔
    (c.up = true ∧ c.down = true) ∨ (c.down = true ∧ ∃ p, position = some p ∧ 200 < p) ∨
      (c.up = true ∧ ∃ p, position = some p ∧ p < 800) := by
  cases position with
  | none => simp [disagreementOf]
  | some p =>
    simp only [disagreementOf, Bool.or_eq_true, Bool.and_eq_true, decide_eq_true_iff, Option.some.injEq, exists_eq_left']
    rfl

section
variable {s : State} {i : Fin 4}

theorem judgeDisagreement_not (h : (s.barrierEntry i).inService = false ∨ underCalibration s i = true) :
    judgeDisagreement i s = s := by
  refine if_pos ?_
  rw [Bool.or_eq_true, Bool.not_eq_true']
  exact h

section
variable (hs : (s.barrierEntry i).inService = true) (hc : underCalibration s i = false)
include hs hc

theorem judgeDisagreement_begins (hd : disagreementOf s.contacts[i] s.barriers[i].position = true)
    (hr : s.barriers[i].disagreeing = false) : judgeDisagreement i s =
      s.setBarrier i { s.barriers[i] with disagreeing := true, disagreeEnd := some (after s.now 1000) } := by
  simp only [judgeDisagreement, hs, hc, hd, hr, Bool.not_true, Bool.or_self, Bool.false_eq_true, if_false]
  rfl

theorem judgeDisagreement_ends (hd : disagreementOf s.contacts[i] s.barriers[i].position = false)
    (hr : s.barriers[i].disagreeing = true) : judgeDisagreement i s = conditionEnd .barrierDisagree (some i.val)
      (s.setBarrier i { s.barriers[i] with disagreeing := false, disagreeEnd := none }) := by
  simp only [judgeDisagreement, hs, hc, hd, hr, Bool.not_true, Bool.or_self, Bool.false_eq_true, if_false]

theorem judgeDisagreement_same (h : disagreementOf s.contacts[i] s.barriers[i].position = s.barriers[i].disagreeing) :
    judgeDisagreement i s = s := by
  simp only [judgeDisagreement, hs, hc, h, Bool.not_true, Bool.or_self, Bool.false_eq_true, if_false]
  split
  · simp_all
  · simp_all
  · rfl
  · rfl

end

end

theorem feedbackJudged_unique {s judged : State} {i : Fin 4} {overrange : Bool}
    (hpresent : (s.barrierEntry i).inService = true → overrange = true → s.barriers[i].feedbackLost = false →
      judged = conditionPresent .feedbackLost (some i.val) s)
    (hended : (s.barrierEntry i).inService = true → overrange = false → s.barriers[i].feedbackLost = true →
      judged = conditionEnd .feedbackLost (some i.val) s)
    (hsame : (s.barrierEntry i).inService = false ∨ overrange = s.barriers[i].feedbackLost → judged = s) :
    judged = feedbackJudged i overrange s := by
  unfold feedbackJudged
  cases hs : (s.barrierEntry i).inService with
  | false => exact hsame (.inl hs)
  | true =>
    cases hl : s.barriers[i].feedbackLost <;> cases overrange
    · exact hsame (.inr hl.symm)
    · exact hpresent hs rfl hl
    · exact hended hs rfl hl
    · exact hsame (.inr hl.symm)

/-- Settles O40: the result by the lemma of the movement it steers, and the judgements by theirs. -/
theorem angleResultsMoveTheBarrier : Obligations.AngleResultsMoveTheBarrier := by
  refine ⟨fun s i x hfree => ?_, fun s i => ?_, fun _ _ => rfl, fun s i => ?_⟩
  · intro e r p at_ judged hpresent hended hsame lost becomes
    obtain rfl : judged = feedbackJudged i x.overrange s := feedbackJudged_unique hpresent hended hsame
    let taken : BarrierRecord := { r with position := p, feedbackLost := lost }
    have hbecomes {r' : BarrierRecord} (h : taken.steer e s.now r.position = { r' with feedbackLost := lost }) :
        becomes r' := by
      have hset (r : BarrierRecord) : (feedbackJudged i x.overrange s).setBarrier i r =
          { feedbackJudged i x.overrange s with barriers := s.barriers.set i r } := by
        rw [State.setBarrier, (feedbackJudged_frame ..).barriers (by decide)]
      refine (angleResult_eq ((underCalibration_eq_false_iff s i).2 hfree) x).trans (congrArg (judgeBarrier i) ?_)
      exact (hset _).trans (congrArg (fun r => { feedbackJudged i x.overrange s with barriers := s.barriers.set i r }) h)
    refine ⟨fun ht => hbecomes (BarrierRecord.steer_untargeted (r := taken) ht ..), fun d ht => ?_⟩
    intro zone rated
    have hzone (q : Nat) : inBrakeZone e d q = true ↔ zone q := by
      cases d with
      | down => exact inBrakeZone_down e q
      | up => exact inBrakeZone_up e q
    have hnotZone (q : Nat) : inBrakeZone e d q = false ↔ ¬ zone q := by rw [← hzone, Bool.not_eq_true]
    have hother (hrun : r.phase ≠ .run) (hbrake : r.phase ≠ .brake) :=
      BarrierRecord.steer_other (r := taken) ht e s.now r.position hrun hbrake
    have hstill (h : (taken.underway && r.position.isSome && taken.position.isNone) = false) (hrun : r.phase ≠ .run)
        (hbrake : r.phase ≠ .brake) : becomes at_ :=
      hbecomes ((hother hrun hbrake).trans (if_neg (by rw [h]; exact Bool.false_ne_true)))
    refine ⟨fun hp hwas hmoving => ?_, fun hp hwas hrun hbrake hunder => ?_, fun hp hwas => ?_, fun hbrake hp => ?_,
      fun hrun hbrake hp => hstill ?_ hrun hbrake, fun hrun hbrake hunder => hstill ?_ hrun hbrake,
      fun q hrun hp => ⟨fun hloop hz => ?_, fun hloop hz hclosed o t0 ho ht0 => ?_, fun h => ?_⟩⟩
    · refine hbecomes ((BarrierRecord.steer_lost (r := taken) ht e s.now r.position hmoving hp).trans (if_pos ?_))
      exact Option.isSome_iff_ne_none.2 hwas
    · refine hbecomes ((hother hrun hbrake).trans (if_pos ?_))
      have hnone : taken.position.isNone = true := Option.isNone_iff_eq_none.2 hp
      rw [hnone, Option.isSome_iff_ne_none.2 hwas, Bool.and_true, Bool.and_true]
      exact hunder
    · by_cases hmoving : r.phase = .run ∨ r.phase = .brake
      · refine hbecomes ((BarrierRecord.steer_lost (r := taken) ht e s.now r.position hmoving hp).trans (if_neg ?_))
        rw [hwas]
        exact Bool.false_ne_true
      · obtain ⟨hrun, hbrake⟩ := not_or.1 hmoving
        refine hstill ?_ hrun hbrake
        rw [hwas, Option.isSome_none, Bool.and_false, Bool.false_and]
    · obtain ⟨q, hq⟩ := Option.ne_none_iff_exists'.1 hp
      exact hbecomes (BarrierRecord.steer_brake (r := taken) ht e s.now r.position hbrake hq)
    · have hsome : taken.position.isNone = false := Option.isNone_eq_false_iff.2 (Option.isSome_iff_ne_none.2 hp)
      rw [hsome, Bool.and_false]
    · have hnot : taken.underway = false := hunder
      rw [hnot, Bool.false_and, Bool.false_and]
    · exact hbecomes (BarrierRecord.steer_brakes (r := taken) ht e s.now r.position hrun hp ⟨hloop, (hzone q).2 hz⟩)
    · exact hbecomes (BarrierRecord.steer_regulates (r := taken) ht e s.now r.position hrun hp hloop ((hnotZone q).2 hz)
        hclosed ho ht0)
    · refine hbecomes (BarrierRecord.steer_runs (r := taken) ht e s.now r.position hrun hp ?_ ?_)
      · exact h.imp id fun h => (hnotZone q).2 h.1
      · exact h.imp id fun h => h.2
  · intro e r red proved formed provedAt sets
    have hproved (d : BarrierEnd) : (formedAt s i).provedAt d = provedAt d := by cases d <;> rfl
    refine ⟨fun d ht hp => ?_, fun d ht hp => ?_, judgeProving_still⟩
    · have hsettle := judgeProving_settle ht hp
      rw [hproved] at hsettle
      exact ⟨fun h => hsettle.trans (if_pos h), fun h => hsettle.trans (if_neg (by rw [h]; exact Bool.false_ne_true))⟩
    · have hend := judgeProving_atEnd ht hp
      rw [hproved] at hend
      exact ⟨fun h => hend.trans (if_neg (by rw [h]; exact Bool.false_ne_true)), fun h => hend.trans (if_pos h)⟩
  · intro e r c disagrees sets
    have hdis : disagreementOf c r.position = true ↔ disagrees := disagreementOf_iff c r.position
    have hnot : disagreementOf c r.position = false ↔ ¬ disagrees := by rw [← hdis, Bool.not_eq_true]
    refine ⟨fun h => judgeDisagreement_not (h.imp id ?_), fun hs hfree => ?_⟩
    · rintro ⟨k, hk, hi⟩
      exact underCalibration_eq_true hk hi
    · have hc := (underCalibration_eq_false_iff s i).2 hfree
      refine ⟨fun hd hr => judgeDisagreement_begins hs hc (hdis.2 hd) hr,
        fun hd hr => judgeDisagreement_ends hs hc (hnot.2 hd) hr,
        fun h => judgeDisagreement_same hs hc (Bool.eq_iff_iff.2 (hdis.trans h))⟩

end Sys2Proof.Machine
end

section
/-! TABLE_WRITE: obligation O17 (R105, R107, R108, R110, R128, R176, R177, R178). -/

namespace Sys2Proof.Machine

set_option Elab.async false

/-! ## The entries of a payload (R177) -/

theorem length_flatten_of_length {size : Nat} : ∀ {es : List (List Byte)}, (∀ e ∈ es, e.length = size) →
    es.flatten.length = es.length * size
  | [], _ => by simp
  | e :: es, h => by
    rw [List.flatten_cons, List.length_append, length_flatten_of_length fun e' he' => h e' (List.mem_cons_of_mem e he'),
      h e List.mem_cons_self, List.length_cons, Nat.succ_mul, Nat.add_comm]

/-- Whole entries of one size are cut from the payload as they stand in it. -/
theorem cutEntries_flatten {size : Nat} : ∀ {es : List (List Byte)}, (∀ e ∈ es, e.length = size) →
    cutEntries size es.length es.flatten = es
  | [], _ => rfl
  | e :: es, h => by
    have he : e.length = size := h e List.mem_cons_self
    have hroom : ¬ (e ++ es.flatten).length < size := by rw [List.length_append]; omega
    rw [List.length_cons, List.flatten_cons, cutEntries, if_neg hroom, ← he, List.take_left, List.drop_left, he,
      cutEntries_flatten fun e' he' => h e' (List.mem_cons_of_mem e he')]

theorem TableId.entryBytes_pos (t : TableId) : 0 < t.entryBytes := by cases t <;> decide

theorem TableId.fromId_none {id : Nat} (h : 11 ≤ id) : TableId.fromId id = none := List.getElem?_eq_none h

/-! ## The checks (R176) -/

section
variable {q : QueuedCommand} {s : State}

theorem ownTableWrite_refused
    (h : s.crossing.state ≠ .outOfUse ∨ s.tm.saveRun = .running ∨ s.cal.run = .running) :
    ownTableWrite q s = refuse .refusedState s := by
  unfold ownTableWrite
  dsimp only
  split
  · rfl
  next hout =>
    have hs : s.crossing.state = .outOfUse := (outOfUse_iff s).1 (by simpa using hout)
    refine if_pos ?_
    rw [Bool.or_eq_true, beq_iff_eq, beq_iff_eq]
    exact h.resolve_left (absurd hs)

section
variable (hs : s.crossing.state = .outOfUse) (hsave : s.tm.saveRun ≠ .running) (hcal : s.cal.run ≠ .running)
include hs hsave hcal

theorem ownTableWrite_unknown (h : TableId.fromId (q.arg 0) = none) : ownTableWrite q s = refuse .refusedArgument s := by
  simp [ownTableWrite, (outOfUse_iff s).2 hs, hsave, hcal, h]

section
variable {t : TableId} (ht : TableId.fromId (q.arg 0) = some t)
include ht

theorem ownTableWrite_unfit (h : t.entries ≤ q.arg 1 ∨ q.payload.drop 4 = [] ∨
    (q.payload.drop 4).length % t.entryBytes ≠ 0) : ownTableWrite q s = refuse .refusedArgument s := by
  have hrun : ¬ (s.tm.saveRun == .running || s.cal.run == .running) = true := by simp [hsave, hcal]
  unfold ownTableWrite
  dsimp only
  rw [(outOfUse_iff s).2 hs, if_neg (by decide), if_neg hrun, ht]
  dsimp only
  split
  · rfl
  next hindex =>
    refine if_pos ?_
    rw [Bool.or_eq_true, List.isEmpty_iff, bne_iff_ne]
    exact h.resolve_left hindex

theorem ownTableWrite_writes {entries : List (List Byte)} (hne : entries ≠ [])
    (hsize : ∀ e ∈ entries, e.length = t.entryBytes) (hdata : q.payload.drop 4 = entries.flatten)
    (hindex : q.arg 1 < t.entries) : ownTableWrite q s =
      { state := writeTable t (q.arg 1) entries s
        code := if (storeEntries t (q.arg 1) entries s.tm.tables).clamped then .clamped else .done
        data := [byte (min entries.length (t.entries - q.arg 1))] } := by
  have hrun : ¬ (s.tm.saveRun == .running || s.cal.run == .running) = true := by simp [hsave, hcal]
  have hpos := t.entryBytes_pos
  have hlength : entries.flatten.length = entries.length * t.entryBytes := length_flatten_of_length hsize
  have hsome : entries.flatten ≠ [] := by
    intro hnil
    rw [hnil, List.length_nil] at hlength
    exact hne (List.length_eq_zero_iff.1 ((Nat.mul_eq_zero.1 hlength.symm).resolve_right hpos.ne'))
  have hfits : ¬ (entries.flatten.isEmpty || entries.flatten.length % t.entryBytes != 0) = true := by
    simp [hlength, List.isEmpty_iff, hsome]
  have hsent : entries.flatten.length / t.entryBytes = entries.length := by rw [hlength, Nat.mul_div_cancel _ hpos]
  unfold ownTableWrite
  dsimp only
  rw [(outOfUse_iff s).2 hs, if_neg (by decide), if_neg hrun, ht]
  dsimp only
  rw [if_neg (Nat.not_le.2 hindex), hdata, if_neg hfits, hsent, cutEntries_flatten hsize]

end

end

end

/-! ## What a write tells the scanner (R128) -/

/-- The results and the block of the scanner replaced. -/
def State.withBlock (s : State) (results : Vector (Option ScanResult) 24) (blockStart : Option Time) : State :=
  { s with scan := { s.scan with results := results, blockStart := blockStart } }

/-- The written entries of a list lose their results, and a block in progress for one of them is abandoned. -/
theorem scanWritten_foldl (w : Fin 24 → Bool) (s : State) (l : List (Fin 24)) :
    ∀ (rs : Vector (Option ScanResult) 24) (b : Option Time),
      l.foldl (fun u i => if w i then scanWritten i u else u) (s.withBlock rs b) =
        s.withBlock (Vector.ofFn fun i => if i ∈ l ∧ w i then none else rs[i])
          (if s.scan.position.any fun p => decide (p ∈ l) && w p then none else b) := by
  induction l with
  | nil =>
    intro rs b
    simp
  | cons j l ih =>
    intro rs b
    rw [List.foldl_cons]
    cases hj : w j with
    | false =>
      rw [if_neg Bool.false_ne_true, ih]
      have hmem (i : Fin 24) : i ∈ j :: l ∧ w i ↔ i ∈ l ∧ w i := by
        rw [List.mem_cons]
        refine and_congr_left fun hi => or_iff_right ?_
        rintro rfl
        rw [hj] at hi
        cases hi
      have hany (i : Fin 24) : (decide (i ∈ j :: l) && w i) = (decide (i ∈ l) && w i) := by
        rw [Bool.eq_iff_iff, Bool.and_eq_true, Bool.and_eq_true, decide_eq_true_iff, decide_eq_true_iff, hmem]
      simp only [hmem, hany]
    | true =>
      have hstep : scanWritten j (s.withBlock rs b) =
          s.withBlock (rs.set j none) (if s.scan.position = some j then none else b) := rfl
      rw [if_pos rfl, hstep, ih]
      refine congrArg₂ s.withBlock ?_ ?_
      · refine Vector.ext fun k hk => ?_
        rw [Vector.getElem_ofFn, Vector.getElem_ofFn]
        by_cases hkj : (⟨k, hk⟩ : Fin 24) = j
        · subst hkj
          simp [hj]
        · have hne : j.val ≠ k := fun h => hkj (Fin.ext h.symm)
          simp [hkj, Vector.getElem_set_ne _ _ hne]
      · cases s.scan.position with
        | none => simp
        | some p =>
          by_cases hp : p = j
          · subst hp
            simp [hj]
          · simp [hp]

/-- The written entries are absent, and a block in progress for one of them is abandoned (R128). -/
theorem scanWritten_all (w : Fin 24 → Bool) (s : State) :
    forEach 24 (fun i u => if w i then scanWritten i u else u) s = { s with scan := { s.scan with
      results := Vector.ofFn fun i => if w i then none else s.scan.results[i]
      blockStart := if s.scan.position.any w then none else s.scan.blockStart } } := by
  have h := scanWritten_foldl w s (List.finRange 24) s.scan.results s.scan.blockStart
  simp only [List.mem_finRange, true_and, decide_true, Bool.true_and] at h
  exact h

/-! ## What a write tells the barriers (R105, R107) -/

theorem scanResult_eq (s : State) (n : Nat) :
    (s.scan.results[n]?).getD none = if h : n < 24 then s.scan.results[n] else none := by
  by_cases h : n < 24
  · rw [dif_pos h, Vector.getElem?_eq_getElem h]
    rfl
  · rw [dif_neg h, Vector.getElem?_eq_none (Nat.not_lt.1 h)]
    rfl

/-- A position that no longer serves is invalid, and the judgements are made on it (R107, R108, R110). -/
theorem rejudgePosition_eq (i : Fin 4) (s : State) : rejudgePosition i s =
    judgeBarrier i (if (positionOf (s.barrierEntry i)
        (if h : (s.barrierEntry i).angleEntry < 24 then s.scan.results[(s.barrierEntry i).angleEntry] else none)).isSome then s
      else { s with barriers := s.barriers.set i { s.barriers[i] with position := none } }) := by
  have hself : s.setBarrier i s.barriers[i] = s := by
    rw [State.setBarrier]
    simp only [Fin.getElem_fin, Vector.set_getElem_self]
  unfold rejudgePosition
  dsimp only
  rw [scanResult_eq]
  generalize (positionOf (s.barrierEntry i) _).isSome = serves
  cases serves with
  | true => rw [if_pos rfl, if_pos rfl, hself]
  | false => rfl

/-- The barriers that a write has taken out of service, by the tables as they then stand. -/
theorem takenOut_all (before : Tables) (s : State) :
    forEach 4 (fun i u => if before.barrier[i].inService && !(u.barrierEntry i).inService then takeBarrierOut i u else u) s =
      forEach 4 (fun i u =>
        if before.barrier[i].inService && !s.tm.tables.barrier[i].inService then takeBarrierOut i u else u) s := by
  refine forEach_congr (Q := fun _ u => u.tm.tables = s.tm.tables) (fun i u hu => ?_) (fun _ j u _ hu => ?_) fun _ => rfl
  · rw [State.barrierEntry, hu]
  · split
    · exact ((takeBarrierOut_frame j u).tables (by decide)).trans hu
    · exact hu

/-- Settles O17: the command by its own work in each case, and what a write tells the blocks by the table written. -/
theorem tableIsWritten : Obligations.TableIsWritten := by
  refine ⟨fun s q dt id first bytes hq => ?_, fun t first n before s => ?_⟩
  · intro replied
    have hexec {reply : ReplyCode} {data : List Byte} {u : State}
        (hown : ownTableWrite q (s.advance dt) = { state := u, code := reply, data := data }) :
        exec (.tableWrite dt) s = replied reply data u := by
      refine congrArg Host.Outcome.next (hq.event_eq (c := .tableWrite) rfl rfl ?_ hown)
      exact decide_eq_true (Nat.le_add_left 4 bytes.length)
    have hid : q.arg 0 = id.toNat := hq.1.arg_eq 0
    have hfirst : q.arg 1 = first.toNat := hq.1.arg_eq 1
    have hbytes : q.payload.drop 4 = bytes := by
      obtain ⟨-, -, -, -, -, -, tag, hpayload⟩ := hq.1
      rw [hpayload]
      rfl
    refine ⟨fun h => hexec (ownTableWrite_refused (s := s.advance dt) h), fun hs hsave hcal =>
      ⟨fun h => ?_, fun t ht => ?_⟩⟩
    · exact hexec (ownTableWrite_unknown (s := s.advance dt) hs hsave hcal (by rw [hid]; exact TableId.fromId_none h))
    · have htable : TableId.fromId (q.arg 0) = some t := by rw [hid]; exact ht
      refine ⟨fun h => hexec (ownTableWrite_unfit (s := s.advance dt) hs hsave hcal htable (by rwa [hfirst, hbytes])),
        fun entries hne hsize hflat hindex => ?_⟩
      have hwrites := ownTableWrite_writes (s := s.advance dt) hs hsave hcal htable hne hsize (hbytes.trans hflat)
        (by rwa [hfirst])
      rw [hfirst] at hwrites
      exact hexec hwrites
  · intro told written positions takenOut
    have hpositions (u : State) : forEach 4 rejudgePosition u = positions u :=
      congrArg (forEach 4 · u) (funext fun i => funext fun u => rejudgePosition_eq i u)
    refine ⟨fun ht => ?_, fun ht => ?_, fun hscan hbarrier => ?_⟩
    · subst ht
      have hwritten (i : Nat) : writtenAt first n i = written i := (Bool.decide_and ..).symm
      refine (hpositions _).trans (congrArg positions ((scanWritten_all (fun i => writtenAt first n i.val) s).trans ?_))
      simp only [hwritten]
    · subst ht
      exact (hpositions _).trans (congrArg positions (takenOut_all before s))
    · cases t with
      | scan => exact absurd rfl hscan
      | barrier => exact absurd rfl hbarrier
      | node | params | dpt | sectionTable | approach | closing | opening | lamp | reportMask => rfl

end Sys2Proof.Machine
end

section
/-! The stages of a calibration: obligation O47 (R110, R124, R125). -/

namespace Sys2Proof.Machine

set_option Elab.async false

/-! ## A stage begins (R124) -/

/-- The calibration of the barrier in progress moves on, and its record with it. -/
def State.withStage (s : State) (c : CalBarrier) (r : BarrierRecord) : State :=
  { s with cal := { s.cal with current := some c }, barriers := s.barriers.set c.barrier r }

/-- A calibration at the beginning of a reading. -/
def CalBarrier.reading (c : CalBarrier) (stage : CalStage) (now : Time) : CalBarrier :=
  { c with stage := stage, since := now, driveStart := none, limit := none, codes := [] }

/-- A calibration at the beginning of a movement. -/
def CalBarrier.moving (c : CalBarrier) (stage : CalStage) (now : Time) : CalBarrier :=
  { c with stage := stage, since := now, driveStart := some now, limit := some (after now 30000), codes := [] }

/-- A barrier driven by a calibration toward an end. -/
def BarrierRecord.calibrating (r : BarrierRecord) (e : BarrierEntry) (d : BarrierEnd) : BarrierRecord :=
  { r.stopped with target := some d, phase := .run, drive := .on d e.ratedDuty }

section
variable (c : CalBarrier) (stage : CalStage) (s : State)

theorem beginReading_eq : beginReading c stage s = s.withStage (c.reading stage s.now) s.barriers[c.barrier].stopped := rfl

theorem beginMovement_eq (d : BarrierEnd) : beginMovement c stage d s = conditionEnd .barrierStall (some c.barrier.val)
    (s.withStage (c.moving stage s.now) (s.barriers[c.barrier].calibrating (s.barrierEntry c.barrier) d)) := rfl

end

/-! ## Contacts (R124) -/

section
variable {s : State} {c : CalBarrier} (hc : s.cal.current = some c)
include hc

theorem calibrationContact_seekUp (hs : c.stage = .seekUp) :
    calibrationContact c.barrier .up s = beginReading c .readUp s := by
  simp only [calibrationContact, hc, hs, ne_eq, not_true, if_false]

section
variable {t0 : Time} (ht : c.driveStart = some t0)
include ht

theorem calibrationContact_lower (hs : c.stage = .lower) : calibrationContact c.barrier .down s =
    beginReading { c with travelDown := (s.now - t0).toNat } .readDown s := by
  simp only [calibrationContact, hc, hs, ht, ne_eq, not_true, if_false, Option.getD_some]

theorem calibrationContact_raise (hs : c.stage = .raise) : calibrationContact c.barrier .up s =
    judgeCalibration c (s.now - t0).toNat (stopBarrier c.barrier s) := by
  simp only [calibrationContact, hc, hs, ht, ne_eq, not_true, if_false, Option.getD_some]

end

/-! ## Angle and current results (R124) -/

theorem calibrationAngle_early {x : ScanResult} (hx : reached x.startTime c.since = false) :
    calibrationAngle c.barrier x s = s := by
  simp only [calibrationAngle, hc]
  exact if_pos (.inr hx)

/-- A result that a reading stage looks at. -/
theorem calibrationAngle_reads {x : ScanResult} (hx : reached x.startTime c.since = true)
    (hs : c.stage = .readUp ∨ c.stage = .readDown) : calibrationAngle c.barrier x s =
      let codes := c.codes ++ [x.code]
      if x.overrange then failBarrier c .span s
      else if c.codes.length < 3 then s.setCal { s.cal with current := some { c with codes := codes } }
      else if c.stage = .readUp then afterReading { c with upCode := codes.sum / 4 } .lower .down s
      else afterReading { c with downCode := codes.sum / 4 } .raise .up s := by
  have hlength : (c.codes ++ [x.code]).length < 4 ↔ c.codes.length < 3 := by
    rw [List.length_append]
    exact Nat.succ_lt_succ_iff
  simp only [calibrationAngle, hc, hx, ne_eq, not_true, reduceCtorEq, or_self, if_false]
  rcases hs with hs | hs <;> simp only [hs, Config.calibrationReads, hlength]

theorem calibrationCurrent_trips {x : ScanResult} (ht : c.driveStart ≠ none) (hx : x.trips = true) :
    calibrationCurrent c.barrier x s = failBarrier c .current
      (eventEntered .barrierOvercurrent (some c.barrier.val) none (stopBarrier c.barrier s)) := by
  simp only [calibrationCurrent, hc, hx, ne_eq, not_true, ht, or_self, if_false, if_true]

theorem calibrationCurrent_peaks {x : ScanResult} (ht : c.driveStart ≠ none) (hx : x.trips = false)
    (hs : c.stage = .lower) : calibrationCurrent c.barrier x s =
      s.setCal { s.cal with current := some { c with peakCurrent := max c.peakCurrent x.code } } := by
  simp only [calibrationCurrent, hc, hx, hs, ne_eq, not_true, ht, or_self, Bool.false_eq_true, if_false, if_true]

end

/-! ## The judgement, a failure and the next barrier (R124, R125) -/

theorem travelFits_iff (t : Nat) : travelFits t = true ↔ 2000 ≤ t ∧ t ≤ 20000 := by
  simp [travelFits]

section
variable {c : CalBarrier} {up : Nat} {s : State}

theorem judgeCalibration_span (h : c.upCode < c.downCode + 400) : judgeCalibration c up s = failBarrier c .span s :=
  if_pos h

section
variable (h : c.downCode + 400 ≤ c.upCode)
include h

theorem judgeCalibration_travel (hfits : ¬ (travelFits c.travelDown = true ∧ travelFits up = true)) :
    judgeCalibration c up s = failBarrier c .travel s := by
  refine (if_neg (Nat.not_lt.2 h)).trans (if_pos ?_)
  rwa [Bool.not_eq_true', Bool.eq_false_iff, Ne, Bool.and_eq_true]

theorem judgeCalibration_passes (hdown : travelFits c.travelDown = true) (hup : travelFits up = true) :
    judgeCalibration c up s = nextBarrier (stopBarrier c.barrier (clearValid { s with
      tm := { s.tm with tables := { s.tm.tables with
        barrier := s.tm.tables.barrier.set c.barrier ((s.barrierEntry c.barrier).calibrated c up) } } })) := by
  refine (if_neg (Nat.not_lt.2 h)).trans (if_neg ?_)
  rw [hdown, hup]
  exact Bool.false_ne_true

end

theorem failBarrier_eq (c : CalBarrier) (reason : CalReason) (s : State) : failBarrier c reason s = nextBarrier
    { eventEntered .calibrationFailed (some c.barrier.val) (some reason) (stopBarrier c.barrier s) with
      cal := { s.cal with allPassed := false, current := none } } := by
  have hcal : (eventEntered .calibrationFailed (some c.barrier.val) (some reason) (stopBarrier c.barrier s)).cal = s.cal :=
    (eventEntered_frame ..).cal (by decide)
  rw [failBarrier]
  dsimp only
  rw [hcal]
  rfl

theorem nextBarrier_ends (h : s.cal.remaining = []) : nextBarrier s = s.setCal { s.cal with
    run := if s.cal.allPassed then .donePass else .doneFail, current := none, allPassed := true } := by
  simp only [nextBarrier, h]

/-- The record of a barrier as it comes under calibration: its disagreement timer discarded (R110). -/
def BarrierRecord.untimed (r : BarrierRecord) : BarrierRecord :=
  { r with disagreeEnd := none, disagreeing := r.disagreeing && r.disagreeEnd.isNone }

/-- A calibration that takes a barrier, no stage begun yet. -/
def CalBarrier.taken (i : Fin 4) (now : Time) : CalBarrier :=
  { barrier := i, stage := .seekUp, since := now, driveStart := none, limit := none, codes := [],
    upCode := 0, downCode := 0, travelDown := 0, peakCurrent := 0 }

section
variable {i : Fin 4} {rest : List (Fin 4)} (h : s.cal.remaining = i :: rest)
include h

/-- The next barrier, with the barrier's record as it comes under calibration. -/
theorem nextBarrier_takes : nextBarrier s =
    let left := (s.setCal { s.cal with remaining := rest, current := none }).setBarrier i s.barriers[i].untimed
    if s.contacts[i].up then beginReading (.taken i s.now) .readUp left
    else beginMovement (.taken i s.now) .seekUp .up left := by
  simp only [nextBarrier, h]
  rfl

theorem nextBarrier_reads (hup : s.contacts[i].up = true) : nextBarrier s = { s with
    cal := { s.cal with current := some ((CalBarrier.taken i s.now).reading .readUp s.now), remaining := rest }
    barriers := s.barriers.set i s.barriers[i].untimed.stopped } := by
  rw [nextBarrier_takes h]
  dsimp only
  rw [if_pos hup, beginReading_eq]
  show State.withStage ((s.setCal _).setBarrier i _) _ (State.barriers ((s.setCal _).setBarrier i _))[i].stopped = _
  rw [State.setBarrier_self, State.withStage]
  dsimp only [State.setBarrier, State.setCal, CalBarrier.reading, CalBarrier.taken]
  rw [Vector.set_set]

theorem nextBarrier_drives (hup : s.contacts[i].up = false) : nextBarrier s = conditionEnd .barrierStall (some i.val) { s with
    cal := { s.cal with current := some ((CalBarrier.taken i s.now).moving .seekUp s.now), remaining := rest }
    barriers := s.barriers.set i (s.barriers[i].untimed.calibrating (s.barrierEntry i) .up) } := by
  rw [nextBarrier_takes h]
  dsimp only
  rw [if_neg (by rw [hup]; exact Bool.false_ne_true), beginMovement_eq]
  refine congrArg (conditionEnd .barrierStall (some i.val)) ?_
  show State.withStage ((s.setCal _).setBarrier i _) _
    ((State.barriers ((s.setCal _).setBarrier i _))[i].calibrating (s.barrierEntry i) .up) = _
  rw [State.setBarrier_self, State.withStage]
  dsimp only [State.setBarrier, State.setCal, CalBarrier.moving, CalBarrier.taken]
  rw [Vector.set_set]

end

end

/-- Settles O47: each stage by the lemma of its end, then the failure, the end of the run and the next barrier. -/
theorem calibrationStages : Obligations.CalibrationStages := by
  refine ⟨fun s c hc => ?_, fun s => ?_⟩
  · intro i still stageIs reads moves driven
    refine ⟨calibrationContact_seekUp hc, fun t0 hs ht => calibrationContact_lower hc ht hs, fun t0 hs ht => ?_,
      fun x => calibrationAngle_early hc, fun x hx hs => ?_, fun x t0 ht => ?_⟩
    · intro up stopped fits
      have hraise : calibrationContact i .up s = judgeCalibration c up stopped := calibrationContact_raise hc ht hs
      refine ⟨fun h => hraise.trans (judgeCalibration_span h), fun h hfits => hraise.trans (judgeCalibration_travel h ?_),
        fun h hdown hup => hraise.trans (judgeCalibration_passes h ((travelFits_iff _).2 hdown) ((travelFits_iff _).2 hup))⟩
      rwa [travelFits_iff, travelFits_iff]
    · intro mean
      have hreads := calibrationAngle_reads hc hx hs
      have hpast (hx : x.overrange = false) (hlen : 3 ≤ c.codes.length) : calibrationAngle i x s =
          if c.stage = .readUp then afterReading { c with upCode := mean } .lower .down s
          else afterReading { c with downCode := mean } .raise .up s :=
        hreads.trans ((if_neg (by rw [hx]; exact Bool.false_ne_true)).trans (if_neg (Nat.not_lt.2 hlen)))
      refine ⟨fun hx => hreads.trans (if_pos hx),
        fun hx hlen => hreads.trans ((if_neg (by rw [hx]; exact Bool.false_ne_true)).trans (if_pos hlen)),
        fun hx hlen hup => ?_, fun hx hlen hdown => ?_⟩
      · have hafter := (hpast hx hlen).trans (if_pos hup)
        exact ⟨fun h => hafter.trans (if_neg (by simpa [Contacts.at_] using h)), fun h => hafter.trans (if_pos h)⟩
      · have hafter := (hpast hx hlen).trans (if_neg (by rw [hdown]; decide))
        exact ⟨fun h => hafter.trans (if_neg (by simpa [Contacts.at_] using h)), fun h => hafter.trans (if_pos h)⟩
    · have hdrive : c.driveStart ≠ none := by rw [ht]; exact Option.some_ne_none t0
      refine ⟨fun hx => calibrationCurrent_trips hc hdrive (x.trips_iff.2 hx), fun hcls hover hs =>
        calibrationCurrent_peaks hc hdrive ?_ hs⟩
      rw [Bool.eq_false_iff, Ne, x.trips_iff, hover]
      exact fun h => h.elim hcls Bool.false_ne_true
  · exact ⟨fun c reason => failBarrier_eq c reason s, nextBarrier_ends, fun i rest h =>
      ⟨nextBarrier_reads h, nextBarrier_drives h⟩⟩

end Sys2Proof.Machine
end

section
/-! POLL, FAULT_READ, PASSAGE_READ, MEASURE_READ and TABLE_READ: obligation O12 (R139, R150, R154, R159, R179, R190). -/

namespace Sys2Proof.Machine

set_option Elab.async false

/-! ## A command of the third class (R171, R172) -/

/-- The general checks of a command of the third class pass (R171, R172). -/
theorem ByEither.generalCheck_eq {s : State} {q : QueuedCommand} {code : Byte} {args : List Byte}
    (h : ByEither s q code args) {c : Command} (hcls : c.cls = .either)
    (hlength : c.lengthFits (args.length + 2) = true) : generalCheck c q s = none := by
  obtain ⟨hproc, hmay⟩ := h
  have hauthorised : authorised s.tm.tables s.tm.valid .either q.source = true := by
    rw [authorised, Bool.or_eq_true, Bool.or_eq_true, Bool.not_eq_true', holdsRole_iff, holdsRole_iff, or_assoc]
    exact hmay
  simp [generalCheck, hcls, hauthorised, hproc.payload_length, hlength]

/-- The event of a command of the third class whose general checks pass. -/
theorem ByEither.event_eq {s : State} {q : QueuedCommand} {code : Byte} {args : List Byte}
    (h : ByEither s q code args) {c : Command} (hcode : Command.fromCode code.toNat = some c)
    (hcls : c.cls = .either) (hlength : c.lengthFits (args.length + 2) = true)
    {own : QueuedCommand → State → Answered} {dt : Time} {reply : ReplyCode} {data : List Byte} {u : State}
    (hown : own q (s.advance dt) = { state := u, code := reply, data := data }) :
    event dt (complete c own) s = finish (s.advance dt) (answered q reply data u) := by
  have hnow : ByEither (s.advance dt) q code args := h
  rw [event_of_running h.1.1, complete_of_processes h.1 hcode (hnow.generalCheck_eq hcls hlength), hown]

/-! ## The arguments -/

theorem countFits_iff (n : Nat) : countFits n = true ↔ 1 ≤ n ∧ n ≤ 4 := by
  rw [countFits, Bool.and_eq_true, decide_eq_true_iff, decide_eq_true_iff]

theorem countFits_eq_false_iff (n : Nat) : countFits n = false ↔ n = 0 ∨ 4 < n := by
  rw [← Bool.not_eq_true, countFits_iff]
  omega

theorem not_countFits {n : Nat} (h : countFits n = true) : ¬ (!countFits n) = true := by
  rw [h]; exact Bool.false_ne_true

theorem bankNumber_flagByte (one : Bool) : bankNumber (flagByte one).toNat = some one := by
  cases one <;> rfl

theorem bankNumber_none {n : Nat} (h : 2 ≤ n) : bankNumber n = none := by
  match n with
  | n + 2 => rfl

/-- The id that names a table is its number (10.1). -/
theorem TableId.number_of_fromId {id : Nat} {t : TableId} (h : TableId.fromId id = some t) : t.number = id := by
  obtain ⟨hlt, rfl⟩ := List.getElem?_eq_some_iff.1 h
  exact (by decide : TableId.all.Nodup).idxOf_getElem id hlt

/-! ## What each command answers, and what it refuses -/

section
variable (q : QueuedCommand) (s : State)

theorem ownPoll_signaller (hv : s.tm.valid = true) (hrole : HasRole s q.source .signaller) :
    ownPoll q s = answer .done { s with handed := { s.handed with status := true } } := by
  rw [ownPoll, hv, (holdsRole_iff ..).2 hrole]
  rfl

theorem ownPoll_other (h : ¬ (s.tm.valid = true ∧ HasRole s q.source .signaller)) :
    ownPoll q s = { state := s, code := .done, data := (statusContent s).bytes } := by
  refine if_neg ?_
  rwa [Bool.and_eq_true, holdsRole_iff]

end

section
variable {q : QueuedCommand} {s : State} {n first count : Nat}

section
variable (hfirst : q.arg 0 = first) (hcount : q.arg 1 = count)
include hfirst hcount

theorem ownFaultRead_reads (hindex : first < 32) (hfits : countFits count = true) :
    ownFaultRead q s = { state := s, code := .done, data := faultReadData s.faults first count } := by
  subst hfirst hcount
  exact (if_neg (Nat.not_le.2 hindex)).trans (if_neg (not_countFits hfits))

theorem ownFaultRead_refused (h : 32 ≤ first ∨ countFits count = false) :
    ownFaultRead q s = refuse .refusedArgument s := by
  rw [ownFaultRead, hfirst, hcount]
  split
  · rfl
  next hindex => exact if_pos (Bool.not_eq_true' _ ▸ h.resolve_left hindex)

theorem ownMeasureRead_reads (hindex : first < 24) (hfits : countFits count = true) :
    ownMeasureRead q s = { state := s, code := .done, data := measureReadData s.scan.results first count } := by
  subst hfirst hcount
  exact (if_neg (Nat.not_le.2 hindex)).trans (if_neg (not_countFits hfits))

theorem ownMeasureRead_refused (h : 24 ≤ first ∨ countFits count = false) :
    ownMeasureRead q s = refuse .refusedArgument s := by
  rw [ownMeasureRead, hfirst, hcount]
  split
  · rfl
  next hindex => exact if_pos (Bool.not_eq_true' _ ▸ h.resolve_left hindex)

end

section
variable (hn : q.arg 0 = n) (hfirst : q.arg 1 = first) (hcount : q.arg 2 = count)
include hn hfirst hcount

theorem ownPassageRead_reads {one : Bool} (hbank : bankNumber n = some one) (hindex : first < 16)
    (hfits : countFits count = true) (hstate : (s.report.bank one).state ≠ .empty) : ownPassageRead q s =
      { state := s, code := .done, data := passageReadData one (s.report.bank one) first count } := by
  subst hfirst hcount
  rw [ownPassageRead, hn, hbank]
  exact (if_neg (Nat.not_le.2 hindex)).trans ((if_neg (not_countFits hfits)).trans (if_neg hstate))

theorem ownPassageRead_empty {one : Bool} (hbank : bankNumber n = some one) (hindex : first < 16)
    (hfits : countFits count = true) (hstate : (s.report.bank one).state = .empty) :
    ownPassageRead q s = refuse .refusedState s := by
  subst hfirst hcount
  rw [ownPassageRead, hn, hbank]
  exact (if_neg (Nat.not_le.2 hindex)).trans ((if_neg (not_countFits hfits)).trans (if_pos hstate))

theorem ownPassageRead_refused (h : 2 ≤ n ∨ 16 ≤ first ∨ countFits count = false) :
    ownPassageRead q s = refuse .refusedArgument s := by
  rw [ownPassageRead, hn, hfirst, hcount]
  cases hbank : bankNumber n with
  | none => rfl
  | some one =>
    have hnamed : ¬ 2 ≤ n := fun hover => by rw [bankNumber_none hover] at hbank; cases hbank
    dsimp only
    split
    · rfl
    next hindex => exact if_pos (Bool.not_eq_true' _ ▸ (h.resolve_left hnamed).resolve_left hindex)

theorem ownTableRead_reads {t : TableId} (ht : TableId.fromId n = some t) (hindex : first < t.entries)
    (hfits : countFits count = true) :
    ownTableRead q s = { state := s, code := .done, data := tableReadData t s.tm.tables first count } := by
  subst hfirst hcount
  rw [ownTableRead, hn, ht]
  exact (if_neg (Nat.not_le.2 hindex)).trans (if_neg (not_countFits hfits))

theorem ownTableRead_refused
    (h : 11 ≤ n ∨ (∃ t, TableId.fromId n = some t ∧ t.entries ≤ first) ∨ countFits count = false) :
    ownTableRead q s = refuse .refusedArgument s := by
  rw [ownTableRead, hn, hfirst, hcount]
  cases ht : TableId.fromId n with
  | none => rfl
  | some t =>
    dsimp only
    split
    · rfl
    next hindex =>
      refine if_pos (Bool.not_eq_true' _ ▸ ?_)
      rcases h with hid | ⟨u, hu, hover⟩ | hfits
      · rw [TableId.fromId_none hid] at ht; cases ht
      · cases ht.symm.trans hu
        exact absurd hover hindex
      · exact hfits

end

end

theorem byte_toNat (b : Byte) : byte b.toNat = b := (BitVec.ofNat_toNat ..).trans b.setWidth_eq

/-- Settles O12: each command by its own work in each case. -/
theorem readsReturnWhatStands : Obligations.ReadsReturnWhatStands := by
  refine ⟨fun s q dt hq => ⟨fun hv hrole => ?_, fun h => ?_⟩, fun s q dt first count hone hfour => ?_,
    fun s q dt a b c => ?_⟩
  · exact congrArg Host.Outcome.next
      (hq.event_eq (c := .poll) rfl rfl rfl (ownPoll_signaller q (s.advance dt) hv hrole))
  · exact congrArg Host.Outcome.next (hq.event_eq (c := .poll) rfl rfl rfl (ownPoll_other q (s.advance dt) h))
  · intro reply
    have hcount : countFits count.toNat = true := (countFits_iff _).2 ⟨hone, hfour⟩
    refine ⟨fun hq hindex => ?_, fun one hq hindex => ?_, fun hq hindex => ?_,
      fun id t hq ht hindex => ?_⟩
    · exact congrArg Host.Outcome.next (hq.event_eq (c := .faultRead) rfl rfl rfl
        (ownFaultRead_reads (hq.1.arg_eq 0) (hq.1.arg_eq 1) hindex hcount))
    · intro bank found hstate
      have hown := ownPassageRead_reads (s := s.advance dt) (n := (flagByte one).toNat) (first := first.toNat)
        (hq.1.arg_eq 0) (hq.1.arg_eq 1) (hq.1.arg_eq 2) (bankNumber_flagByte one) hindex hcount hstate
      exact congrArg Host.Outcome.next (hq.event_eq (c := .passageRead) rfl rfl rfl hown)
    · exact congrArg Host.Outcome.next (hq.event_eq (c := .measureRead) rfl rfl rfl
        (ownMeasureRead_reads (hq.1.arg_eq 0) (hq.1.arg_eq 1) hindex hcount))
    · have hown := ownTableRead_reads (s := s.advance dt) (n := id.toNat) (first := first.toNat) (hq.1.arg_eq 0)
        (hq.1.arg_eq 1) (hq.1.arg_eq 2) ht hindex hcount
      rw [tableReadData, TableId.number_of_fromId ht, byte_toNat, byte_toNat] at hown
      exact congrArg Host.Outcome.next (hq.event_eq (c := .tableRead) rfl rfl rfl hown)
  · intro refused badCount
    have hbad {n : Byte} (h : badCount n) : countFits n.toNat = false := (countFits_eq_false_iff _).2 h
    refine ⟨fun hq h => ?_, fun hq h => ?_, fun hq ha hb hc hstate => ?_, fun hq h => ?_, fun hq h => ?_⟩
    · exact congrArg Host.Outcome.next (hq.event_eq (c := .faultRead) rfl rfl rfl
        (ownFaultRead_refused (hq.1.arg_eq 0) (hq.1.arg_eq 1) (h.imp_right hbad)))
    · exact congrArg Host.Outcome.next (hq.event_eq (c := .passageRead) rfl rfl rfl
        (ownPassageRead_refused (hq.1.arg_eq 0) (hq.1.arg_eq 1) (hq.1.arg_eq 2) (h.imp_right (.imp_right hbad))))
    · obtain ⟨one, rfl⟩ := exists_flagByte (Nat.le_of_lt_succ ha)
      have hfits : countFits c.toNat = true := by
        rw [← Bool.not_eq_false, countFits_eq_false_iff]
        exact hc
      have hempty : (s.report.bank one).state = .empty := by cases one <;> exact hstate
      have hown := ownPassageRead_empty (s := s.advance dt) (n := (flagByte one).toNat) (first := b.toNat)
        (hq.1.arg_eq 0) (hq.1.arg_eq 1) (hq.1.arg_eq 2) (bankNumber_flagByte one) hb hfits hempty
      exact congrArg Host.Outcome.next (hq.event_eq (c := .passageRead) rfl rfl rfl hown)
    · exact congrArg Host.Outcome.next (hq.event_eq (c := .measureRead) rfl rfl rfl
        (ownMeasureRead_refused (hq.1.arg_eq 0) (hq.1.arg_eq 1) (h.imp_right hbad)))
    · exact congrArg Host.Outcome.next (hq.event_eq (c := .tableRead) rfl rfl rfl
        (ownTableRead_refused (hq.1.arg_eq 0) (hq.1.arg_eq 1) (hq.1.arg_eq 2) (h.imp_right (.imp_right hbad))))

end Sys2Proof.Machine
end

section
/-! The timers of the scanner and the report, the signaller link and the quiet rate: obligation O25 (R134, R135, R153,
R155). -/

namespace Sys2Proof.Machine

set_option Elab.async false

/-! ## The timers (R134, R153, R155) -/

section
variable {s : State} {e : Time} (hr : reached s.now e = true)
include hr

theorem quietEnds_reached (he : s.scan.quietEnd = some e) :
    quietEnds s = { s with scan := { s.scan with rate := .quiet, quietEnd := none } } := by
  simp only [quietEnds, he, due_some, hr, if_true]

theorem statusDueEnds_reached (he : s.report.statusDue = some e) :
    statusDueEnds s = { s with handed := { s.handed with status := true } } := by
  simp only [statusDueEnds, he, due_some, hr, if_true]

theorem linkEnds_reached (he : s.report.linkEnd = some e) : linkEnds s =
    conditionPresent .signallerLinkLost none { s with report := { s.report with linkEnd := none } } := by
  simp only [linkEnds, he, due_some, hr, if_true]

end

/-! ## The signaller link (R155) -/

theorem linkRefresh_signaller {s : State} {source : Nat} (hv : s.tm.valid = true) (hrole : HasRole s source .signaller) :
    linkRefresh source s = { conditionEnd .signallerLinkLost none s with report := { s.report with
      linkEnd := some (after s.now s.tm.tables.params.signallerTimeout) } } := by
  rw [linkRefresh, hv, (holdsRole_iff ..).2 hrole, conditionEnd_eq]
  rfl

theorem linkRefresh_other {s : State} {source : Nat} (h : ¬ (s.tm.valid = true ∧ HasRole s source .signaller)) :
    linkRefresh source s = s := by
  refine if_neg ?_
  rwa [Bool.and_eq_true, holdsRole_iff]

/-! ## The quiet rate (R134, R135) -/

theorem approachStates_eq_iff (s t : State) :
    approachStates s = approachStates t ↔ ∀ i : Fin 4, s.approaches[i].state = t.approaches[i].state := by
  rw [approachStates, approachStates, List.ext_getElem_iff]
  simp [Fin.forall_iff]

theorem stirred_iff (before s : State) : stirred before s = true ↔
    s.handed.wheel = true ∨ s.crossing.state ≠ before.crossing.state ∨
      ∃ i : Fin 4, s.approaches[i].state ≠ before.approaches[i].state := by
  rw [stirred, Bool.or_eq_true, Bool.or_eq_true, bne_iff_ne, bne_iff_ne, Ne, Ne, approachStates_eq_iff, not_forall, or_assoc]

/-- What a scanner's turn leaves: the wheel taken, and the three things it sets. -/
def State.scanned (s : State) (rate : Rate) (strobe quietEnd : Option Time) : State :=
  { s with
    handed := { s.handed with wheel := false }
    scan := { s.scan with rate := rate, nextStrobe := strobe, quietEnd := quietEnd } }

/-- quiet_end after an event: set afresh or held while calm, absent outside calm (R134). -/
def quietEndAfter (renewed : Bool) (s : State) : Option Time :=
  if calm s then if renewed then some (after s.now s.params.quietAfter) else s.scan.quietEnd else none

theorem moveQuietEnd_eq (renewed : Bool) (s : State) : moveQuietEnd renewed s = setQuietEnd (quietEndAfter renewed s) s := by
  unfold moveQuietEnd quietEndAfter
  split
  · cases renewed <;> rfl
  · rfl

/-- The next strobe as the rate is restored: the sooner of the pending one and the one given (R135). -/
def soonerStrobe (soon : Time) (pending : Option Time) : Option Time :=
  pending.map fun t => if reached soon t then t else soon

theorem wakeScanner_eq (s : State) : wakeScanner s = { s with scan := { s.scan with
    rate := .normal, nextStrobe := soonerStrobe (after s.now s.params.scanStrobe) s.scan.nextStrobe } } := by
  have hsooner (x t : Time) : (if earlier x t then x else t) = if reached x t then t else x := by
    rw [earlier]
    cases reached x t <;> rfl
  simp only [wakeScanner, soonerStrobe, hsooner]

theorem scannerTurn_restores {before s : State} (h : stirred before s = true) (hq : s.scan.rate = .quiet) :
    scannerTurn before s = s.scanned .normal
      (soonerStrobe (after s.now s.params.scanStrobe) s.scan.nextStrobe) (quietEndAfter true s) := by
  have hwoken : (stirred before s && s.scan.rate == .quiet) = true := by rw [h, hq]; rfl
  rw [scannerTurn, hwoken, Bool.or_true]
  dsimp only
  rw [if_pos rfl, moveQuietEnd_eq, wakeScanner_eq]
  rfl

theorem scannerTurn_stays {before s : State} (h : ¬ (stirred before s = true ∧ s.scan.rate = .quiet)) :
    scannerTurn before s = s.scanned s.scan.rate s.scan.nextStrobe (quietEndAfter (!calm before || s.handed.wheel) s) := by
  have hasleep : (stirred before s && s.scan.rate == .quiet) = false := by
    rwa [Bool.eq_false_iff, Ne, Bool.and_eq_true, beq_iff_eq]
  rw [scannerTurn, hasleep, Bool.or_false]
  dsimp only
  rw [if_neg Bool.false_ne_true, moveQuietEnd_eq]
  rfl

section
variable {s : State}

theorem quietEndAfter_ends {renewed : Bool} (h : ¬ calm s = true) : quietEndAfter renewed s = none := if_neg h

theorem quietEndAfter_renewed {renewed : Bool} (h : calm s = true) (hr : renewed = true) :
    quietEndAfter renewed s = some (after s.now s.params.quietAfter) := (if_pos h).trans (if_pos hr)

theorem quietEndAfter_holds {renewed : Bool} (h : calm s = true) (hr : ¬ renewed = true) :
    quietEndAfter renewed s = s.scan.quietEnd := (if_pos h).trans (if_neg hr)

end

/-- Settles O25: each timer by the lemma of its end, the link by its two cases, and the rate by whether it is restored
and what becomes of quiet_end. -/
theorem reportTimersTheLinkAndTheQuietRate : Obligations.ReportTimersTheLinkAndTheQuietRate := by
  refine ⟨fun s dt e hrun he => ?_, fun s source => ⟨linkRefresh_signaller, linkRefresh_other⟩, fun before s => ?_⟩
  · intro t ends
    exact ⟨fun hq => next_event hrun dt (quietEnds_reached (s := t) he hq),
      fun hs => next_event hrun dt (statusDueEnds_reached (s := t) he hs),
      fun hl => next_event hrun dt (linkEnds_reached (s := t) he hl)⟩
  · intro calmIn stirs soon quiet ends sooner
    have hcalm (u : State) : calm u = true ↔ calmIn u := calm_iff u
    have hstirs : stirred before s = true ↔ stirs := stirred_iff before s
    refine ⟨fun hs hq => ?_, fun h => ?_⟩
    · have hturn := scannerTurn_restores (hstirs.2 hs) hq
      refine ⟨fun hc => ?_, fun hc => ?_⟩
      · rw [quietEndAfter_renewed ((hcalm s).2 hc) rfl] at hturn
        exact hturn
      · rw [quietEndAfter_ends (mt (hcalm s).1 hc)] at hturn
        exact hturn
    · have hturn : scannerTurn before s = _ := scannerTurn_stays fun ⟨hs, hq⟩ =>
        h.elim (absurd (hstirs.1 hs)) fun hn => by rw [hn] at hq; cases hq
      have hrenewed : (!calm before || s.handed.wheel) = true ↔ ¬ calmIn before ∨ s.handed.wheel = true := by
        rw [Bool.or_eq_true, Bool.not_eq_true', ← Bool.not_eq_true, hcalm]
      refine ⟨fun hc => ?_, fun hc hr => ?_, fun hc hb hw => ?_⟩
      · rw [quietEndAfter_ends (mt (hcalm s).1 hc)] at hturn
        exact hturn
      · rw [quietEndAfter_renewed ((hcalm s).2 hc) (hrenewed.2 hr)] at hturn
        exact hturn
      · have hheld : ¬ (!calm before || s.handed.wheel) = true := by
          rw [hrenewed, hw]
          exact fun h => h.elim (absurd hb) Bool.false_ne_true
        rw [quietEndAfter_holds ((hcalm s).2 hc) hheld] at hturn
        exact hturn

end Sys2Proof.Machine
end

section
/-! The strobe, the next entry and the users of a result: obligation O28 (R130 to R132). -/

namespace Sys2Proof.Machine

set_option Elab.async false

/-! ## The block in progress (R130 to R132) -/

theorem strobeTaken_reached {inputs : List AnalogueLevels} {s : State} {e : Time} (hn : s.scan.nextStrobe = some e)
    (hr : reached s.now e = true) : strobeTaken inputs s = startBlock (completeBlock inputs s) := by
  simp only [strobeTaken, hn, due_some, hr, if_true]

theorem completeBlock_none {inputs : List AnalogueLevels} {s : State} (h : s.scan.blockStart = none) :
    completeBlock inputs s = s := by
  unfold completeBlock
  rw [h]
  cases s.scan.position <;> rfl

theorem completeBlock_some {inputs : List AnalogueLevels} {s : State} {n : Fin 24} {start : Time}
    (hn : s.scan.position = some n) (hs : s.scan.blockStart = some start) :
    completeBlock inputs s =
      let result := blockResult (s.scanEntry n) inputs start s.now
      handResult n result { s with scan := { s.scan with
        results := s.scan.results.set n (some result), blockStart := none } } := by
  simp only [completeBlock, hn, hs]

theorem conversion_eq {e : ScanEntry} (hc : e.channel < 24) :
    conversion e = fun levels => min 4095 (levels[e.channel].toNat * e.gain / 16) := by
  funext levels
  rw [conversion, Vector.getElem?_eq_getElem hc]
  rfl

/-- The result of a block, its overrange flag by whether a conversion came to full scale (R131, R132). -/
theorem blockResult_eq (e : ScanEntry) (inputs : List AnalogueLevels) (start now : Time) :
    blockResult e inputs start now =
      let block := (inputs.take e.blockCount).map (conversion e)
      let code := block.sum / e.blockCount
      { code := code, cls := classOf e code, overrange := decide (4095 ∈ block), startTime := start, endTime := now } := by
  rw [blockResult]
  dsimp only
  rw [List.any_beq', List.contains_eq_mem]
  rfl

/-! ## The next entry (R130) -/

/-- The first index that a test selects is the least that it selects. -/
theorem find?_finRange_least {n : Nat} {test : Fin n → Bool} {i : Fin n} (hi : test i = true)
    (hleast : ∀ j, test j = true → i ≤ j) : (List.finRange n).find? test = some i :=
  Option.map_injective Fin.val_injective (firstBroken_eq_some hi fun j hj =>
    Bool.eq_false_iff.2 fun h => absurd hj (not_lt.2 (hleast j h)))

/-- The entry lies above the position held, if one is held. -/
def aboveHeld (position : Option (Fin 24)) (i : Fin 24) : Bool := position.all fun p => decide (p < i)

theorem aboveHeld_iff (position : Option (Fin 24)) (i : Fin 24) :
    aboveHeld position i = true ↔ ∀ p, position = some p → p < i := by
  simp only [aboveHeld, Option.all_eq_true, decide_eq_true_iff]

/-- The next entry is the first in service above the position held, or the first in service of all. -/
theorem nextEntry_eq (ts : Tables) (position : Option (Fin 24)) : nextEntry ts position =
    ((List.finRange 24).find? fun i => ts.scan[i].inService && aboveHeld position i).or
      ((List.finRange 24).find? fun i => ts.scan[i].inService) := by
  cases position with
  | none => simp [nextEntry, scanInService, aboveHeld, List.head?_filter]
  | some p =>
    have habove : (scanInService ts).find? (fun i => decide (p.val < i.val)) =
        (List.finRange 24).find? fun i => ts.scan[i].inService && aboveHeld (some p) i := by
      simp [scanInService, aboveHeld, List.find?_filter]
    rw [nextEntry, habove, scanInService, List.head?_filter]
    cases (List.finRange 24).find? fun i => ts.scan[i].inService && aboveHeld (some p) i <;> rfl

section
variable {ts : Tables} {position : Option (Fin 24)} {i : Fin 24}

theorem nextEntry_above (hi : ts.scan[i].inService = true) (habove : ∀ p, position = some p → p < i)
    (hleast : ∀ j : Fin 24, ts.scan[j].inService = true → (∀ p, position = some p → p < j) → i ≤ j) :
    nextEntry ts position = some i := by
  rw [nextEntry_eq, find?_finRange_least (i := i)]
  · rfl
  · rw [Bool.and_eq_true, aboveHeld_iff]
    exact ⟨hi, habove⟩
  · intro j hj
    obtain ⟨hserved, hheld⟩ := Bool.and_eq_true_iff.1 hj
    exact hleast j hserved ((aboveHeld_iff ..).1 hheld)

theorem find?_aboveHeld_none
    (hnone : ∀ j : Fin 24, ts.scan[j].inService = true → ¬ ∀ p, position = some p → p < j) :
    ((List.finRange 24).find? fun i => ts.scan[i].inService && aboveHeld position i) = none := by
  refine List.find?_eq_none.2 fun j _ hj => ?_
  obtain ⟨hserved, hheld⟩ := Bool.and_eq_true_iff.1 hj
  exact hnone j hserved ((aboveHeld_iff ..).1 hheld)

theorem nextEntry_wraps (hi : ts.scan[i].inService = true)
    (hnone : ∀ j : Fin 24, ts.scan[j].inService = true → ¬ ∀ p, position = some p → p < j)
    (hleast : ∀ j : Fin 24, ts.scan[j].inService = true → i ≤ j) : nextEntry ts position = some i := by
  rw [nextEntry_eq, find?_aboveHeld_none hnone, Option.none_or, find?_finRange_least hi hleast]

theorem nextEntry_none (hnone : ∀ j : Fin 24, ¬ ts.scan[j].inService = true) : nextEntry ts position = none := by
  rw [nextEntry_eq, find?_aboveHeld_none fun j hj => absurd hj (hnone j), Option.none_or]
  exact List.find?_eq_none.2 fun j _ => hnone j

end

theorem startBlock_eq {s : State} {next : Option (Fin 24)} (h : nextEntry s.tm.tables s.scan.position = next) :
    startBlock s = { s with scan := { s.scan with
      position := next, blockStart := next.map fun _ => s.now, nextStrobe := some (after s.now (strobePeriod s)) } } := by
  rw [startBlock, h]

/-! ## The users of a result (R132) -/

/-- In index order, each that uses the entry by the tables as they then stand takes the result. -/
def handTo (k : Nat) (uses : Tables → Fin k → Prop) [∀ ts i, Decidable (uses ts i)] (takes : Fin k → State → State)
    (s : State) : State :=
  forEach k (fun i u => if uses u.tm.tables i then takes i u else u) s

/-- An audible warning whose entry it is takes the result. -/
def handAudible (i : Fin 2) (entry : Params → Nat) (n : Fin 24) (x : ScanResult) (s : State) : State :=
  if entry s.params = n.val then audibleResult i x s else s

/-- The order in which the users take a result: lamps, audible warnings, angles, currents, battery. -/
theorem handResult_eq (n : Fin 24) (x : ScanResult) (s : State) : handResult n x s =
    let lit := handTo 12 (fun ts i => (ts.lamp[i].inService && ts.lamp[i].scanEntry == n.val) = true) (lampResult · x) s
    let heard := handAudible 1 (·.audibleEntry1) n x (handAudible 0 (·.audibleEntry0) n x lit)
    let turned := handTo 4 (fun ts i => ts.barrier[i].angleEntry = n.val) (takeAngle · x) heard
    let driven := handTo 4 (fun ts i => ts.barrier[i].currentEntry = n.val) (takeCurrent · x) turned
    if driven.params.batteryEntry = n.val then batteryResult x driven else driven := rfl

section
variable {k : Nat} {uses : Tables → Fin k → Prop} [∀ ts i, Decidable (uses ts i)] {takes : Fin k → State → State}
  (htakes : ∀ i u, (takes i u).tm.tables = u.tm.tables) {s : State} {ts : Tables} (hs : s.tm.tables = ts)
include htakes hs

theorem handTo_tables : (handTo k uses takes s).tm.tables = ts := by
  refine forEach_keeps (P := fun u => u.tm.tables = ts) (fun i u hu => ?_) hs
  split
  · exact (htakes i u).trans hu
  · exact hu

/-- No user moves the tables: who uses the entry is settled before the first takes the result. -/
theorem handTo_eq : handTo k uses takes s = forEach k (fun i u => if uses ts i then takes i u else u) s := by
  refine forEach_congr (Q := fun _ u => u.tm.tables = ts) (fun i u hu => by rw [hu]) (fun _ j u _ hu => ?_) fun _ => hs
  split
  · exact (htakes j u).trans hu
  · exact hu

end

theorem lampResult_tables (x : ScanResult) (i : Fin 12) (u : State) : (lampResult i x u).tm.tables = u.tm.tables :=
  (lampResult_frame ..).tables (by decide)

theorem takeAngle_tables (x : ScanResult) (i : Fin 4) (u : State) : (takeAngle i x u).tm.tables = u.tm.tables :=
  (takeAngle_frame ..).tables (by decide)

theorem takeCurrent_tables (x : ScanResult) (i : Fin 4) (u : State) : (takeCurrent i x u).tm.tables = u.tm.tables :=
  (takeCurrent_frame ..).tables (by decide)

theorem handAudible_tables (i : Fin 2) (entry : Params → Nat) (n : Fin 24) (x : ScanResult) (s : State) :
    (handAudible i entry n x s).tm.tables = s.tm.tables := by
  unfold handAudible
  split
  · exact (audibleResult_frame ..).tables (by decide)
  · rfl

theorem handAudible_eq (i : Fin 2) (entry : Params → Nat) (n : Fin 24) (x : ScanResult) {s : State} {ts : Tables}
    (hs : s.tm.tables = ts) :
    handAudible i entry n x s = if entry ts.params = n.val then audibleResult i x s else s := by
  subst hs
  rfl

/-- A barrier under calibration is judged by the calibration alone (R124). -/
theorem takeCurrent_eq (i : Fin 4) (x : ScanResult) (s : State) : takeCurrent i x s =
    if s.cal.current.any (fun c => c.barrier == i) then calibrationCurrent i x s else currentResult i x s := by
  rw [takeCurrent, underCalibration]
  cases s.cal.current <;> rfl

/-- Settles O28: the strobe by its block, the next entry by its three cases, and the users by the tables. -/
theorem strobesCycleTheScanList : Obligations.StrobesCycleTheScanList := by
  refine ⟨fun s dt e inputs hrun hn hr => ?_, fun s => ?_, fun s n x => ?_⟩
  · intro t
    have hstrobe {u : State} (hu : completeBlock inputs.toList t = u) :
        exec (.strobe dt inputs) s = .next (finish t (startBlock u)) :=
      next_event hrun dt (hu ▸ strobeTaken_reached (s := t) hn hr)
    refine ⟨fun hb => hstrobe (completeBlock_none (s := t) hb), fun n start hpos hb => ?_⟩
    intro entry hc converted block code result
    have hresult : blockResult (t.scanEntry n) inputs.toList start t.now = result := by
      rw [blockResult_eq, show t.scanEntry n = entry from rfl, conversion_eq hc]
      rfl
    have hblock := completeBlock_some (inputs := inputs.toList) (s := t) hpos hb
    rw [hresult] at hblock
    exact hstrobe hblock
  · intro served above period starts
    refine ⟨fun i hi habove hleast => startBlock_eq (nextEntry_above hi habove hleast),
      fun i hi hnone hleast => startBlock_eq (nextEntry_wraps hi hnone hleast),
      fun hnone => startBlock_eq (nextEntry_none hnone)⟩
  · intro ts each judged lit heard0 heard turned driven
    have hlit : handTo 12 (fun ts i => (ts.lamp[i].inService && ts.lamp[i].scanEntry == n.val) = true)
        (lampResult · x) s = lit := handTo_eq (lampResult_tables x) rfl
    have hlitTables : lit.tm.tables = ts := hlit ▸ handTo_tables (lampResult_tables x) rfl
    have hheard0 : handAudible 0 (·.audibleEntry0) n x lit = heard0 := handAudible_eq 0 _ n x hlitTables
    have hheard0Tables : heard0.tm.tables = ts := hheard0 ▸ (handAudible_tables ..).trans hlitTables
    have hheard : handAudible 1 (·.audibleEntry1) n x heard0 = heard := handAudible_eq 1 _ n x hheard0Tables
    have hheardTables : heard.tm.tables = ts := hheard ▸ (handAudible_tables ..).trans hheard0Tables
    have hturned : handTo 4 (fun ts i => ts.barrier[i].angleEntry = n.val) (takeAngle · x) heard = turned :=
      (handTo_eq (takeAngle_tables x) hheardTables).trans (by simp only [turned, each, takeAngle, beq_iff_eq])
    have hturnedTables : turned.tm.tables = ts := hturned ▸ handTo_tables (takeAngle_tables x) hheardTables
    have hdriven : handTo 4 (fun ts i => ts.barrier[i].currentEntry = n.val) (takeCurrent · x) turned = driven :=
      (handTo_eq (takeCurrent_tables x) hturnedTables).trans
        (by simp only [driven, each, judged, takeCurrent_eq, beq_iff_eq])
    have hdrivenTables : driven.tm.tables = ts := hdriven ▸ handTo_tables (takeCurrent_tables x) hturnedTables
    rw [handResult_eq]
    dsimp only
    rw [hlit, hheard0, hheard, hturned, hdriven, State.params, hdrivenTables]

end Sys2Proof.Machine
end

section
/-! The output arbiter and the placing of telegrams on a port: obligations O9 and O10 (R152, R164 to R168, R170). -/

namespace Sys2Proof.Machine

set_option Elab.async false

/-! ## One port replaced -/

/-- Another output port. -/
def State.withPort (s : State) (p : Port) (o : OutPort) : State := { s with lnu := s.lnu.setPort p o }

theorem State.withPort_port (s : State) (p : Port) (o : OutPort) : (s.withPort p o).lnu.port p = o :=
  LoopNode.port_setPort ..

theorem State.withPort_withPort (s : State) (p : Port) (o o' : OutPort) :
    (s.withPort p o).withPort p o' = s.withPort p o' := by
  cases p <;> rfl

/-! ## The arbiter's choice (R165) -/

section
variable {o : OutPort}

theorem OutPort.choose_nothing (hf : o.forward = []) (hi : o.insertion = []) : o.choose = o := by
  simp only [OutPort.choose, hf, hi]

theorem OutPort.choose_forward_alone {f : List Byte} {fs : List (List Byte)} (hf : o.forward = f :: fs)
    (hi : o.insertion = []) : o.choose = { o with forward := fs, sending := some (.forwarded f) } := by
  simp only [OutPort.choose, hf, hi]

theorem OutPort.choose_forward_counted {f : List Byte} {fs : List (List Byte)} (hf : o.forward = f :: fs)
    (hi : o.insertion ≠ []) (hr : o.run < 4) :
    o.choose = { o with forward := fs, run := o.run + 1, sending := some (.forwarded f) } := by
  obtain ⟨q, qs, hq⟩ := List.exists_cons_of_ne_nil hi
  simp only [OutPort.choose, hf, hq]
  exact if_pos hr

theorem OutPort.choose_insertion {q : Inserted} {qs : List Inserted} (hi : o.insertion = q :: qs)
    (h : o.forward = [] ∨ 4 ≤ o.run) :
    o.choose = { o with insertion := qs, run := 0, sending := some (.inserted q) } := by
  cases hf : o.forward with
  | nil => simp only [OutPort.choose, hf, hi]
  | cons f fs =>
    have hrun : ¬ o.run < Config.runLimit := Nat.not_lt.2 (h.resolve_left (by simp [hf]))
    simp only [OutPort.choose, hf, hi, if_neg hrun]

end

/-! ## What the port starts (R152, R165, R166, R170) -/

/-- A flag that a status carried is cleared as the status leaves, if nothing came after its content was formed. -/
theorem flag_left (flag carried later : Bool) :
    (flag && !(carried && !later)) = if carried = true ∧ later = false then false else flag := by
  cases carried <;> cases later <;> simp

theorem statusLeft_eq (newFault overflow : Bool) (s : State) : statusLeft newFault overflow s = { s with
    report := { s.report with newFault :=
      if newFault = true ∧ s.report.fresh = false then false else s.report.newFault }
    lnu := { s.lnu with overflow :=
      if overflow = true ∧ s.lnu.lateDiscard = false then false else s.lnu.overflow } } := by
  rw [statusLeft, flag_left, flag_left]

section
variable {p : Port} {s : State} {o o' : OutPort}

theorem startPort_busy {x : Sending} (hx : o.sending = some x) : startPort p (s.withPort p o) = s.withPort p o := by
  simp only [startPort, s.withPort_port, hx]

/-- A choice that is no status telegram, or is none that leaves signaller_port, moves the port alone. -/
theorem startPort_quiet (hidle : o.sending = none) (hchoose : o.choose = o')
    (hquiet : ∀ frame newFault overflow, o'.sending = some (.inserted (.status frame newFault overflow)) →
      p ≠ s.tm.tables.params.signallerPort) :
    startPort p (s.withPort p o) = s.withPort p o' := by
  simp only [startPort, s.withPort_port, hidle, hchoose]
  split
  next frame newFault overflow hsent =>
    exact (if_neg (hquiet frame newFault overflow hsent)).trans (s.withPort_withPort ..)
  next => exact s.withPort_withPort ..

/-- A status telegram that starts on signaller_port has left. -/
theorem startPort_left (hidle : o.sending = none) (hchoose : o.choose = o') {frame : List Byte}
    {newFault overflow : Bool} (hsent : o'.sending = some (.inserted (.status frame newFault overflow)))
    (hp : p = s.tm.tables.params.signallerPort) :
    startPort p (s.withPort p o) = statusLeft newFault overflow (s.withPort p o') := by
  simp only [startPort, s.withPort_port, hidle, hchoose, hsent]
  exact (if_pos hp).trans (congrArg _ (s.withPort_withPort ..))

end

/-- A transmission completes that is not the reply to a RESTART: the port is idle, and its arbiter chooses again. -/
theorem transmissionEnds_starts {p : Port} {s : State} {x : Sending} (hx : (s.lnu.port p).sending = some x)
    (hrestart : ∀ frame, x ≠ .inserted (.reply frame true)) (written : Nat) :
    transmissionEnds p written s = startPort p (s.withPort p { s.lnu.port p with sending := none }) := by
  unfold transmissionEnds
  split
  next hnone => cases hx.symm.trans hnone
  next frame hreply => exact absurd (Option.some.inj (hx.symm.trans hreply)) (hrestart frame)
  next => rfl

/-- Settles O9: the choice by what waits, and the flags by the status that leaves. -/
theorem arbiterChooses : Obligations.ArbiterChooses := by
  refine ⟨fun s dt p written x hrun hx hrestart => ?_,
    fun s dt p written x frame newFault overflow qs hrun hx hrestart hp hi hturn => ?_⟩
  · intro o sets
    have hstarts {o' : OutPort} (hchoose : { o with sending := none }.choose = o')
        (hquiet : ∀ frame newFault overflow, o'.sending = some (.inserted (.status frame newFault overflow)) →
          p ≠ s.tm.tables.params.signallerPort) :
        exec (.transmissionComplete dt p written) s = .next (finish (s.advance dt) (sets o')) :=
      next_event hrun dt ((transmissionEnds_starts (s := s.advance dt) hx hrestart written).trans
        (startPort_quiet rfl hchoose hquiet))
    refine ⟨fun hf hi => hstarts (OutPort.choose_nothing hf hi) fun _ _ _ hsent => (nomatch hsent),
      fun f fs hf hi => hstarts (OutPort.choose_forward_alone hf hi) fun _ _ _ hsent => (nomatch hsent),
      fun f fs hf hi hr => hstarts (OutPort.choose_forward_counted hf hi hr) fun _ _ _ hsent => (nomatch hsent),
      fun q qs hi hturn hquiet => hstarts (OutPort.choose_insertion hi hturn) ?_⟩
    intro frame newFault overflow hsent
    obtain rfl : q = .status frame newFault overflow := by simpa using hsent
    exact hquiet.resolve_left Bool.noConfusion
  · intro o sent
    refine next_event hrun dt ((transmissionEnds_starts (s := s.advance dt) hx hrestart written).trans ?_)
    refine (startPort_left (s := s.advance dt) (o := { s.lnu.port p with sending := none }) rfl
      (OutPort.choose_insertion hi hturn) rfl hp).trans ((statusLeft_eq ..).trans ?_)
    cases p <;> rfl

/-! ## Placing (R164, R167, R168) -/

theorem forwardTo_full {p : Port} {s : State} (h : 4 ≤ (s.lnu.port p).forward.length) (frame : List Byte) :
    forwardTo p frame s = s :=
  if_neg (Nat.not_lt.2 h)

theorem forwardTo_room {p : Port} {s : State} (h : (s.lnu.port p).forward.length < 4) (frame : List Byte) :
    forwardTo p frame s =
      startPort p (s.withPort p { s.lnu.port p with forward := (s.lnu.port p).forward ++ [frame] }) :=
  if_pos h

theorem replyFits_iff (p : Port) (s : State) :
    replyFits p s = true ↔ ((s.lnu.port p).insertion.filter fun t => !t.isStatus).length < 7 :=
  decide_eq_true_iff

theorem placeReply_full {p : Port} {s : State}
    (h : 7 ≤ ((s.lnu.port p).insertion.filter fun t => !t.isStatus).length) (t : Inserted) : placeReply p t s = s :=
  if_neg (mt (replyFits_iff p s).1 (Nat.not_lt.2 h))

theorem placeReply_room {p : Port} {s : State}
    (h : ((s.lnu.port p).insertion.filter fun t => !t.isStatus).length < 7) (t : Inserted) :
    placeReply p t s =
      startPort p (s.withPort p { s.lnu.port p with insertion := (s.lnu.port p).insertion ++ [t] }) :=
  if_pos ((replyFits_iff p s).2 h)

theorem placeAnswer_eq {q : QueuedCommand} {s : State} {code tag : Byte} {args : List Byte} {a : Nat}
    (hq : q.payload = code :: tag :: args) (ha : answeringAddress s = some a) (reply : ReplyCode)
    (data : List Byte) :
    placeAnswer q reply data s =
      placeReply q.port (.reply (frameOf q.source a 4 (code :: tag :: reply.code :: data)) false) s := by
  rw [placeAnswer, replyFrame, replyPayload, hq, sourceAddress_of_answering ha]
  rfl

theorem placeStatusIn_eq (t : Inserted) (q : List Inserted) : placeStatusIn t q =
    if ∃ w ∈ q, w.isStatus = true then q.map fun w => if w.isStatus then t else w else q ++ [t] := by
  simp only [placeStatusIn, List.any_eq_true]

/-- A telegram placed on an idle port with nothing waiting is the one that its arbiter chooses. -/
theorem OutPort.choose_placed {o : OutPort} (hi : o.insertion = []) (hf : o.forward = []) {q : List Inserted}
    {t : Inserted} (hq : q = [t]) :
    OutPort.choose { o with insertion := q } = { o with run := 0, sending := some (.inserted t) } := by
  rw [OutPort.choose_insertion (o := { o with insertion := q }) hq (.inl hf), ← hi]

theorem OutPort.choose_forwarded {o : OutPort} (hi : o.insertion = []) (hf : o.forward = []) (frame : List Byte) :
    OutPort.choose { o with forward := o.forward ++ [frame] } = { o with sending := some (.forwarded frame) } := by
  rw [OutPort.choose_forward_alone (o := { o with forward := o.forward ++ [frame] })
    (congrArg (· ++ [frame]) hf) hi, ← hf]

/-- Settles O10: each telegram by what waits on its port and by whether the port is idle. -/
theorem telegramsArePlaced : Obligations.TelegramsArePlaced := by
  refine ⟨fun s p frame => ?_, fun s q code tag args reply data a hq ha => ?_, fun s p t x ht hx => ?_,
    fun s p frame newFault overflow => ?_⟩
  · intro o
    refine ⟨fun hfull => forwardTo_full hfull frame,
      fun x hroom hx => (forwardTo_room hroom frame).trans (startPort_busy hx), fun hf hi hidle => ?_⟩
    have hroom : (s.lnu.port p).forward.length < 4 := by
      rw [show (s.lnu.port p).forward = [] from hf]; decide
    exact (forwardTo_room hroom frame).trans (startPort_quiet hidle (OutPort.choose_forwarded hi hf frame)
      fun _ _ _ hsent => (nomatch hsent))
  · intro o r waiting
    rw [placeAnswer_eq hq ha]
    refine ⟨fun hfull => placeReply_full hfull r,
      fun x hroom hx => (placeReply_room hroom r).trans (startPort_busy hx), fun hi hf hidle => ?_⟩
    have hroom : ((s.lnu.port q.port).insertion.filter fun t => !t.isStatus).length < 7 := by
      rw [show (s.lnu.port q.port).insertion = [] from hi]; decide
    have hplaced : o.insertion ++ [r] = [r] := congrArg (· ++ [r]) hi
    exact (placeReply_room hroom r).trans (startPort_quiet hidle (OutPort.choose_placed hi hf hplaced)
      fun _ _ _ hsent => by simp [r] at hsent)
  · intro o
    rw [← placeStatusIn_eq]
    exact startPort_busy hx
  · intro o t hi hf hidle sent
    have hchoose := OutPort.choose_placed hi hf (congrArg (placeStatusIn t) hi)
    refine ⟨fun hp => startPort_quiet hidle hchoose fun _ _ _ _ => hp, fun hp => ?_⟩
    refine (startPort_left (o := { o with insertion := placeStatusIn t o.insertion }) hidle hchoose rfl hp).trans
      ((statusLeft_eq ..).trans ?_)
    cases p <;> rfl

end Sys2Proof.Machine
end

section
/-! FAULT_ACCEPT: obligation O13 (R149, R171, R172). -/

namespace Sys2Proof.Machine

set_option Elab.async false

/-! ## A command whose general checks fail (R171, R172) -/

theorem authorised_iff (s : State) (cls : CommandClass) (source : Nat) :
    authorised s.tm.tables s.tm.valid cls source = true ↔ MayGive s source cls := by
  cases cls <;> simp only [authorised, MayGive, Bool.or_eq_true, Bool.not_eq_true', holdsRole_iff, or_assoc]

theorem generalCheck_unauthorised {c : Command} {q : QueuedCommand} {s : State} (h : ¬ MayGive s q.source c.cls) :
    generalCheck c q s = some .refusedAuthority := by
  have hno := Bool.eq_false_iff.2 (mt (authorised_iff ..).1 h)
  rw [generalCheck, hno]
  rfl

theorem generalCheck_notValid {c : Command} {q : QueuedCommand} {s : State} (h : MayGive s q.source c.cls)
    (hcls : c.cls = .signaller) (hc : c ≠ .returnToUse) (hv : s.tm.valid = false) :
    generalCheck c q s = some .refusedState := by
  rw [generalCheck, (authorised_iff ..).2 h]
  simp [hcls, hc, hv]

/-- The event of a command that a general check refuses: the reply is its only effect. -/
theorem Processes.event_refused {s : State} {q : QueuedCommand} {code : Byte} {args : List Byte}
    (h : Processes s q code args) {c : Command} (hcode : Command.fromCode code.toNat = some c)
    {own : QueuedCommand → State → Answered} {dt : Time} {reply : ReplyCode}
    (hcheck : generalCheck c q (s.advance dt) = some reply) :
    event dt (complete c own) s = finish (s.advance dt) (answered q reply [] (s.advance dt)) := by
  have hcompleting : completing (s.advance dt) = some q := h.completing_eq
  rw [event_of_running h.1]
  simp [complete, hcompleting, h.answerable, h.named_eq, hcode, hcheck, answered]

/-! ## The fault table accepted (R149) -/

/-- What FAULT_ACCEPT makes of one record: a LATCHED one goes, any other is ACCEPTED_ACTIVE. -/
theorem FaultRecorder.accept_eq (f : FaultRecorder) : f.accept =
    { records := f.records.filterMap fun r =>
        match r.state with
        | .latched => none
        | .active | .acceptedActive => some { r with state := .acceptedActive }
      dropped := false } := by
  rw [FaultRecorder.accept, ← List.filterMap_eq_map, List.filterMap_filter]
  congr 2
  funext r
  cases hr : r.state <;> rfl

/-- Settles O13: the two checks by the general checks of the processor, the effect record by record. -/
theorem faultsAreAccepted : Obligations.FaultsAreAccepted := by
  intro s q dt hq replied
  refine ⟨fun hrole => ?_, fun hrole hv => ?_, fun hrole hv => ?_⟩
  · exact congrArg Host.Outcome.next (hq.event_refused (c := .faultAccept) rfl
      (generalCheck_unauthorised (s := s.advance dt) hrole))
  · exact congrArg Host.Outcome.next (hq.event_refused (c := .faultAccept) rfl
      (generalCheck_notValid (s := s.advance dt) hrole rfl (by decide) hv))
  · have hby : BySignaller s q 3 [] := ⟨hq, hrole, hv⟩
    have hown : ownFaultAccept q (s.advance dt) =
        answer .done { s.advance dt with faults := s.faults.accept } := rfl
    rw [FaultRecorder.accept_eq] at hown
    exact congrArg Host.Outcome.next (hby.event_eq (c := .faultAccept) rfl rfl rfl hown)

end Sys2Proof.Machine
end

section
/-! SAVE_TABLES and the save run: obligation O18 (R151, R153, R182, R184, R185). -/

namespace Sys2Proof.Machine

set_option Elab.async false

/-! ## A save run that is cut off (R185) -/

theorem partialSave_getElem? (written : Nat) (image old : List Word) {i : Nat} (h : i < 426) :
    (partialSave written image old)[i]? = some (
      if i = 1 then (if 427 ≤ written then 1 else 0)
      else if i = 0 then (if 2 ≤ written then image.getD 0 0xFFFF else old.getD 0 0xFFFF)
      else if i + 1 ≤ written then image.getD i 0xFFFF else old.getD i 0xFFFF) := by
  have hlt : i < Config.imageWords := h
  rw [partialSave, List.getElem?_map, List.getElem?_range hlt]
  rfl

/-- Before the last write the format word is 0. -/
theorem partialSave_format {written : Nat} (h : written < 427) (image old : List Word) :
    (partialSave written image old)[1]? = some 0 := by
  rw [partialSave_getElem? _ _ _ (by decide), if_pos rfl, if_neg (Nat.not_le.2 h)]

/-- After the last write the image stands whole. -/
theorem partialSave_whole {image : List Word} (hlength : image.length = 426) (hformat : image[1]? = some 1)
    (old : List Word) : partialSave 427 image old = image := by
  refine List.ext_getElem? fun i => ?_
  rcases Nat.lt_or_ge i 426 with hi | hi
  · have himage : image[i]? = some (image.getD i 0xFFFF) := by
      rw [List.getElem?_eq_getElem (hlength ▸ hi), List.getD_eq_getElem _ _ (hlength ▸ hi)]
    rw [partialSave_getElem? _ _ _ hi]
    split
    next h1 => rw [h1, hformat]; rfl
    next =>
      split
      next h0 => rw [himage, h0]; rfl
      next => rw [himage, if_pos (by omega)]
  · have hpartial : (partialSave 427 image old).length = 426 := (List.length_map _).trans List.length_range
    rw [List.getElem?_eq_none (hpartial.trans_le hi), List.getElem?_eq_none (hlength.trans_le hi)]

/-- A store with format word 0 fails the image checks (R187). -/
theorem imagePasses_of_format_zero {store : List Word} (h : store[1]? = some 0) :
    imagePasses (readStore true store) = false := by
  refine Bool.eq_false_iff.2 fun hpasses => ?_
  obtain ⟨-, hformat, -⟩ := (imagePasses_iff _).1 hpasses
  have hread : (readStore true store).getD 1 0 = store.getD 1 0xFFFF := by
    simp [readStore, Config.imageWords]
  rw [hread, List.getD_eq_getElem?_getD, h] at hformat
  exact absurd hformat (by decide)

section
variable {s : State}

theorem cutStore_running (h : s.tm.saveRun = .running) (written : Nat) :
    cutStore written s = partialSave (max 1 (min written 427)) s.tm.saveImage s.store :=
  if_pos h

theorem cutStore_idle (h : s.tm.saveRun ≠ .running) (written : Nat) : cutStore written s = s.store :=
  if_neg h

end

/-! ## SAVE_TABLES (R184) -/

section
variable (q : QueuedCommand) {s : State}

theorem ownSaveTables_refused (h : s.crossing.state ≠ .outOfUse ∨ ¬ NothingRuns s) :
    ownSaveTables q s = refuse .refusedState s := by
  unfold ownSaveTables
  split
  · rfl
  next hout =>
    have hs : s.crossing.state = .outOfUse := (outOfUse_iff s).1 (by simpa using hout)
    exact if_pos ((anyRunning_iff s).2 (h.resolve_left (absurd hs)))

section
variable (hs : s.crossing.state = .outOfUse) (hruns : NothingRuns s)
include hs hruns

theorem ownSaveTables_failed {f : Failure} (hv : validate s.tm.tables = .failed f) :
    ownSaveTables q s = { state := s, code := .refusedArgument, data := failureData f } := by
  have hrun : ¬ anyRunning s = true := mt (anyRunning_iff s).1 (not_not.2 hruns)
  rw [ownSaveTables, (outOfUse_iff s).2 hs, if_neg (by decide), if_neg hrun, hv]

theorem ownSaveTables_passed {d : Derived} (hv : validate s.tm.tables = .passed d) :
    ownSaveTables q s = answer .accepted (validationPassed d (startSave s)) := by
  have hrun : ¬ anyRunning s = true := mt (anyRunning_iff s).1 (not_not.2 hruns)
  rw [ownSaveTables, (outOfUse_iff s).2 hs, if_neg (by decide), if_neg hrun, hv]

end

end

/-- Settles O18: the store by how far the run had come, the run's end, and the command by its own work in each case. -/
theorem saveRunsStartAndEnd : Obligations.SaveRunsStartAndEnd := by
  refine ⟨fun s written => ⟨fun hrun hlt => ?_, fun hrun hge hlength hformat => ?_, fun h => cutStore_idle h written⟩,
    fun s dt readBack hrun hsave => next_event hrun dt (if_pos hsave), fun s q dt hq => ?_⟩
  · have hzero : (cutStore written s)[1]? = some 0 := by
      rw [cutStore_running hrun]
      exact partialSave_format (by omega) ..
    exact ⟨hzero, imagePasses_of_format_zero hzero⟩
  · rw [cutStore_running hrun, Nat.min_eq_right hge]
    exact partialSave_whole hlength hformat _
  · intro replied
    have hexec {reply : ReplyCode} {data : List Byte} {u : State}
        (hown : ownSaveTables q (s.advance dt) = { state := u, code := reply, data := data }) :
        exec (.saveTables dt) s = replied reply data u :=
      congrArg Host.Outcome.next (hq.event_eq (c := .saveTables) rfl rfl rfl hown)
    exact ⟨fun h => hexec (ownSaveTables_refused (s := s.advance dt) q h),
      fun f hs hruns hv => hexec (ownSaveTables_failed (s := s.advance dt) q hs hruns hv),
      fun d hs hruns hv => hexec (ownSaveTables_passed (s := s.advance dt) q hs hruns hv)⟩

end Sys2Proof.Machine
end

section
/-! PASSAGE_CLOSE and PASSAGE_RELEASE: obligation O21 (R156 to R158, R172). -/

namespace Sys2Proof.Machine

set_option Elab.async false

/-! ## The FILLING bank -/

section
variable {r : ReportUnit}

theorem fillingBank_bank0 (h0 : r.bank0.state = .filling) : r.fillingBank = some false := if_pos h0

theorem fillingBank_bank1 (h0 : r.bank0.state ≠ .filling) (h1 : r.bank1.state = .filling) :
    r.fillingBank = some true :=
  (if_neg h0).trans (if_pos h1)

/-- A bank that is EMPTY as the other becomes READY fills. -/
def Bank.filled (b : Bank) : Bank := if b.state = .empty then { b with state := .filling } else b

theorem makeReady_bank0 (r : ReportUnit) : r.makeReady false =
    { r with bank0 := { r.bank0 with state := .ready }, bank1 := r.bank1.filled } := by
  by_cases h : r.bank1.state = .empty <;>
    simp [ReportUnit.makeReady, ReportUnit.bank, ReportUnit.setBank, Bank.filled, h]

theorem makeReady_bank1 (r : ReportUnit) : r.makeReady true =
    { r with bank0 := r.bank0.filled, bank1 := { r.bank1 with state := .ready } } := by
  by_cases h : r.bank0.state = .empty <;>
    simp [ReportUnit.makeReady, ReportUnit.bank, ReportUnit.setBank, Bank.filled, h]

end

/-! ## What each command makes of the banks (R157, R158) -/

section
variable (q : QueuedCommand) {s : State}

theorem ownPassageClose_closes {one : Bool} (hone : s.report.fillingBank = some one)
    (hrecords : (s.report.bank one).records ≠ []) :
    ownPassageClose q s = answer .done { s with report := s.report.makeReady one } := by
  simp [ownPassageClose, hone, hrecords]

/-- A bank that fills and holds no record stays as it is, and so do two of which none fills. -/
theorem ownPassageClose_none (h : ∀ one, s.report.fillingBank = some one → (s.report.bank one).records = []) :
    ownPassageClose q s = answer .noEffect s := by
  unfold ownPassageClose
  cases hone : s.report.fillingBank with
  | none => rfl
  | some one => simp [h one hone]

end

section
variable {q : QueuedCommand} {s : State}

theorem ownPassageRelease_unknown (h : 2 ≤ q.arg 0) : ownPassageRelease q s = refuse .refusedArgument s := by
  simp only [ownPassageRelease, bankNumber_none h]

theorem ownPassageRelease_unready {one : Bool} (hone : bankNumber (q.arg 0) = some one)
    (h : (s.report.bank one).state ≠ .ready) : ownPassageRelease q s = refuse .refusedState s := by
  simp only [ownPassageRelease, hone, if_neg h]

theorem ownPassageRelease_releases {one : Bool} (hone : bankNumber (q.arg 0) = some one)
    (h : (s.report.bank one).state = .ready) :
    ownPassageRelease q s = answer .done { s with report := s.report.releaseBank one } := by
  simp only [ownPassageRelease, hone, if_pos h]

end

/-- Settles O21: each command by its own work in each case, and the refusals by the general checks. -/
theorem banksAreClosedAndReleased : Obligations.BanksAreClosedAndReleased := by
  intro s q dt replied b0 b1 filled emptied
  refine ⟨fun hq => ?_, fun hmay => ⟨fun hq => ?_, fun arg hq => ?_⟩, fun arg hq => ?_⟩
  · have hexec {reply : ReplyCode} {report : ReportUnit} (hown : ownPassageClose q (s.advance dt) =
        answer reply { s.advance dt with report := report }) : exec (.passageClose dt) s = replied reply report :=
      congrArg Host.Outcome.next (hq.event_eq (c := .passageClose) rfl rfl rfl hown)
    refine ⟨fun h0 hrecords => hexec ?_, fun h0 h1 hrecords => hexec ?_, fun h0 h1 => hexec ?_⟩
    · rw [ownPassageClose_closes (s := s.advance dt) q (fillingBank_bank0 h0) hrecords, makeReady_bank0]
      rfl
    · rw [ownPassageClose_closes (s := s.advance dt) q (fillingBank_bank1 h0 h1) hrecords, makeReady_bank1]
      rfl
    · refine ownPassageClose_none (s := s.advance dt) q fun one hone => ?_
      have hfilling := fillingBank_state hone
      cases one with
      | false => exact h0 hfilling
      | true => exact h1 hfilling
  · exact congrArg Host.Outcome.next (hq.event_refused (c := .passageClose) rfl
      (generalCheck_unauthorised (s := s.advance dt) hmay))
  · exact congrArg Host.Outcome.next (hq.event_refused (c := .passageRelease) rfl
      (generalCheck_unauthorised (s := s.advance dt) hmay))
  · have hexec {reply : ReplyCode} {report : ReportUnit} (hown : ownPassageRelease q (s.advance dt) =
        answer reply { s.advance dt with report := report }) : exec (.passageRelease dt) s = replied reply report :=
      congrArg Host.Outcome.next (hq.event_eq (c := .passageRelease) rfl rfl rfl hown)
    have harg : q.arg 0 = arg.toNat := hq.1.arg_eq 0
    have hbank0 (h : arg.toNat = 0) : bankNumber (q.arg 0) = some false := by rw [harg, h]; rfl
    have hbank1 (h : arg.toNat = 1) : bankNumber (q.arg 0) = some true := by rw [harg, h]; rfl
    refine ⟨fun h => hexec (ownPassageRelease_unknown (harg ▸ h)),
      fun h hstate => hexec (ownPassageRelease_unready (hbank0 h) hstate),
      fun h hstate => hexec (ownPassageRelease_unready (hbank1 h) hstate),
      fun h hstate => hexec (ownPassageRelease_releases (hbank0 h) hstate),
      fun h hstate => hexec (ownPassageRelease_releases (hbank1 h) hstate)⟩

end Sys2Proof.Machine
end

section
/-! What a report makes of the fault table: obligation O36 (R141 to R143). -/

namespace Sys2Proof.Machine

set_option Elab.async false

theorem isFor_eq_decide (r : FaultRecord) (c : FaultCode) (x : Option Nat) :
    r.isFor c x = decide (r.code = c ∧ r.subject = x) :=
  Bool.eq_iff_iff.2 (isFor_iff.trans decide_eq_true_iff.symm)

theorem findRecord_eq_find? (rs : List FaultRecord) (c : FaultCode) (x : Option Nat) :
    findRecord rs c x = rs.find? fun r => decide (r.code = c ∧ r.subject = x) := by
  simp only [findRecord, isFor_eq_decide]

/-- The fault table with the record of a pair updated in its place. -/
def FaultRecorder.placed (f : FaultRecorder) (c : FaultCode) (x : Option Nat) (g : FaultRecord → FaultRecord) :
    FaultRecorder :=
  { f with records := updateRecord f.records c x g }

theorem FaultRecorder.placed_eq (f : FaultRecorder) (c : FaultCode) (x : Option Nat) (g : FaultRecord → FaultRecord) :
    f.placed c x g =
      { f with records := f.records.map fun r => if decide (r.code = c ∧ r.subject = x) then g r else r } := by
  simp only [FaultRecorder.placed, updateRecord, isFor_eq_decide]

section
variable {f : FaultRecorder} {c : FaultCode} {x : Option Nat}

/-! ## The record is held -/

section
variable {r : FaultRecord} (h : findRecord f.records c x = some r)
include h

theorem presented_latched (hs : r.state = .latched) (now : Time) : f.presented c x now = f.placed c x fun r =>
    { r with state := .active, lastTime := now, occurrences := min 255 (r.occurrences + 1) } := by
  simp only [FaultRecorder.presented, h, hs]
  rfl

theorem presented_open (hs : r.state ≠ .latched) (now : Time) :
    f.presented c x now = f.placed c x fun r => { r with lastTime := now } := by
  simp only [FaultRecorder.presented, h]
  cases hstate : r.state with
  | latched => exact absurd hstate hs
  | active | acceptedActive => rfl

theorem ended_active (hs : r.state = .active) : f.ended c x = f.placed c x fun r => { r with state := .latched } := by
  simp only [FaultRecorder.ended, h, hs]
  rfl

theorem ended_accepted (hs : r.state = .acceptedActive) :
    f.ended c x = { f with records := f.records.filter fun r => !r.isFor c x } := by
  simp only [FaultRecorder.ended, h, hs]

theorem ended_latched (hs : r.state = .latched) : f.ended c x = f := by
  simp only [FaultRecorder.ended, h, hs]

theorem evented_held (detail : Option CalReason) (now : Time) : f.evented c x detail now = f.placed c x fun r =>
    { r with lastTime := now, occurrences := min 255 (r.occurrences + 1), detail := detail } := by
  simp only [FaultRecorder.evented, h]
  rfl

end

/-! ## No record is held -/

/-- A new record of a code and subject. -/
def newRecord (c : FaultCode) (x : Option Nat) (now : Time) (state : RecordState) (detail : Option CalReason) :
    FaultRecord :=
  { code := c, subject := x, state := state, firstTime := now, lastTime := now, occurrences := 1, detail := detail }

section
variable (h : findRecord f.records c x = none)
include h

theorem ended_none : f.ended c x = f := by
  simp only [FaultRecorder.ended, h]

theorem presented_new (now : Time) : f.presented c x now = (f.enter (newRecord c x now .active none)).1 := by
  simp only [FaultRecorder.presented, h]
  rfl

theorem evented_new (detail : Option CalReason) (now : Time) :
    f.evented c x detail now = (f.enter (newRecord c x now .latched detail)).1 := by
  simp only [FaultRecorder.evented, h]
  rfl

end

/-- A table with room takes a new record behind the others. -/
theorem enter_room (h : f.records.length < 32) (r : FaultRecord) :
    f.enter r = ({ f with records := f.records ++ [r] }, true) :=
  if_pos h

end

theorem conditionEnd_same {c : FaultCode} {x : Option Nat} {s : State} (h : s.faults.ended c x = s.faults) :
    conditionEnd c x s = s := by
  rw [conditionEnd_eq, h]

/-- Settles O36: the record held by its state, and the record not held by the room there is. -/
theorem faultReportsUpdateTheTable : Obligations.FaultReportsUpdateTheTable := by
  intro s c sub detail rs isIt placed newOne
  simp only [conditionPresent_faults, conditionEnd_faults, eventEntered_faults]
  have hfind : rs.find? isIt = findRecord s.faults.records c sub := (findRecord_eq_find? ..).symm
  have hplaced (g : FaultRecord → FaultRecord) : s.faults.placed c sub g = placed g := FaultRecorder.placed_eq ..
  refine ⟨fun r hr => ?_, fun hnone => ?_⟩
  · have hheld := hfind.symm.trans hr
    refine ⟨fun hs => (presented_latched hheld hs s.now).trans (hplaced _),
      fun hs => (presented_open hheld hs s.now).trans (hplaced _),
      fun hs => (ended_active hheld hs).trans (hplaced _), fun hs => (ended_accepted hheld hs).trans ?_,
      fun hs => conditionEnd_same (ended_latched hheld hs), (evented_held hheld detail s.now).trans (hplaced _)⟩
    simp only [isFor_eq_decide]
    rfl
  · have hnew := hfind.symm.trans hnone
    rw [presented_new hnew, evented_new hnew]
    refine ⟨conditionEnd_same (ended_none hnew), fun hroom => ?_, fun _ => ⟨rfl, rfl⟩⟩
    rw [enter_room hroom, enter_room hroom]
    exact ⟨rfl, rfl⟩

end Sys2Proof.Machine
end

section
/-! Displacement in a full fault table, the new-fault mark and the ALARM notice: obligation O37 (R144, R145, R148, R152). -/

namespace Sys2Proof.Machine

set_option Elab.async false

/-! ## Displacement (R144) -/

/-- The first place whose record a test selects. -/
theorem findIdx?_first {rs : List FaultRecord} {test : FaultRecord → Bool} {i : Nat} {r : FaultRecord}
    (hi : rs[i]? = some r) (hr : test r = true) (hfirst : ∀ j r', j < i → rs[j]? = some r' → test r' = false) :
    rs.findIdx? test = some i := by
  obtain ⟨hlt, rfl⟩ := List.getElem?_eq_some_iff.1 hi
  refine List.findIdx?_eq_some_iff_getElem.2 ⟨hlt, hr, fun j hj => ?_⟩
  exact Bool.eq_false_iff.1 (hfirst j _ hj (List.getElem?_eq_getElem (hj.trans hlt)))

theorem lowestLatchedRank_eq {rs : List FaultRecord} {r : FaultRecord} (hr : r ∈ rs) (hl : r.state = .latched)
    (hleast : ∀ r' ∈ rs, r'.state = .latched → r.code.cls.rank ≤ r'.code.cls.rank) :
    lowestLatchedRank rs = r.code.cls.rank := by
  obtain ⟨q, hq, hql, hqr⟩ := lowestLatchedRank_attained hr hl
  refine Nat.le_antisymm ((foldl_min_le _ 3).2 _ ?_) (hqr ▸ hleast q hq hql)
  exact List.mem_map.2 ⟨r, List.mem_filter.2 ⟨hr, beq_iff_eq.2 hl⟩, rfl⟩

/-- The oldest LATCHED record of the lowest class among the LATCHED ones gives way, whatever is new. -/
theorem displacedPlace_latched {rs : List FaultRecord} {i : Nat} {r : FaultRecord} (hi : rs[i]? = some r)
    (hl : r.state = .latched)
    (hleast : ∀ r' ∈ rs, r'.state = .latched → r.code.cls.rank ≤ r'.code.cls.rank)
    (holdest : ∀ j r', j < i → rs[j]? = some r' → r'.state = .latched → r.code.cls.rank < r'.code.cls.rank)
    (cls : FaultClass) : displacedPlace rs cls = some i := by
  have hrank := lowestLatchedRank_eq (List.mem_of_getElem? hi) hl hleast
  have hfirst := findIdx?_first (test := fun r => r.state == .latched && r.code.cls.rank == lowestLatchedRank rs) hi
    (by simp [hl, hrank]) fun j r' hj hr' => by
      rw [Bool.and_eq_false_imp, beq_iff_eq, beq_eq_false_iff_ne, hrank]
      exact fun hs => (holdest j r' hj hr' hs).ne'
  simp only [displacedPlace, hfirst]

section
variable {rs : List FaultRecord} (hnone : ∀ r ∈ rs, ¬ r.state = .latched)
include hnone

theorem findIdx?_latched_none :
    rs.findIdx? (fun r => r.state == .latched && r.code.cls.rank == lowestLatchedRank rs) = none :=
  List.findIdx?_eq_none_iff.2 fun r hr => by simp [hnone r hr]

theorem displacedPlace_refused {cls : FaultClass} (hcls : cls ≠ .alarm) : displacedPlace rs cls = none := by
  simp only [displacedPlace, findIdx?_latched_none hnone]
  cases cls with
  | notice | degraded => rfl
  | alarm => exact absurd rfl hcls

/-- With none LATCHED the oldest record of a lower class gives way to an ALARM one. -/
theorem displacedPlace_alarm {i : Nat} {r : FaultRecord} (hi : rs[i]? = some r) (hr : r.code.cls ≠ .alarm)
    (holdest : ∀ j r', j < i → rs[j]? = some r' → r'.code.cls = .alarm) : displacedPlace rs .alarm = some i := by
  simp only [displacedPlace, findIdx?_latched_none hnone]
  exact findIdx?_first hi (by simp [hnone r (List.mem_of_getElem? hi), hr])
    fun j r' hj hr' => by simp [holdest j r' hj hr']

end

section
variable {f : FaultRecorder} {new : FaultRecord} (hfull : 32 ≤ f.records.length)
include hfull

theorem enter_refused (h : displacedPlace f.records new.code.cls = none) :
    f.enter new = ({ f with dropped := true }, false) := by
  have hroom : ¬ f.records.length < Config.faultCap := Nat.not_lt.2 hfull
  simp only [FaultRecorder.enter, if_neg hroom, h]

/-- The record displaced sets the records-dropped flag if its condition was present. -/
theorem enter_displaces {i : Nat} {r : FaultRecord} (h : displacedPlace f.records new.code.cls = some i)
    (hr : f.records[i]? = some r) : f.enter new =
      ({ records := f.records.eraseIdx i ++ [new], dropped := f.dropped || r.state != .latched }, true) := by
  have hroom : ¬ f.records.length < Config.faultCap := Nat.not_lt.2 hfull
  simp only [FaultRecorder.enter, if_neg hroom, h, hr, Option.map_some, Option.getD_some]

end

/-! ## The mark and the notice (R145, R148, R152) -/

/-- The report mask holds the code back (R148). -/
def Masked (c : FaultCode) (s : State) : Prop := ∃ h : c.number < 26, s.tm.tables.reportMask[c.number] = true

theorem masked_iff (c : FaultCode) (s : State) :
    (s.tm.tables.reportMask[c.number]?).getD false = true ↔ Masked c s := by
  have hlt : c.number < 26 := by cases c <;> decide
  rw [Vector.getElem?_eq_getElem hlt, Option.getD_some]
  exact ⟨fun h => ⟨hlt, h⟩, fun ⟨_, h⟩ => h⟩

theorem markNewFault_masked {c : FaultCode} {s : State} (h : Masked c s) : (markNewFault c s).report = s.report :=
  congrArg State.report (if_pos ((masked_iff c s).2 h))

theorem markNewFault_unmasked {c : FaultCode} {s : State} (h : ¬ Masked c s) :
    (markNewFault c s).report = { s.report with newFault := true, fresh := true } :=
  congrArg State.report (if_neg (mt (masked_iff c s).1 h))

theorem becameActive_report (c : FaultCode) (s : State) : (becameActive c s).report = (markNewFault c s).report := by
  unfold becameActive
  dsimp only
  split <;> rfl

theorem becameActive_handed_alarm {c : FaultCode} (h : c.cls = .alarm) (s : State) :
    (becameActive c s).handed = { s.handed with alarm := true } := by
  have hhanded : (markNewFault c s).handed = s.handed := (markNewFault_frame c s).handed (by decide)
  rw [becameActive, h, ← hhanded]
  rfl

theorem becameActive_handed_other {c : FaultCode} (h : c.cls ≠ .alarm) (s : State) :
    (becameActive c s).handed = s.handed := by
  have hhanded : (markNewFault c s).handed = s.handed := (markNewFault_frame c s).handed (by decide)
  exact (congrArg State.handed (if_neg (mt beq_iff_eq.1 h))).trans hhanded

/-- The report of a condition makes a record ACTIVE: a LATCHED one, or a new one that is entered (R141). -/
def Activates (f : FaultRecorder) (c : FaultCode) (x : Option Nat) (now : Time) : Prop :=
  (∃ r, findRecord f.records c x = some r ∧ r.state = .latched) ∨
    (¬ (∃ r, findRecord f.records c x = some r) ∧ (f.enter (newRecord c x now .active none)).2 = true)

/-- The report of an event counts into a record, or enters one (R143). -/
def Counts (f : FaultRecorder) (c : FaultCode) (x : Option Nat) (detail : Option CalReason) (now : Time) : Prop :=
  (∃ r, findRecord f.records c x = some r) ∨ (f.enter (newRecord c x now .latched detail)).2 = true

section
variable {c : FaultCode} {x : Option Nat} {s : State}

/-- A condition that makes no record ACTIVE changes the table alone. -/
theorem conditionPresent_silent (h : ¬ Activates s.faults c x s.now) :
    conditionPresent c x s = { s with faults := s.faults.presented c x s.now } := by
  unfold conditionPresent FaultRecorder.presented
  cases hfind : findRecord s.faults.records c x with
  | some r =>
    cases hs : r.state with
    | latched => exact absurd (.inl ⟨r, hfind, hs⟩) h
    | active | acceptedActive => simp only [hs]
  | none =>
    refine if_neg fun hentered => h (.inr ⟨?_, hentered⟩)
    rintro ⟨r, hr⟩
    cases hfind.symm.trans hr

theorem conditionPresent_activates (h : Activates s.faults c x s.now) :
    conditionPresent c x s = becameActive c { s with faults := s.faults.presented c x s.now } := by
  unfold conditionPresent FaultRecorder.presented
  rcases h with ⟨r, hfind, hs⟩ | ⟨hnone, hentered⟩
  · simp only [hfind, hs]
  · rw [Option.eq_none_iff_forall_ne_some.2 fun r hr => hnone ⟨r, hr⟩]
    exact if_pos hentered

theorem eventEntered_counts {detail : Option CalReason} (h : Counts s.faults c x detail s.now) :
    eventEntered c x detail s = markNewFault c { s with faults := s.faults.evented c x detail s.now } := by
  unfold eventEntered FaultRecorder.evented
  cases hfind : findRecord s.faults.records c x with
  | some r => rfl
  | none => exact if_pos (h.resolve_left fun ⟨r, hr⟩ => by cases hfind.symm.trans hr)

/-- An event that finds no place changes the table alone. -/
theorem eventEntered_silent {detail : Option CalReason} (h : ¬ Counts s.faults c x detail s.now) :
    eventEntered c x detail s = { s with faults := s.faults.evented c x detail s.now } := by
  unfold eventEntered FaultRecorder.evented
  cases hfind : findRecord s.faults.records c x with
  | some r => exact absurd (.inl ⟨r, hfind⟩) h
  | none => exact if_neg fun hentered => h (.inr hentered)

end

/-- Settles O37: the place that displacement takes, then the mark and the notice by whether a record becomes ACTIVE or
an event counts. -/
theorem newRecordsDisplaceAndAreMarked : Obligations.NewRecordsDisplaceAndAreMarked := by
  refine ⟨fun f new hfull => ?_, fun s c sub detail => ?_⟩
  · intro rs entered latched
    refine ⟨fun i r hi hl hleast holdest => ?_, fun hnone => ⟨fun hcls => ?_, fun hcls i r hi hr holdest => ?_⟩⟩
    · rw [enter_displaces hfull (displacedPlace_latched hi hl hleast holdest _) hi, show r.state = .latched from hl]
      rfl
    · exact enter_refused hfull (displacedPlace_refused hnone hcls)
    · have hplace : displacedPlace f.records new.code.cls = some i := hcls ▸ displacedPlace_alarm hnone hi hr holdest
      have hopen : (r.state != .latched) = true := bne_iff_ne.2 (hnone r (List.mem_of_getElem? hi))
      rw [enter_displaces hfull hplace hi, hopen]
  · intro found held room activates counts masked marked present entered
    have hfound (r : FaultRecord) : findRecord s.faults.records c sub = some r ↔ found r := by
      rw [findRecord_eq_find?]
    have hactivates : activates ↔ Activates s.faults c sub s.now := by
      simp only [Activates, hfound]
      rfl
    have hcounts : counts ↔ Counts s.faults c sub detail s.now := by
      simp only [Counts, hfound]
      rfl
    rw [hactivates, hcounts]
    refine ⟨fun h => ?_, fun h => ?_, fun h => ?_, fun h => ?_, ?_, ?_, ?_⟩
    · have hpresent : present = becameActive c { s with faults := s.faults.presented c sub s.now } :=
        conditionPresent_activates h
      rw [hpresent, becameActive_report]
      exact ⟨fun hm => markNewFault_masked hm,
        fun hm => markNewFault_unmasked hm, fun hc => becameActive_handed_alarm hc _,
        fun hc => becameActive_handed_other hc _⟩
    · have hpresent : present = { s with faults := s.faults.presented c sub s.now } := conditionPresent_silent h
      rw [hpresent]
      exact ⟨rfl, rfl⟩
    · have hentered : entered = markNewFault c { s with faults := s.faults.evented c sub detail s.now } :=
        eventEntered_counts h
      rw [hentered]
      exact ⟨fun hm => markNewFault_masked hm,
        fun hm => markNewFault_unmasked hm⟩
    · have hentered : entered = { s with faults := s.faults.evented c sub detail s.now } := eventEntered_silent h
      rw [hentered]
    · exact (eventEntered_frame c sub detail s).handed (by decide)
    · rw [conditionEnd_eq]
    · rw [conditionEnd_eq]

end Sys2Proof.Machine
end

section
/-! The telegram framed and read, and its check: obligation O6 (R161, R189). -/

namespace Sys2Proof.Machine

set_option Elab.async false

/-! ## The check loses nothing (R161) -/

/-- The generator has its lowest bit set, so that the bit shifted out is seen in the lowest bit. -/
theorem crcShift_lowest (r : BitVec 16) : (crcShift r).getLsbD 0 = r.msb := by
  unfold crcShift
  split
  next h => simp [h]
  next h => simp [h]

theorem shiftLeft_one_injective {x y : BitVec 16} (hmsb : x.msb = y.msb) (h : x <<< 1 = y <<< 1) : x = y := by
  refine BitVec.eq_of_getLsbD_eq fun i hi => ?_
  rcases Nat.lt_or_ge i 15 with hlow | hhigh
  · have hbit := congrArg (fun z : BitVec 16 => z.getLsbD (i + 1)) h
    simpa [show i + 1 < 16 by omega, BitVec.getLsbD_eq_getElem hi] using hbit
  · obtain rfl : i = 15 := by omega
    simpa [BitVec.msb_eq_getLsbD_last] using hmsb

theorem crcShift_injective : Function.Injective crcShift := by
  intro x y h
  have hmsb : x.msb = y.msb := by rw [← crcShift_lowest, h, crcShift_lowest]
  refine shiftLeft_one_injective hmsb ?_
  unfold crcShift at h
  rw [hmsb] at h
  split at h
  · exact (BitVec.xor_left_inj _).1 h
  · exact h

/-- A byte enters the check by eight shifts of the register that it is added to. -/
theorem crcByte_eq_iff (r r' : BitVec 16) (b b' : Byte) :
    crcByte r b = crcByte r' b' ↔ r ^^^ (b.zeroExtend 16 <<< 8) = r' ^^^ (b'.zeroExtend 16 <<< 8) := by
  simp only [crcByte, crcShift_injective.eq_iff]

theorem crcByte_left_injective (b : Byte) : Function.Injective (crcByte · b) := fun r r' h =>
  (BitVec.xor_left_inj _).1 ((crcByte_eq_iff r r' b b).1 h)

theorem crcByte_right_injective (r : BitVec 16) : Function.Injective (crcByte r) := by
  intro b b' h
  have hshifted := (BitVec.xor_right_inj r).1 ((crcByte_eq_iff r r b b').1 h)
  refine BitVec.eq_of_getLsbD_eq fun i hi => ?_
  have hbit := congrArg (fun z : BitVec 16 => z.getLsbD (i + 8)) hshifted
  simpa [show i + 8 < 16 by omega, show i < 16 by omega] using hbit

theorem foldl_crcByte_injective (bs : List Byte) : Function.Injective (bs.foldl crcByte) := by
  induction bs with
  | nil => exact fun _ _ h => h
  | cons b bs ih => exact ih.comp (crcByte_left_injective b)

/-- Bytes that differ in one place have different checks, whatever the register holds before them. -/
theorem foldl_crcByte_set {bs : List Byte} {i : Nat} (hi : i < bs.length) {b : Byte} (r : BitVec 16)
    (h : (bs.set i b).foldl crcByte r = bs.foldl crcByte r) : bs[i]? = some b := by
  induction bs generalizing i r with
  | nil => exact absurd hi (Nat.not_lt_zero i)
  | cons x xs ih =>
    cases i with
    | zero => exact congrArg some (crcByte_right_injective r (foldl_crcByte_injective xs h)).symm
    | succ i => exact ih (Nat.lt_of_succ_lt_succ hi) _ h

/-! ## The two bytes of the check -/

theorem bytes16_injective {n m : Nat} (hn : n < 65536) (hm : m < 65536) (h : bytes16 n = bytes16 m) : n = m := by
  simp only [bytes16, List.cons.injEq, and_true] at h
  obtain ⟨hhigh, hlow⟩ := h
  replace hhigh := congrArg BitVec.toNat hhigh
  replace hlow := congrArg BitVec.toNat hlow
  simp only [toNat_byte] at hhigh hlow
  omega

theorem bytes16_of_bytes (high low : Byte) : bytes16 (high.toNat * 256 + low.toNat) = [high, low] := by
  have hlow := low.isLt
  have hdiv : (high.toNat * 256 + low.toNat) / 256 = high.toNat := by omega
  have hmod : byte (high.toNat * 256 + low.toNat) = low := by
    refine BitVec.eq_of_toNat_eq ((toNat_byte _).trans ?_)
    omega
  rw [bytes16, hdiv, hmod, byte_toNat]

theorem read16_of_drop {bs : List Byte} {n : Nat} {high low : Byte} (h : bs.drop n = [high, low]) :
    read16 bs n = high.toNat * 256 + low.toNat := by
  have hbyte (j : Nat) : bs[n + j]? = [high, low][j]? := by rw [← h, List.getElem?_drop]
  simp [read16, read8, List.getD_eq_getElem?_getD, hbyte 1, show bs[n]? = some high from hbyte 0]

/-! ## Bytes with the check behind them -/

/-- A body of bytes with the check over it. -/
def checked (body : List Byte) : List Byte := body ++ bytes16 (crc body).toNat

theorem frameOf_eq_checked (d s k : Nat) (payload : List Byte) :
    frameOf d s k payload = checked (byte d :: byte s :: byte k :: byte payload.length :: payload) := rfl

theorem checked_length (body : List Byte) : (checked body).length = body.length + 2 := by
  simp [checked, bytes16]

/-- One byte replaced leaves no body with its check, but where it is the byte that stood there: in the body it changes
the check, and behind an unchanged body the check has but one form. -/
theorem checked_set {body body' : List Byte} {i : Nat} {b : Byte} (hi : i < (checked body).length)
    (h : (checked body).set i b = checked body') : (checked body)[i]? = some b := by
  have hlength : body.length = body'.length := by
    simpa [checked_length] using congrArg List.length h
  by_cases hbody : i < body.length
  · have hset : body.set i b ++ bytes16 (crc body).toNat = checked body' :=
      (List.set_append_left i b hbody).symm.trans h
    obtain ⟨rfl, hcheck⟩ := List.append_inj hset (List.length_set.trans hlength)
    have hcrc : crc (body.set i b) = crc body :=
      BitVec.eq_of_toNat_eq (bytes16_injective (BitVec.isLt _) (BitVec.isLt _) hcheck).symm
    exact (List.getElem?_append_left hbody).trans (foldl_crcByte_set hbody _ hcrc)
  · have hset := (List.set_append_right i b (Nat.not_lt.1 hbody)).symm.trans h
    obtain ⟨rfl, -⟩ := List.append_inj hset hlength
    rw [← List.getElem?_set_self hi, h]

/-! ## The frame (11.1, R189) -/

theorem toNat_byte_of_lt {n : Nat} (h : n < 256) : (byte n).toNat = n := (toNat_byte n).trans (Nat.mod_eq_of_lt h)

/-- What the part frames is read with the fields it was framed with. -/
theorem readTelegram_frameOf {d s k : Nat} {payload : List Byte} (hd : d < 256) (hs : s < 256) (hk : k < 256)
    (hlength : payload.length ≤ 60) : readTelegram (frameOf d s k payload) = some
      { destination := d, source := s, kind := k, payload := payload, frame := frameOf d s k payload } := by
  have hl : (byte payload.length).toNat = payload.length := toNat_byte_of_lt (by omega)
  have hcheck (n : Nat) (hn : n < 65536) : read16 (payload ++ bytes16 n) payload.length = n := by
    rw [bytes16, read16_of_drop List.drop_left, toNat_byte, toNat_byte]
    omega
  have htake (check : List Byte) : (payload ++ check).take payload.length = payload := List.take_left
  simp only [frameOf, readTelegram, List.cons_append, hl, htake, toNat_byte_of_lt, hd, hs, hk]
  exact if_pos ⟨hlength, List.length_append, hcheck _ (BitVec.isLt _)⟩

/-- A telegram that is read was framed so. -/
theorem frameOf_of_readTelegram {frame : List Byte} {t : Telegram} (h : readTelegram frame = some t) :
    t.destination < 256 ∧ t.source < 256 ∧ t.kind < 256 ∧ t.payload.length ≤ 60 ∧
      frame = frameOf t.destination t.source t.kind t.payload := by
  unfold readTelegram at h
  split at h
  next d s k l rest =>
    dsimp only at h
    split at h
    next hgood =>
      obtain ⟨hmax, hlength, hcheck⟩ := hgood
      obtain rfl := Option.some.inj h
      have htake : (rest.take l.toNat).length = l.toNat := by
        rw [List.length_take]
        omega
      have hdrop : (rest.drop l.toNat).length = 2 := by
        rw [List.length_drop]
        omega
      obtain ⟨high, low, hend⟩ := List.length_eq_two.1 hdrop
      have hrest : rest = rest.take l.toNat ++ [high, low] := by rw [← hend, List.take_append_drop]
      have hframe : frameOf d.toNat s.toNat k.toNat (rest.take l.toNat) =
          d :: s :: k :: l :: (rest.take l.toNat ++ [high, low]) := by
        simp only [frameOf, byte_toNat, htake, ← hcheck, read16_of_drop hend, bytes16_of_bytes, List.cons_append]
      rw [← hrest] at hframe
      exact ⟨d.isLt, s.isLt, k.isLt, htake.trans_le hmax, hframe.symm⟩
    next => cases h
  next => cases h

/-- Settles O6: a good frame is its body and the check over it, and the check of a body changes with each of its
bytes. -/
theorem telegramsAreFramedAndChecked : Obligations.TelegramsAreFramedAndChecked := by
  refine ⟨fun d s k payload => readTelegram_frameOf, fun frame t ht => ?_, fun frame i b hgood hi _ hb => ?_⟩
  · obtain ⟨hd, hs, hk, hlength, hframe⟩ := frameOf_of_readTelegram ht
    exact ⟨hd, hs, hk, hlength, readTelegram_frame ht, hframe⟩
  obtain ⟨t, ht⟩ := Option.isSome_iff_exists.1 hgood
  obtain ⟨-, -, -, -, hframe⟩ := frameOf_of_readTelegram ht
  refine Option.eq_none_iff_forall_ne_some.2 fun t' ht' => hb ?_
  obtain ⟨-, -, -, -, hframe'⟩ := frameOf_of_readTelegram ht'
  rw [hframe, frameOf_eq_checked] at hi hframe' ⊢
  exact checked_set hi (hframe'.trans (frameOf_eq_checked ..))

end Sys2Proof.Machine
end

section
/-! The command queue and the processor: obligation O8 (R162, R169 to R171). -/

namespace Sys2Proof.Machine

set_option Elab.async false

/-! ## The processor takes a command (R171) -/

theorem takeCommand_idle {s : State} {c : QueuedCommand} {rest : List QueuedCommand}
    (hproc : s.lnu.processor = none) (hqueue : s.lnu.queue = c :: rest) :
    takeCommand s = { s with lnu := { s.lnu with processor := some c, queue := rest } } := by
  simp only [takeCommand, hproc, hqueue]

theorem takeCommand_busy {s : State} (hproc : s.lnu.processor ≠ none) : takeCommand s = s := by
  obtain ⟨c, hc⟩ := Option.ne_none_iff_exists'.1 hproc
  simp only [takeCommand, hc]

theorem takeCommand_nothing {s : State} (hqueue : s.lnu.queue = []) : takeCommand s = s := by
  cases hproc : s.lnu.processor <;> simp only [takeCommand, hproc, hqueue]

theorem freeProcessor_nothing {s : State} (hqueue : s.lnu.queue = []) :
    freeProcessor s = { s with lnu := { s.lnu with processor := none } } :=
  takeCommand_nothing (s := { s with lnu := { s.lnu with processor := none } }) hqueue

theorem freeProcessor_next {s : State} {c : QueuedCommand} {rest : List QueuedCommand}
    (hqueue : s.lnu.queue = c :: rest) :
    freeProcessor s = { s with lnu := { s.lnu with processor := some c, queue := rest } } :=
  takeCommand_idle (s := { s with lnu := { s.lnu with processor := none } }) rfl hqueue

/-! ## A command joins the queue (R169, R170) -/

section
variable {c : QueuedCommand} {s : State}

theorem joinQueue_full (h : 8 ≤ s.lnu.queue.length) :
    joinQueue c s = { s with lnu := { s.lnu with overflow := true, lateDiscard := true } } :=
  if_neg (Nat.not_lt.2 h)

theorem joinQueue_room (h : s.lnu.queue.length < 8) :
    joinQueue c s = takeCommand { s with lnu := { s.lnu with queue := s.lnu.queue ++ [c] } } :=
  if_pos h

theorem joinQueue_waits (h : s.lnu.queue.length < 8) (hproc : s.lnu.processor ≠ none) :
    joinQueue c s = { s with lnu := { s.lnu with queue := s.lnu.queue ++ [c] } } :=
  (joinQueue_room h).trans (takeCommand_busy hproc)

/-- A command that finds the processor idle and nothing waiting goes straight to it. -/
theorem joinQueue_straight (hqueue : s.lnu.queue = []) (hproc : s.lnu.processor = none) :
    joinQueue c s = { s with lnu := { s.lnu with processor := some c } } := by
  have hjoined : s.lnu.queue ++ [c] = [c] := congrArg (· ++ [c]) hqueue
  rw [joinQueue_room (by rw [hqueue]; decide), hjoined,
    takeCommand_idle (s := { s with lnu := { s.lnu with queue := [c] } }) hproc rfl, ← hqueue]

end

/-! ## A command is consumed (R162, R169) -/

/-- The link supervision leaves the Loop Node Unit and the time alone (R155). -/
theorem linkRefresh_lnu (source : Nat) (s : State) : (linkRefresh source s).lnu = s.lnu := by
  unfold linkRefresh
  split
  · rw [conditionEnd_eq]
  · rfl

theorem linkRefresh_now (source : Nat) (s : State) : (linkRefresh source s).now = s.now :=
  (linkRefresh_frame source s).now (by decide)

theorem consume_command {t : Telegram} (hk : t.kind = 3) (port : Port) (s : State) :
    consume port t s = joinQueue
      { port := port, arrival := s.now, source := t.source, payload := t.payload } (linkRefresh t.source s) := by
  rw [← linkRefresh_now t.source s]
  exact if_pos hk

/-- Settles O8: the command that joins by the queue and the processor it finds, and the processor freed by what
waits. -/
theorem commandsQueueForTheProcessor : Obligations.CommandsQueueForTheProcessor := by
  refine ⟨fun s dt port frame t hrun ht hk hs hd => ?_,
    fun s => ⟨freeProcessor_nothing, fun c rest => freeProcessor_next⟩⟩
  intro u c
  have hlnu : u.lnu = s.lnu := linkRefresh_lnu ..
  have hexec : exec (.telegramReception dt port frame) s = .next (finish (s.advance dt) (joinQueue c u)) := by
    rw [exec_telegramReception hrun, receive_of_some ht, dispose_consumed (s := s.advance dt) hs hd,
      consume_command hk]
    rfl
  rw [hexec, ← hlnu]
  exact ⟨fun hroom hbusy => by rw [joinQueue_waits hroom hbusy],
    fun hempty hidle => by rw [joinQueue_straight hempty hidle], fun hfull => by rw [joinQueue_full hfull]⟩

end Sys2Proof.Machine
end

section
/-! The general checks and the commands that name none: obligation O11 (R171, R172, R189). -/

namespace Sys2Proof.Machine

set_option Elab.async false

/-! ## A general check fails (R171) -/

theorem generalCheck_length {c : Command} {q : QueuedCommand} {s : State} (h : MayGive s q.source c.cls)
    (hv : c.cls = .signaller → c ≠ .returnToUse → s.tm.valid = true) (hl : c.lengthFits q.payload.length = false) :
    generalCheck c q s = some .refusedArgument := by
  have hstate : (c.cls == .signaller && c != .returnToUse && !s.tm.valid) = false := by
    simpa [Bool.and_eq_false_imp] using hv
  rw [generalCheck, (authorised_iff ..).2 h, hstate, hl]
  rfl

/-- Every command but RESTART completes with its own work behind the general checks. -/
theorem exec_completion {c : Command} (hc : c ≠ .restart) (dt : Time) (written : Nat) : ∃ own, ∀ s,
    exec (c.completion dt written) s = .next (event dt (complete c own) s) := by
  cases c
  case restart => exact absurd rfl hc
  all_goals exact ⟨_, fun _ => rfl⟩

section
variable {s : State} {q : QueuedCommand} {code : Byte} {args : List Byte}

/-- RESTART has the general checks before what it does of its own. -/
theorem completeRestart_refused (h : Processes s q code args) (hcode : Command.fromCode code.toNat = some .restart)
    {reply : ReplyCode} (hcheck : generalCheck .restart q s = some reply) (written : Nat) :
    completeRestart written s = answered q reply [] s := by
  simp [completeRestart, h.completing_eq, h.answerable, h.named_eq, hcode, hcheck, answered]

/-- A command that a general check refuses: the reply is its only effect, whatever the command. -/
theorem Processes.exec_refused (h : Processes s q code args) {c : Command}
    (hcode : Command.fromCode code.toNat = some c) {dt : Time} {reply : ReplyCode}
    (hcheck : generalCheck c q (s.advance dt) = some reply) (written : Nat) :
    exec (c.completion dt written) s = .next (finish (s.advance dt) (answered q reply [] (s.advance dt))) := by
  by_cases hc : c = .restart
  · subst hc
    have hnow : Processes (s.advance dt) q code args := h
    exact next_event h.1 dt (completeRestart_refused hnow hcode hcheck written)
  · obtain ⟨own, hown⟩ := exec_completion hc dt written
    exact (hown s).trans (congrArg Host.Outcome.next (h.event_refused hcode hcheck))

/-! ## Commands that name none, or cannot be answered -/

theorem completeUnknown_eq (h : Processes s q code args) (hcode : Command.fromCode code.toNat = none) :
    completeUnknown s = answered q .refusedUnknown [] s := by
  simp [completeUnknown, h.completing_eq, h.answerable, h.named_eq, hcode, answered]

end

theorem not_answerable {q : QueuedCommand}
    (h : q.source = 0 ∨ q.source = 254 ∨ q.source = 255 ∨ q.payload.length < 2) : q.answerable = false := by
  rw [QueuedCommand.answerable, Bool.and_eq_false_iff]
  rcases h with h | h | h | h
  · exact .inl (by rw [h]; rfl)
  · exact .inl (by rw [h]; rfl)
  · exact .inl (by rw [h]; rfl)
  · exact .inr (decide_eq_false (Nat.not_le.2 h))

theorem completeUnanswerable_frees {s : State} {q : QueuedCommand} (hproc : s.lnu.processor = some q)
    (hrestart : s.lnu.restarting = false) (hq : q.answerable = false) :
    completeUnanswerable s = freeProcessor s := by
  simp [completeUnanswerable, completing, hrestart, hproc, hq]

/-! ## The commands and their codes (11.2) -/

/-- The commands in the order of their codes. -/
def Command.all : List Command :=
  [.poll, .faultRead, .faultAccept, .closeRequest, .restore, .takeOutOfUse, .returnToUse, .resetSection, .depart,
   .passageRead, .tableWrite, .tableRead, .saveTables, .restart, .calibrate, .calibrateCancel, .lampTest,
   .measureRead, .passageClose, .passageRelease]

/-- The shortest payload of a command; TABLE_WRITE alone takes longer ones. -/
def Command.payloadLength : Command → Nat
  | .poll | .faultAccept | .restore | .takeOutOfUse | .returnToUse | .saveTables | .restart
  | .calibrateCancel | .lampTest | .passageClose => 2
  | .closeRequest | .resetSection | .depart | .calibrate | .passageRelease => 3
  | .faultRead | .measureRead | .tableWrite => 4
  | .passageRead | .tableRead => 5

/-- The codes count the commands from 1. -/
theorem Command.fromCode_succ (k : Nat) : Command.fromCode (k + 1) = Command.all[k]? := by
  rcases Nat.lt_or_ge k 20 with hk | hk
  · revert k
    decide
  · obtain ⟨n, rfl⟩ := Nat.exists_eq_add_of_le' hk
    rfl

theorem Command.fromCode_none {code : Nat} (h : code = 0 ∨ 20 < code) : Command.fromCode code = none := by
  cases code with
  | zero => rfl
  | succ k =>
    rw [Command.fromCode_succ]
    exact List.getElem?_eq_none (Nat.le_of_lt_succ (h.resolve_left k.succ_ne_zero))

theorem Command.lengthFits_iff (c : Command) (length : Nat) : c.lengthFits length = true ↔
    length = c.payloadLength ∨ (c = .tableWrite ∧ c.payloadLength < length) := by
  cases c
  case tableWrite => exact decide_eq_true_iff.trans (by simp only [Command.payloadLength, true_and]; omega)
  all_goals simp [Command.lengthFits, Command.payloadLength]

/-- Settles O11: the three checks in their order, the table of the commands, the authority by roles, and the commands
that name none or cannot be answered. -/
theorem generalChecksRefuse : Obligations.GeneralChecksRefuse := by
  refine ⟨fun c s q code args dt written hq hcode => ?_, ⟨fun code => Command.fromCode_none, fun k c cls n hrow => ?_⟩,
    fun s source => ⟨Iff.rfl, Iff.rfl, Iff.rfl⟩,
    fun s q dt => ⟨fun code args hq hcode => ?_, fun hrun hproc hrestart hq => ?_⟩⟩
  · intro refused
    have hexec {reply : ReplyCode} (hcheck : generalCheck c q (s.advance dt) = some reply) :
        exec (c.completion dt written) s = refused reply := hq.exec_refused hcode hcheck written
    refine ⟨fun hmay => hexec (generalCheck_unauthorised (s := s.advance dt) hmay), fun hmay hcls hc hv =>
      hexec (generalCheck_notValid (s := s.advance dt) hmay hcls hc hv), fun hmay hv hl =>
      hexec (generalCheck_length (s := s.advance dt) hmay hv ?_)⟩
    rwa [hq.payload_length]
  · have htable : (Command.all.map fun c => (c, c.cls, c.payloadLength))[k]? = some (c, cls, n) := hrow
    rw [List.getElem?_map, Option.map_eq_some_iff] at htable
    obtain ⟨c, hc, heq⟩ := htable
    cases heq
    exact ⟨(Command.fromCode_succ k).trans hc, rfl, c.lengthFits_iff⟩
  · exact next_event hq.1 dt (completeUnknown_eq (s := s.advance dt) hq (Command.fromCode_none hcode))
  · exact next_event hrun dt (completeUnanswerable_frees (s := s.advance dt) hproc hrestart (not_answerable hq))

end Sys2Proof.Machine
end

section
/-! RESTART: obligation O19 (R165, R168, R186). -/

namespace Sys2Proof.Machine

set_option Elab.async false

/-- A RESTART whose general checks pass is answered or begun by the crossing state. -/
theorem ByMaintenance.completeRestart_eq {s : State} {q : QueuedCommand} (h : ByMaintenance s q 14 [])
    (written : Nat) : completeRestart written s =
      if s.crossing.state = .outOfUse then beginRestart q written s else answered q .refusedState [] s := by
  have hcheck : generalCheck .restart q s = none := h.generalCheck_eq rfl rfl
  have hnamed : q.named = some .restart := h.1.named_eq
  simp [completeRestart, h.1.completing_eq, h.1.answerable, hnamed, hcheck, outOfUse, answered]

/-- The part whose processor stays busy with a RESTART until its reply has been sent (R186). -/
def State.awaitingRestart (s : State) : State := { s with lnu := { s.lnu with restarting := true } }

theorem State.awaitingRestart_port (s : State) (p : Port) : s.awaitingRestart.lnu.port p = s.lnu.port p := by
  cases p <;> rfl

/-- The reply to a RESTART that finds room is placed while the processor stays busy with the command (R186). -/
theorem beginRestart_room {q : QueuedCommand} {s : State} {a : Nat} (ha : answeringAddress s = some a)
    (hroom : ((s.lnu.port q.port).insertion.filter fun t => !t.isStatus).length < 7) (written : Nat) :
    beginRestart q written s = startPort q.port (s.awaitingRestart.withPort q.port { s.lnu.port q.port with
      insertion := (s.lnu.port q.port).insertion ++
        [.reply (frameOf q.source a 4 (q.payload.take 2 ++ [0])) true] }) := by
  rw [beginRestart, if_pos ((replyFits_iff ..).2 hroom), replyFrame, sourceAddress_of_answering ha]
  rw [← s.awaitingRestart_port] at hroom ⊢
  exact placeReply_room hroom _

/-- Settles O19: the refusal by the crossing state, and the reply by what its port is doing. -/
theorem restartWaitsForItsReply : Obligations.RestartWaitsForItsReply := by
  intro s q dt written hq
  have hnow : ByMaintenance (s.advance dt) q 14 [] := hq
  have hrestart := hnow.completeRestart_eq written
  refine ⟨fun hstate => next_event hq.1.1 dt (hrestart.trans (if_neg hstate)), fun a hstate ha => ?_⟩
  intro o r waits
  have hwaits {o' : OutPort} (hroom : (o.insertion.filter fun t => !t.isStatus).length < 7)
      (hstart : startPort q.port ((s.advance dt).awaitingRestart.withPort q.port
        { o with insertion := o.insertion ++ [r] }) = (s.advance dt).awaitingRestart.withPort q.port o') :
      waits o' := by
    have hplaced := (beginRestart_room (s := s.advance dt) ha hroom written).trans hstart
    refine next_event hq.1.1 dt ((hrestart.trans (if_pos hstate)).trans (hplaced.trans ?_))
    cases q.port <;> rfl
  refine ⟨fun x hx hroom => hwaits hroom (startPort_busy hx), fun hidle hf hi => ?_⟩
  refine hwaits (by rw [hi]; decide) (startPort_quiet hidle (OutPort.choose_placed hi hf (congrArg (· ++ [r]) hi)) ?_)
  exact fun _ _ _ hsent => by simp [r] at hsent

end Sys2Proof.Machine
end

section
/-! When a cold start begins and what stops the part: obligation O3 (R185, R186, R187). -/

namespace Sys2Proof.Machine

set_option Elab.async false

/-! ## What a cold start leaves (R187) -/

/-- Nothing is handed on by a cold start, and no block has anything to take from it: the end of its event changes
nothing. -/
theorem finish_coldStart (before : State) (written : Nat) (s : State) :
    finish before (coldStart written s) = coldStart written s := by
  have hcrossing : crossingTurn before (coldStart written s) = coldStart written s := rfl
  have hscanner : scannerTurn before (coldStart written s) = coldStart written s := by
    have hnormal : ((coldStart written s).scan.rate == .quiet) = false := rfl
    rw [scannerTurn, hnormal, Bool.and_false]
    rfl
  have hreport : reportTurn (coldStart written s) = coldStart written s := rfl
  rw [finish, hcrossing, hscanner, hreport, hreport]

/-- Of the part itself only the save run under way and the lines are read. -/
theorem coldStart_of_running {s : State} (h : Running s) (written : Nat) :
    coldStart written s = { State.reset with
      store := cutStore written s, contacts := s.contacts, pending := s.pending } := by
  rw [coldStart, h.1, h.2]
  rfl

/-- An event of a running part whose work begins a cold start. -/
theorem next_event_coldStart {s : State} (h : Running s) {dt : Time} {work : State → State} {written : Nat}
    (hw : work (s.advance dt) = coldStart written (s.advance dt)) :
    (.next (event dt work s) : Host.Outcome State Fault Refusal) = .next { State.reset with
      store := cutStore written s, contacts := s.contacts, pending := s.pending } := by
  have hadvance : coldStart written (s.advance dt) = coldStart written s := rfl
  rw [next_event h dt hw, finish_coldStart, hadvance, coldStart_of_running h]

/-! ## The replies that begin one (R186) -/

theorem transmissionEnds_restart {p : Port} {s : State} {frame : List Byte}
    (h : (s.lnu.port p).sending = some (.inserted (.reply frame true))) (written : Nat) :
    transmissionEnds p written s = coldStart written s := by
  rw [transmissionEnds, h]

/-- Where the reply finds no room, the RESTART begins the cold start at once. -/
theorem completeRestart_noRoom {q : QueuedCommand} {s : State} (hq : ByMaintenance s q 14 [])
    (hstate : s.crossing.state = .outOfUse)
    (hfull : 7 ≤ ((s.lnu.port q.port).insertion.filter fun t => !t.isStatus).length) (written : Nat) :
    completeRestart written s = coldStart written s := by
  have hroom : ¬ replyFits q.port s = true := fun h => Nat.not_lt.2 hfull ((replyFits_iff ..).1 h)
  rw [hq.completeRestart_eq, if_pos hstate, beginRestart, if_neg hroom]

/-! ## A part that is stopped (R186) -/

/-- Every command but the four of the lines and a contact of the site is one event of its time. -/
theorem exec_isEvent {c : Instr} {dt : Time} (helapsed : c.elapsed = some dt)
    (hcontact : ∀ b d closed, c ≠ .contactChange dt b d closed) (s : State) :
    ∃ work, exec c s = .next (event dt work s) := by
  cases c
  case powerUp | resetLineHeld | resetLineRelease | supplyFailure => exact absurd helapsed nofun
  case contactChange =>
    cases helapsed
    exact (hcontact _ _ _ rfl).elim
  all_goals
    cases helapsed
    exact ⟨_, rfl⟩

theorem State.alive_of_stopped {s : State} (h : ¬ Running s) : s.alive = false :=
  Bool.eq_false_iff.2 fun halive => h (s.alive_iff.1 halive)

theorem event_of_stopped {s : State} (h : ¬ Running s) (dt : Time) (work : State → State) :
    event dt work s = s := by
  rw [event, State.alive_of_stopped h, if_neg Bool.false_ne_true]

/-- A contact of a stopped part moves as an input alone. -/
theorem execContactChange_stopped {s : State} (h : ¬ Running s) (dt : Time) (b : Fin 4) (d : BarrierEnd)
    (closed : Bool) : exec (.contactChange dt b d closed) s = .next (setContact b d closed s) := by
  have hexec : exec (.contactChange dt b d closed) s =
      .next (if s.alive then event dt (contactChanged b d closed) s else setContact b d closed s) := rfl
  rw [hexec, State.alive_of_stopped h, if_neg Bool.false_ne_true]

/-- Settles O3: the four beginnings, the lines, and the events of a part that is stopped. -/
theorem coldStartsAndStops : Obligations.ColdStartsAndStops := by
  refine ⟨fun s dt written => ⟨rfl, fun hsupply => ?_, fun p frame hrun hsending => ?_, fun q hq hstate hfull => ?_⟩,
    fun s written => ⟨rfl, rfl, fun hsupply => ?_⟩, fun c dt s hstop helapsed => ⟨fun hcontact => ?_, ?_⟩⟩
  · have hreleased : Running { s with resetHeld := false } := ⟨hsupply, rfl⟩
    exact congrArg Host.Outcome.next ((if_pos hsupply).trans (coldStart_of_running hreleased written))
  · exact next_event_coldStart hrun (transmissionEnds_restart (s := s.advance dt) hsending written)
  · exact next_event_coldStart hq.1.1 (completeRestart_noRoom (s := s.advance dt) hq hstate hfull written)
  · exact congrArg Host.Outcome.next (if_neg (Bool.eq_false_iff.1 hsupply))
  · obtain ⟨work, hexec⟩ := exec_isEvent helapsed hcontact s
    rw [hexec, event_of_stopped hstop]
  · rintro b d closed rfl
    exact execContactChange_stopped hstop dt b d closed

end Sys2Proof.Machine
end

section
/-! SUPPORT. One entry of a table: what its fields keep to once stored, and that an entry whose fields keep to it is
read back from its bytes as it was (11.6). -/

namespace Sys2Proof.Machine

set_option Elab.async false

/-! ## One field written and read -/

theorem read8_lt (bs : List Byte) (n : Nat) : read8 bs n < 256 := (bs.getD n 0).isLt

theorem ranged_within {lo hi : Nat} (h : lo ≤ hi) (n : Nat) :
    lo ≤ (ranged lo hi n).value ∧ (ranged lo hi n).value ≤ hi := by
  rw [ranged_value, clampTo]
  omega

theorem ranged_of_within {lo hi n : Nat} (h : lo ≤ n ∧ n ≤ hi) :
    ranged lo hi n = { value := n, clamped := false } := by
  have hkept : clampTo lo hi n = n := (clampTo_eq_self_iff (h.1.trans h.2) n).2 h
  simp [ranged, hkept]

section
variable {lo hi n : Nat} (h : lo ≤ n ∧ n ≤ hi)
include h

theorem ranged_byte (hhi : hi < 256) : ranged lo hi (byte n).toNat = { value := n, clamped := false } := by
  rw [toNat_byte_of_lt (by omega), ranged_of_within h]

theorem ranged_bytes16 (hhi : hi < 65536) :
    ranged lo hi ((byte (n / 256)).toNat * 256 + (byte n).toNat) = { value := n, clamped := false } := by
  have hread : (byte (n / 256)).toNat * 256 + (byte n).toNat = n := by
    rw [toNat_byte, toNat_byte]
    omega
  rw [hread, ranged_of_within h]

theorem ranged_bytes32 (hhi : hi < 4294967296) :
    ranged lo hi (((byte (n / 16777216)).toNat * 256 + (byte (n / 65536)).toNat) * 65536 +
      ((byte (n / 256)).toNat * 256 + (byte n).toNat)) = { value := n, clamped := false } := by
  have hread : ((byte (n / 16777216)).toNat * 256 + (byte (n / 65536)).toNat) * 65536 +
      ((byte (n / 256)).toNat * 256 + (byte n).toNat) = n := by
    simp only [toNat_byte]
    omega
  rw [hread, ranged_of_within h]

end

theorem codedFlag_flagByte (b : Bool) : codedFlag (flagByte b).toNat = { value := b, clamped := false } := by
  cases b <;> rfl

/-- A flag that stands for set by every code but 0. -/
theorem coded_setDefault_flagByte (b : Bool) :
    coded 0 false 1 true true (flagByte b).toNat = { value := b, clamped := false } := by
  cases b <;> rfl

/-- A flag that lists set, of code 0, before clear. -/
theorem coded_setFirst_flagByte (b : Bool) :
    coded 0 true 1 false false (flagByte !b).toNat = { value := b, clamped := false } := by
  cases b <;> rfl

section
variable {α : Type} [DecidableEq α] {v w x : α}

/-- A value of two is read from its code. -/
theorem coded_ite {c d : Byte} (hcodes : d ≠ c) (hx : x = v ∨ x = w) :
    coded c.toNat v d.toNat w v (if x = v then c else d).toNat = { value := x, clamped := false } := by
  by_cases hv : x = v
  · simp [coded, hv]
  · have hother : d.toNat ≠ c.toNat := fun h => hcodes (BitVec.eq_of_toNat_eq h)
    obtain rfl := hx.resolve_left hv
    simp [coded, hv, hother]

theorem coded_zero_one_ite (hx : x = v ∨ x = w) :
    coded 0 v 1 w v (if x = v then (0 : Byte) else 1).toNat = { value := x, clamped := false } :=
  coded_ite (c := 0) (d := 1) (by decide) hx

theorem coded_one_two_ite (hx : x = v ∨ x = w) :
    coded 1 v 2 w v (if x = v then (1 : Byte) else 2).toNat = { value := x, clamped := false } :=
  coded_ite (c := 1) (d := 2) (by decide) hx

end

/-- A road side is read from its byte. -/
theorem ranged_sideByte (side : Side) : ranged 0 1 (sideByte side).toNat =
    { value := if side = .north then 0 else 1, clamped := false } := by
  cases side <;> rfl

theorem side_of_number (side : Side) :
    (if (if side = .north then 0 else 1) = 0 then Side.north else Side.south) = side := by
  cases side <;> rfl

/-! ## Bytes in their places -/

theorem read8_append_left {l : List Byte} {n : Nat} (h : n < l.length) (bs : List Byte) :
    read8 (l ++ bs) n = read8 l n := by
  simp [read8, List.getD_eq_getElem?_getD, List.getElem?_append_left h]

theorem read8_append_right {l : List Byte} {k : Nat} (h : l.length = k) (bs : List Byte) (n : Nat) :
    read8 (l ++ bs) (k + n) = read8 bs n := by
  have hpast : (l ++ bs)[k + n]? = bs[n]? := by
    rw [List.getElem?_append_right (by omega), h, Nat.add_sub_cancel_left]
  simp [read8, List.getD_eq_getElem?_getD, hpast]

theorem read16_append_right {l : List Byte} {k : Nat} (h : l.length = k) (bs : List Byte) (n : Nat) :
    read16 (l ++ bs) (k + n) = read16 bs n := by
  simp only [read16, Nat.add_assoc, read8_append_right h]

theorem read32_append_right {l : List Byte} {k : Nat} (h : l.length = k) (bs : List Byte) (n : Nat) :
    read32 (l ++ bs) (k + n) = read32 bs n := by
  simp only [read32, Nat.add_assoc, read16_append_right h]

/-- Pieces of one size stand one after another. -/
theorem read8_flatMap {α : Type} {f : α → List Byte} {size : Nat} (hf : ∀ a, (f a).length = size) {j : Nat}
    (hj : j < size) : ∀ {l : List α} {k : Nat} (hk : k < l.length), read8 (l.flatMap f) (size * k + j) = read8 (f l[k]) j
  | a :: l, 0, _ => by
    rw [List.flatMap_cons, Nat.mul_zero, Nat.zero_add, read8_append_left (by rw [hf]; exact hj)]
    rfl
  | a :: l, k + 1, hk => by
    have hplace : size * (k + 1) + j = size + (size * k + j) := by rw [Nat.mul_succ]; omega
    rw [List.flatMap_cons, hplace, read8_append_right (hf a), read8_flatMap hf hj (Nat.lt_of_succ_lt_succ hk)]
    rfl

/-- The pieces of a list in the room an entry has for them, 0 in the places beyond (11.6). -/
def inRoom (room : Nat) (bs : List Byte) : List Byte := (bs ++ List.replicate room 0).take room

theorem inRoom_length (room : Nat) (bs : List Byte) : (inRoom room bs).length = room := by
  simp [inRoom]

theorem read8_inRoom {α : Type} {f : α → List Byte} {size room : Nat} (hf : ∀ a, (f a).length = size) {l : List α}
    (hroom : size * l.length ≤ room) {k j : Nat} (hk : k < l.length) (hj : j < size) :
    read8 (inRoom room (l.flatMap f)) (size * k + j) = read8 (f l[k]) j := by
  have hplace : size * k + j < size * l.length := by
    have := Nat.mul_le_mul_left size (Nat.succ_le_of_lt hk)
    rw [Nat.mul_succ] at this
    omega
  have hlength : (l.flatMap f).length = size * l.length := by simp [List.length_flatMap, hf, Nat.mul_comm]
  rw [← read8_flatMap hf hj hk]
  simp only [inRoom, read8, List.getD_eq_getElem?_getD]
  rw [List.getElem?_take_of_lt (by omega), List.getElem?_append_left (by omega)]

/-! ## The ranges of 11.6 -/

/-- A stored NODE entry (R173). -/
structure NodeEntry.InRange (e : NodeEntry) : Prop where
  address : 1 ≤ e.address ∧ e.address ≤ 253

/-- A stored PARAMETERS record (R175). -/
structure Params.InRange (p : Params) : Prop where
  headTimeout : 1000 ≤ p.headTimeout ∧ p.headTimeout ≤ 10000
  groupGap : 2000 ≤ p.groupGap ∧ p.groupGap ≤ 10000
  flashPeriod : 800 ≤ p.flashPeriod ∧ p.flashPeriod ≤ 1500
  lampBaseDuty : 50 ≤ p.lampBaseDuty ∧ p.lampBaseDuty ≤ 100
  vNominal : 10000 ≤ p.vNominal ∧ p.vNominal ≤ 30000
  batteryLow : 5000 ≤ p.batteryLow ∧ p.batteryLow ≤ 30000
  batteryCritical : 5000 ≤ p.batteryCritical ∧ p.batteryCritical ≤ 30000
  batteryEntry : p.batteryEntry < 256
  batterySpan : 1000 ≤ p.batterySpan ∧ p.batterySpan ≤ 65000
  audibleEntry0 : p.audibleEntry0 < 256
  audibleEntry1 : p.audibleEntry1 < 256
  openDelay : 0 ≤ p.openDelay ∧ p.openDelay ≤ 10000
  minOpen : 0 ≤ p.minOpen ∧ p.minOpen ≤ 30000
  longClosure : 60000 ≤ p.longClosure ∧ p.longClosure ≤ 1200000
  exitDelayFailed : 0 ≤ p.exitDelayFailed ∧ p.exitDelayFailed ≤ 20000
  statusPeriod : 1000 ≤ p.statusPeriod ∧ p.statusPeriod ≤ 10000
  signallerTimeout : 2000 ≤ p.signallerTimeout ∧ p.signallerTimeout ≤ 60000
  scanStrobe : 1 ≤ p.scanStrobe ∧ p.scanStrobe ≤ 20
  quietDivisor : 1 ≤ p.quietDivisor ∧ p.quietDivisor ≤ 16
  quietAfter : 10000 ≤ p.quietAfter ∧ p.quietAfter ≤ 600000
  ownAddress : 1 ≤ p.ownAddress ∧ p.ownAddress ≤ 253

/-- A stored DPT entry (1.2). -/
structure DptEntry.InRange (e : DptEntry) : Prop where
  address : 1 ≤ e.address ∧ e.address ≤ 253
  track : 1 ≤ e.track ∧ e.track ≤ 2
  spacing : 80 ≤ e.spacing ∧ e.spacing ≤ 300

/-- A stored SECTION entry (R16). -/
structure SectionEntry.InRange (e : SectionEntry) : Prop where
  track : 1 ≤ e.track ∧ e.track ≤ 2
  number : 1 ≤ e.boundaries.length ∧ e.boundaries.length ≤ 4
  head : ∀ b ∈ e.boundaries, b.head < 256

/-- A stored APPROACH entry (R33). -/
structure ApproachEntry.InRange (e : ApproachEntry) : Prop where
  track : 1 ≤ e.track ∧ e.track ≤ 2
  approachSection : e.approachSection < 256
  islandSection : e.islandSection < 256
  number : 1 ≤ e.timingHeads.length ∧ e.timingHeads.length ≤ 4
  head : ∀ t ∈ e.timingHeads, t.head < 256
  distance : ∀ t ∈ e.timingHeads, 20 ≤ t.distance ∧ t.distance ≤ 4000
  clearMargin : 0 ≤ e.clearMargin ∧ e.clearMargin ≤ 30000
  loopAllow : 0 ≤ e.loopAllow ∧ e.loopAllow ≤ 1000
  holdMax : 10000 ≤ e.holdMax ∧ e.holdMax ≤ 600000
  vCreep : 100 ≤ e.vCreep ∧ e.vCreep ≤ 1000
  vHalt : 100 ≤ e.vHalt ∧ e.vHalt ≤ 3000
  vFinal : 100 ≤ e.vFinal ∧ e.vFinal ≤ 6000
  vLine : 500 ≤ e.vLine ∧ e.vLine ≤ 8000

/-- A stored program step (R64). -/
structure ProgramStep.InRange (e : ProgramStep) : Prop where
  wait : e.kind = .wait → 1 ≤ e.count ∧ e.count ≤ 127
  other : e.kind ≠ .wait → e.count = 0

/-- A stored BARRIER entry (R105). -/
structure BarrierEntry.InRange (e : BarrierEntry) : Prop where
  angleEntry : e.angleEntry < 256
  currentEntry : e.currentEntry < 256
  ratedDuty : 20 ≤ e.ratedDuty ∧ e.ratedDuty ≤ 100
  overdriveDuty : 20 ≤ e.overdriveDuty ∧ e.overdriveDuty ≤ 100
  overdriveClamped : e.overdriveDuty ≤ e.clampDuty
  startMs : 0 ≤ e.startMs ∧ e.startMs ≤ 1000
  clampDuty : 50 ≤ e.clampDuty ∧ e.clampDuty ≤ 100
  brakePos : 0 ≤ e.brakePos ∧ e.brakePos ≤ 300
  brakeDuty : 0 ≤ e.brakeDuty ∧ e.brakeDuty ≤ 50
  loopGain : 0 ≤ e.loopGain ∧ e.loopGain ≤ 200
  downWindow : 0 ≤ e.downWindow ∧ e.downWindow ≤ 100
  upWindow : 900 ≤ e.upWindow ∧ e.upWindow ≤ 1000
  upCode : 0 ≤ e.upCode ∧ e.upCode ≤ 4095
  downCode : 0 ≤ e.downCode ∧ e.downCode ≤ 4095
  travelDown : 2000 ≤ e.travelDown ∧ e.travelDown ≤ 20000
  travelUp : 2000 ≤ e.travelUp ∧ e.travelUp ≤ 20000
  peakCurrent : 0 ≤ e.peakCurrent ∧ e.peakCurrent ≤ 4095

/-- A stored LAMP entry (R87). -/
structure LampEntry.InRange (e : LampEntry) : Prop where
  scanEntry : e.scanEntry < 256

/-- A stored SCAN entry (R128). -/
structure ScanEntry.InRange (e : ScanEntry) : Prop where
  channel : 0 ≤ e.channel ∧ e.channel ≤ 23
  gain : e.gain ∈ [1, 2, 4, 8]
  blockCount : 1 ≤ e.blockCount ∧ e.blockCount ≤ 8
  lowThreshold : 0 ≤ e.lowThreshold ∧ e.lowThreshold ≤ 4095
  highThreshold : 0 ≤ e.highThreshold ∧ e.highThreshold ≤ 4095

/-- A stored flag of REPORT_MASK, by its fault code (R148). -/
def MaskInRange (i : Nat) (flag : Bool) : Prop := (∃ c : FaultCode, c.number = i ∧ c.cls = .alarm) → flag = false

/-! ## What is stored is in range -/

section
variable (b : List Byte)

theorem readNode_inRange : (readNode b).value.InRange where
  address := ranged_within (by decide) _

theorem readParams_inRange : (readParams b).value.InRange where
  headTimeout := ranged_within (by decide) _
  groupGap := ranged_within (by decide) _
  flashPeriod := ranged_within (by decide) _
  lampBaseDuty := ranged_within (by decide) _
  vNominal := ranged_within (by decide) _
  batteryLow := ranged_within (by decide) _
  batteryCritical := ranged_within (by decide) _
  batteryEntry := read8_lt ..
  batterySpan := ranged_within (by decide) _
  audibleEntry0 := read8_lt ..
  audibleEntry1 := read8_lt ..
  openDelay := ranged_within (by decide) _
  minOpen := ranged_within (by decide) _
  longClosure := ranged_within (by decide) _
  exitDelayFailed := ranged_within (by decide) _
  statusPeriod := ranged_within (by decide) _
  signallerTimeout := ranged_within (by decide) _
  scanStrobe := ranged_within (by decide) _
  quietDivisor := ranged_within (by decide) _
  quietAfter := ranged_within (by decide) _
  ownAddress := ranged_within (by decide) _

theorem readDpt_inRange : (readDpt b).value.InRange where
  address := ranged_within (by decide) _
  track := ranged_within (by decide) _
  spacing := ranged_within (by decide) _

theorem readSection_inRange : (readSection b).value.InRange where
  track := ranged_within (by decide) _
  number := by
    have hnumber := ranged_within (by decide : 1 ≤ 4) (read8 b 3)
    simpa [readSection] using hnumber
  head := by
    intro x hx
    simp only [readSection, List.map_map, List.mem_map] at hx
    obtain ⟨k, -, rfl⟩ := hx
    exact read8_lt ..

theorem readApproach_inRange : (readApproach b).value.InRange where
  track := ranged_within (by decide) _
  approachSection := read8_lt ..
  islandSection := read8_lt ..
  number := by
    have hnumber := ranged_within (by decide : 1 ≤ 4) (read8 b 4)
    simpa [readApproach] using hnumber
  head := by
    intro x hx
    simp only [readApproach, List.map_map, List.mem_map] at hx
    obtain ⟨k, -, rfl⟩ := hx
    exact read8_lt ..
  distance := by
    intro x hx
    simp only [readApproach, List.map_map, List.mem_map] at hx
    obtain ⟨k, -, rfl⟩ := hx
    exact ranged_within (by decide) _
  clearMargin := ranged_within (by decide) _
  loopAllow := ranged_within (by decide) _
  holdMax := ranged_within (by decide) _
  vCreep := ranged_within (by decide) _
  vHalt := ranged_within (by decide) _
  vFinal := ranged_within (by decide) _
  vLine := ranged_within (by decide) _

theorem readStep_inRange : (readStep b).value.InRange := by
  unfold readStep
  split
  next => exact ⟨nofun, fun _ => rfl⟩
  next => exact ⟨fun _ => ranged_within (by decide) _, fun h => absurd rfl h⟩
  next k hk _ => exact ⟨fun h => absurd h hk, fun _ => rfl⟩

theorem readBarrier_inRange : (readBarrier b).value.InRange where
  angleEntry := read8_lt ..
  currentEntry := read8_lt ..
  ratedDuty := ranged_within (by decide) _
  overdriveDuty := by
    have hover := ranged_within (by decide : 20 ≤ 100) (read8 b 6)
    have hclamp := ranged_within (by decide : 50 ≤ 100) (read8 b 9)
    simp only [readBarrier]
    omega
  overdriveClamped := Nat.min_le_right ..
  startMs := ranged_within (by decide) _
  clampDuty := ranged_within (by decide) _
  brakePos := ranged_within (by decide) _
  brakeDuty := ranged_within (by decide) _
  loopGain := ranged_within (by decide) _
  downWindow := ranged_within (by decide) _
  upWindow := ranged_within (by decide) _
  upCode := ranged_within (by decide) _
  downCode := ranged_within (by decide) _
  travelDown := ranged_within (by decide) _
  travelUp := ranged_within (by decide) _
  peakCurrent := ranged_within (by decide) _

theorem readLamp_inRange : (readLamp b).value.InRange where
  scanEntry := read8_lt ..

theorem readScan_inRange : (readScan b).value.InRange where
  channel := ranged_within (by decide) _
  gain := nearestGain_mem _
  blockCount := ranged_within (by decide) _
  lowThreshold := ranged_within (by decide) _
  highThreshold := ranged_within (by decide) _

theorem readMask_inRange (i : Nat) : MaskInRange i (readMask i b).value := fun h => (readMask_forced h b).1

end

/-! ## What is in range is read back -/

theorem Field.Stores.eq {α : Type} {f : Field α} {stored e : α} {kept : Prop} (h : f.Stores stored kept)
    (he : stored = e) (hkept : kept) : f = { value := e, clamped := false } := by
  obtain ⟨hvalue, hclamped⟩ := h
  rw [← he, ← hvalue, ← hclamped.2 hkept]

theorem lt_of_mem_gains {n : Nat} (h : n ∈ [1, 2, 4, 8]) : n < 256 := by
  simp only [List.mem_cons, List.not_mem_nil, or_false] at h
  omega

theorem read8_cons_zero (x : Byte) (bs : List Byte) : read8 (x :: bs) 0 = x.toNat := rfl

theorem read8_cons_succ (x : Byte) (bs : List Byte) (n : Nat) : read8 (x :: bs) (n + 1) = read8 bs n := rfl

theorem readNode_writeNode {e : NodeEntry} (h : e.InRange) :
    readNode (writeNode e) = { value := e, clamped := false } := by
  have hrole : e.role = .signaller ∨ e.role = .maintenance := by cases e.role <;> simp
  simp only [readNode, writeNode, read8_cons_zero, read8_cons_succ, codedFlag_flagByte,
    ranged_byte h.address (by decide), coded_zero_one_ite hrole, Bool.or_false]

theorem readParams_writeParams {p : Params} (h : p.InRange) :
    readParams (writeParams p) = { value := p, clamped := false } := by
  have hport : p.signallerPort = .a ∨ p.signallerPort = .b := by cases p.signallerPort <;> simp
  simp only [readParams, writeParams, bytes16, bytes32, List.cons_append, List.nil_append, read16, read32, Nat.reduceAdd,
    read8_cons_zero, read8_cons_succ, toNat_byte_of_lt h.batteryEntry, toNat_byte_of_lt h.audibleEntry0,
    toNat_byte_of_lt h.audibleEntry1, ranged_bytes16 h.headTimeout (by decide), ranged_bytes16 h.groupGap (by decide),
    ranged_bytes16 h.flashPeriod (by decide), ranged_byte h.lampBaseDuty (by decide),
    ranged_bytes16 h.vNominal (by decide), ranged_bytes16 h.batteryLow (by decide),
    ranged_bytes16 h.batteryCritical (by decide), ranged_bytes16 h.batterySpan (by decide),
    ranged_bytes16 h.openDelay (by decide), ranged_bytes16 h.minOpen (by decide),
    ranged_bytes32 h.longClosure (by decide), ranged_bytes16 h.exitDelayFailed (by decide),
    ranged_bytes16 h.statusPeriod (by decide), ranged_bytes16 h.signallerTimeout (by decide),
    ranged_byte h.scanStrobe (by decide), ranged_byte h.quietDivisor (by decide),
    ranged_bytes32 h.quietAfter (by decide), ranged_byte h.ownAddress (by decide), coded_zero_one_ite hport,
    Bool.or_false]

theorem readDpt_writeDpt {e : DptEntry} (h : e.InRange) :
    readDpt (writeDpt e) = { value := e, clamped := false } := by
  have hrole : e.role = .counting ∨ e.role = .timingOnly := by cases e.role <;> simp
  have hsense : e.towardSense = .s1First ∨ e.towardSense = .s2First := by cases e.towardSense <;> simp
  simp only [readDpt, writeDpt, bytes16, List.cons_append, List.nil_append, read16, Nat.reduceAdd, read8_cons_zero,
    read8_cons_succ, codedFlag_flagByte, ranged_byte h.address (by decide), ranged_byte h.track (by decide),
    ranged_bytes16 h.spacing (by decide), coded_zero_one_ite hrole, coded_one_two_ite hsense, Bool.or_false]

theorem readBarrier_writeBarrier {e : BarrierEntry} (h : e.InRange) :
    readBarrier (writeBarrier e) = { value := e, clamped := false } := by
  have hrole : e.role = .entry ∨ e.role = .exit := by cases e.role <;> simp
  have hcapped : min e.overdriveDuty e.clampDuty = e.overdriveDuty := Nat.min_eq_left h.overdriveClamped
  simp only [readBarrier, writeBarrier, bytes16, List.cons_append, List.nil_append, read16, Nat.reduceAdd,
    read8_cons_zero, read8_cons_succ, codedFlag_flagByte, coded_zero_one_ite hrole, ranged_sideByte, side_of_number,
    toNat_byte_of_lt h.angleEntry, toNat_byte_of_lt h.currentEntry, ranged_byte h.ratedDuty (by decide),
    ranged_byte h.overdriveDuty (by decide), hcapped, ranged_bytes16 h.startMs (by decide),
    ranged_byte h.clampDuty (by decide), ranged_bytes16 h.brakePos (by decide), ranged_byte h.brakeDuty (by decide),
    ranged_byte h.loopGain (by decide), coded_setDefault_flagByte, ranged_byte h.downWindow (by decide),
    ranged_bytes16 h.upWindow (by decide), ranged_bytes16 h.upCode (by decide), ranged_bytes16 h.downCode (by decide),
    ranged_bytes16 h.travelDown (by decide), ranged_bytes16 h.travelUp (by decide),
    ranged_bytes16 h.peakCurrent (by decide), bne_self_eq_false, Bool.or_false]

theorem readLamp_writeLamp {e : LampEntry} (h : e.InRange) :
    readLamp (writeLamp e) = { value := e, clamped := false } := by
  have hcolour : e.colour = .red ∨ e.colour = .amber := by cases e.colour <;> simp
  have hphase : e.phase = .a ∨ e.phase = .b := by cases e.phase <;> simp
  simp only [readLamp, writeLamp, read8_cons_zero, read8_cons_succ, codedFlag_flagByte, ranged_sideByte, side_of_number,
    coded_zero_one_ite hcolour, coded_zero_one_ite hphase, toNat_byte_of_lt h.scanEntry, Bool.or_false]

theorem readScan_writeScan {e : ScanEntry} (h : e.InRange) :
    readScan (writeScan e) = { value := e, clamped := false } := by
  have hgain : (byte e.gain).toNat = e.gain := toNat_byte_of_lt (lt_of_mem_gains h.gain)
  have hnearest : nearestGain e.gain = e.gain := bne_eq_false_iff_eq.1 ((nearestGain_unclamped _).2 h.gain)
  simp only [readScan, writeScan, bytes16, List.cons_append, List.nil_append, read16, Nat.reduceAdd, read8_cons_zero,
    read8_cons_succ, codedFlag_flagByte, ranged_byte h.channel (by decide), hgain, hnearest,
    ranged_byte h.blockCount (by decide), ranged_bytes16 h.lowThreshold (by decide),
    ranged_bytes16 h.highThreshold (by decide), bne_self_eq_false, Bool.or_false]

theorem readMask_flagByte {i : Nat} {flag : Bool} (h : MaskInRange i flag) :
    readMask i [flagByte flag] = { value := flag, clamped := false } := by
  by_cases halarm : ∃ c : FaultCode, c.number = i ∧ c.cls = .alarm
  · obtain rfl := h halarm
    exact (readMask_forced halarm _).eq rfl rfl
  · cases flag
    · exact (readMask_free halarm _).eq rfl (by decide)
    · exact (readMask_free halarm _).eq rfl (by decide)

theorem readStep_writeStep {e : ProgramStep} (h : e.InRange) :
    readStep (writeStep e) = { value := e, clamped := false } := by
  obtain ⟨kind, count⟩ := e
  by_cases hkind : kind = .wait
  · subst hkind
    have hcount : ranged 1 127 (byte count).toNat = { value := count, clamped := false } :=
      ranged_byte (h.wait rfl) (by decide)
    exact congrArg (fun n : Field Nat => Field.mk (ProgramStep.mk .wait n.value) n.clamped) hcount
  · obtain rfl : count = 0 := h.other hkind
    cases kind
    case wait => exact absurd rfl hkind
    all_goals rfl

/-! ## SECTION and APPROACH: the places of their lists -/

theorem readBoundary_writeSection {e : SectionEntry} (h : e.InRange) {k : Nat} (hk : k < e.boundaries.length) :
    readBoundary (writeSection e) (4 + 2 * k) = { value := e.boundaries[k], clamped := false } := by
  have hplace {j : Nat} (hj : j < 2) :
      read8 (writeSection e) (4 + (2 * k + j)) = read8 (writeBoundary e.boundaries[k]) j :=
    (read8_append_right rfl _ _).trans
      (read8_inRoom (f := writeBoundary) (size := 2) (fun _ => rfl) (Nat.mul_le_mul_left 2 h.number.2) hk hj)
  have hhead : read8 (writeSection e) (4 + 2 * k) = e.boundaries[k].head :=
    (hplace (j := 0) (by decide)).trans (toNat_byte_of_lt (h.head _ (List.getElem_mem hk)))
  have hentering : e.boundaries[k].entering = .toward ∨ e.boundaries[k].entering = .away := by
    cases e.boundaries[k].entering <;> simp
  rw [readBoundary, hhead, Nat.add_assoc, hplace (j := 1) (by decide), writeBoundary, read8_cons_succ, read8_cons_zero,
    coded_zero_one_ite hentering]

theorem map_range_getElem {α β : Type} {l : List α} {f : Nat → β} {g : α → β}
    (h : ∀ k (hk : k < l.length), f k = g l[k]) : (List.range l.length).map f = l.map g := by
  refine List.ext_getElem (by simp) fun k hk _ => ?_
  simpa using h k (by simpa using hk)

theorem map_value_unclamped {α : Type} (l : List α) :
    (l.map fun a => ({ value := a, clamped := false } : Field α)).map (·.value) = l := by
  simp [Function.comp_def]

theorem any_clamped_unclamped {α : Type} (l : List α) :
    ((l.map fun a => ({ value := a, clamped := false } : Field α)).any (·.clamped)) = false := by
  simp

theorem readSection_writeSection {e : SectionEntry} (h : e.InRange) :
    readSection (writeSection e) = { value := e, clamped := false } := by
  have hservice : codedFlag (read8 (writeSection e) 0) = { value := e.inService, clamped := false } :=
    codedFlag_flagByte _
  have hkind : coded 0 SectionKind.approach 1 SectionKind.island SectionKind.approach (read8 (writeSection e) 1) =
      { value := e.kind, clamped := false } := coded_zero_one_ite (by cases e.kind <;> simp)
  have htrack : ranged 1 2 (read8 (writeSection e) 2) = { value := e.track, clamped := false } :=
    ranged_byte h.track (by decide)
  have hnumber : ranged 1 4 (read8 (writeSection e) 3) = { value := e.boundaries.length, clamped := false } :=
    ranged_byte h.number (by decide)
  have hboundaries : (List.range e.boundaries.length).map (fun k => readBoundary (writeSection e) (4 + 2 * k)) =
      e.boundaries.map fun b => { value := b, clamped := false } :=
    map_range_getElem fun k hk => readBoundary_writeSection h hk
  simp only [readSection, hservice, hkind, htrack, hnumber, hboundaries, map_value_unclamped, any_clamped_unclamped,
    Bool.or_false]

/-- The bytes of an approach up to its timing heads. -/
def approachHead (e : ApproachEntry) : List Byte :=
  [flagByte e.inService, byte e.track, byte e.approachSection, byte e.islandSection, byte e.timingHeads.length] ++
    inRoom 16 (e.timingHeads.flatMap writeTimingHead)

/-- The bytes of an approach after its timing heads. -/
def approachTail (e : ApproachEntry) : List Byte :=
  bytes16 e.clearMargin ++ bytes16 e.loopAllow ++ bytes32 e.holdMax ++ bytes16 e.vCreep ++ bytes16 e.vHalt ++
    bytes16 e.vFinal ++ bytes16 e.vLine

theorem writeApproach_eq (e : ApproachEntry) : writeApproach e = approachHead e ++ approachTail e := by
  simp only [writeApproach, approachHead, approachTail, inRoom, List.append_assoc]

theorem approachHead_length (e : ApproachEntry) : (approachHead e).length = 21 := by
  simp [approachHead, inRoom_length]

theorem readTimingHead_writeApproach {e : ApproachEntry} (h : e.InRange) {k : Nat} (hk : k < e.timingHeads.length) :
    readTimingHead (writeApproach e) (5 + 4 * k) = { value := e.timingHeads[k], clamped := false } := by
  have hlast : 4 * k + 4 ≤ 16 := by have := h.number.2; omega
  have hplace {j : Nat} (hj : j < 4) :
      read8 (writeApproach e) (5 + (4 * k + j)) = read8 (writeTimingHead e.timingHeads[k]) j := by
    have hhere : 5 + (4 * k + j) < (approachHead e).length := by rw [approachHead_length]; omega
    rw [writeApproach_eq, read8_append_left hhere]
    exact (read8_append_right rfl _ _).trans (read8_inRoom (f := writeTimingHead) (size := 4) (fun _ => rfl)
      (Nat.mul_le_mul_left 4 h.number.2) hk hj)
  have hmem : e.timingHeads[k] ∈ e.timingHeads := List.getElem_mem hk
  have hhead : read8 (writeApproach e) (5 + 4 * k) = e.timingHeads[k].head :=
    (hplace (j := 0) (by decide)).trans (toNat_byte_of_lt (h.head _ hmem))
  have hdistance : ranged 20 4000 (read16 (writeApproach e) (5 + 4 * k + 1)) =
      { value := e.timingHeads[k].distance, clamped := false } := by
    rw [read16, Nat.add_assoc, Nat.add_assoc, Nat.add_assoc, hplace (j := 1) (by decide), hplace (j := 2) (by decide)]
    exact ranged_bytes16 (h.distance _ hmem) (by decide)
  have hhalt : coded 0 true 1 false false (read8 (writeApproach e) (5 + 4 * k + 3)) =
      { value := e.timingHeads[k].haltSide, clamped := false } := by
    rw [Nat.add_assoc, hplace (j := 3) (by decide)]
    exact coded_setFirst_flagByte _
  simp only [readTimingHead, hhead, hdistance, hhalt, Bool.or_false]

theorem readApproach_writeApproach {e : ApproachEntry} (h : e.InRange) :
    readApproach (writeApproach e) = { value := e, clamped := false } := by
  have hservice : codedFlag (read8 (writeApproach e) 0) = { value := e.inService, clamped := false } :=
    codedFlag_flagByte _
  have htrack : ranged 1 2 (read8 (writeApproach e) 1) = { value := e.track, clamped := false } :=
    ranged_byte h.track (by decide)
  have happroach : read8 (writeApproach e) 2 = e.approachSection := toNat_byte_of_lt h.approachSection
  have hisland : read8 (writeApproach e) 3 = e.islandSection := toNat_byte_of_lt h.islandSection
  have hnumber : ranged 1 4 (read8 (writeApproach e) 4) = { value := e.timingHeads.length, clamped := false } :=
    ranged_byte h.number (by decide)
  have hheads : (List.range e.timingHeads.length).map (fun k => readTimingHead (writeApproach e) (5 + 4 * k)) =
      e.timingHeads.map fun t => { value := t, clamped := false } :=
    map_range_getElem fun k hk => readTimingHead_writeApproach h hk
  have hword (n : Nat) : read16 (writeApproach e) (21 + n) = read16 (approachTail e) n :=
    writeApproach_eq e ▸ read16_append_right (approachHead_length e) _ n
  have hlong (n : Nat) : read32 (writeApproach e) (21 + n) = read32 (approachTail e) n :=
    writeApproach_eq e ▸ read32_append_right (approachHead_length e) _ n
  have hclear : ranged 0 30000 (read16 (writeApproach e) 21) = { value := e.clearMargin, clamped := false } :=
    (congrArg (ranged 0 30000) (hword 0)).trans (ranged_bytes16 h.clearMargin (by decide))
  have hallow : ranged 0 1000 (read16 (writeApproach e) 23) = { value := e.loopAllow, clamped := false } :=
    (congrArg (ranged 0 1000) (hword 2)).trans (ranged_bytes16 h.loopAllow (by decide))
  have hhold : ranged 10000 600000 (read32 (writeApproach e) 25) = { value := e.holdMax, clamped := false } :=
    (congrArg (ranged 10000 600000) (hlong 4)).trans (ranged_bytes32 h.holdMax (by decide))
  have hcreep : ranged 100 1000 (read16 (writeApproach e) 29) = { value := e.vCreep, clamped := false } :=
    (congrArg (ranged 100 1000) (hword 8)).trans (ranged_bytes16 h.vCreep (by decide))
  have hhalt : ranged 100 3000 (read16 (writeApproach e) 31) = { value := e.vHalt, clamped := false } :=
    (congrArg (ranged 100 3000) (hword 10)).trans (ranged_bytes16 h.vHalt (by decide))
  have hfinal : ranged 100 6000 (read16 (writeApproach e) 33) = { value := e.vFinal, clamped := false } :=
    (congrArg (ranged 100 6000) (hword 12)).trans (ranged_bytes16 h.vFinal (by decide))
  have hline : ranged 500 8000 (read16 (writeApproach e) 35) = { value := e.vLine, clamped := false } :=
    (congrArg (ranged 500 8000) (hword 14)).trans (ranged_bytes16 h.vLine (by decide))
  simp only [readApproach, hservice, htrack, happroach, hisland, hnumber, hheads, map_value_unclamped,
    any_clamped_unclamped, hclear, hallow, hhold, hcreep, hhalt, hfinal, hline, Bool.or_false]

end Sys2Proof.Machine
end

section
/-! SUPPORT. The eleven tables as one family: the entries of each, how one is read from bytes, written out and put in
its place (10.1, R177). -/

namespace Sys2Proof.Machine

set_option Elab.async false

/-! ## The entries of each table -/

/-- What an entry of a table is. PARAMETERS is a table of one entry. -/
abbrev TableId.Entry : TableId → Type
  | .node => NodeEntry
  | .params => Params
  | .dpt => DptEntry
  | .sectionTable => SectionEntry
  | .approach => ApproachEntry
  | .closing => ProgramStep
  | .opening => ProgramStep
  | .barrier => BarrierEntry
  | .lamp => LampEntry
  | .scan => ScanEntry
  | .reportMask => Bool

/-- The entry of an index read from bytes. -/
def TableId.readEntry : (t : TableId) → Nat → List Byte → Field t.Entry
  | .node, _, b => readNode b
  | .params, _, b => readParams b
  | .dpt, _, b => readDpt b
  | .sectionTable, _, b => readSection b
  | .approach, _, b => readApproach b
  | .closing, _, b => readStep b
  | .opening, _, b => readStep b
  | .barrier, _, b => readBarrier b
  | .lamp, _, b => readLamp b
  | .scan, _, b => readScan b
  | .reportMask, i, b => readMask i b

/-- An entry written out. -/
def TableId.writeEntry : (t : TableId) → t.Entry → List Byte
  | .node, e => writeNode e
  | .params, e => writeParams e
  | .dpt, e => writeDpt e
  | .sectionTable, e => writeSection e
  | .approach, e => writeApproach e
  | .closing, e => writeStep e
  | .opening, e => writeStep e
  | .barrier, e => writeBarrier e
  | .lamp, e => writeLamp e
  | .scan, e => writeScan e
  | .reportMask, flag => [flagByte flag]

/-- The fields of the entry of an index lie in their ranges. -/
def TableId.InRange : (t : TableId) → Nat → t.Entry → Prop
  | .node, _, e => NodeEntry.InRange e
  | .params, _, e => Params.InRange e
  | .dpt, _, e => DptEntry.InRange e
  | .sectionTable, _, e => SectionEntry.InRange e
  | .approach, _, e => ApproachEntry.InRange e
  | .closing, _, e => ProgramStep.InRange e
  | .opening, _, e => ProgramStep.InRange e
  | .barrier, _, e => BarrierEntry.InRange e
  | .lamp, _, e => LampEntry.InRange e
  | .scan, _, e => ScanEntry.InRange e
  | .reportMask, i, flag => MaskInRange i flag

theorem TableId.readEntry_inRange (t : TableId) (i : Nat) (b : List Byte) : t.InRange i (t.readEntry i b).value := by
  cases t with
  | node => exact readNode_inRange b
  | params => exact readParams_inRange b
  | dpt => exact readDpt_inRange b
  | sectionTable => exact readSection_inRange b
  | approach => exact readApproach_inRange b
  | closing => exact readStep_inRange b
  | opening => exact readStep_inRange b
  | barrier => exact readBarrier_inRange b
  | lamp => exact readLamp_inRange b
  | scan => exact readScan_inRange b
  | reportMask => exact readMask_inRange b i

/-- An entry in its ranges is read back as it was, with nothing clamped (R177, R179). -/
theorem TableId.readEntry_writeEntry {t : TableId} {i : Nat} {e : t.Entry} (h : t.InRange i e) :
    t.readEntry i (t.writeEntry e) = { value := e, clamped := false } := by
  cases t with
  | node => exact readNode_writeNode h
  | params => exact readParams_writeParams h
  | dpt => exact readDpt_writeDpt h
  | sectionTable => exact readSection_writeSection h
  | approach => exact readApproach_writeApproach h
  | closing => exact readStep_writeStep h
  | opening => exact readStep_writeStep h
  | barrier => exact readBarrier_writeBarrier h
  | lamp => exact readLamp_writeLamp h
  | scan => exact readScan_writeScan h
  | reportMask => exact readMask_flagByte h

/-- An entry has as many bytes as 11.6 gives its table. -/
theorem TableId.writeEntry_length (t : TableId) (e : t.Entry) : (t.writeEntry e).length = t.entryBytes := by
  cases t with
  | node | closing | opening | lamp | reportMask => rfl
  | params => simp [writeEntry, entryBytes, writeParams, bytes16, bytes32]
  | dpt => simp [writeEntry, entryBytes, writeDpt, bytes16]
  | sectionTable => simp [writeEntry, entryBytes, writeSection]
  | approach => simp [writeEntry, entryBytes, writeApproach, bytes16, bytes32]
  | barrier => simp [writeEntry, entryBytes, writeBarrier, bytes16]
  | scan => simp [writeEntry, entryBytes, writeScan, bytes16]

/-! ## A table of the tables -/

/-- The entries of a table. -/
def Tables.get : (t : TableId) → Tables → Vector t.Entry t.entries
  | .node, ts => ts.node
  | .params, ts => #v[ts.params]
  | .dpt, ts => ts.dpt
  | .sectionTable, ts => ts.sectionTable
  | .approach, ts => ts.approach
  | .closing, ts => ts.closing
  | .opening, ts => ts.opening
  | .barrier, ts => ts.barrier
  | .lamp, ts => ts.lamp
  | .scan, ts => ts.scan
  | .reportMask, ts => ts.reportMask

/-- The tables with the entries of one of them replaced. -/
def Tables.put : (t : TableId) → Vector t.Entry t.entries → Tables → Tables
  | .node, v, ts => { ts with node := v }
  | .params, v, ts => { ts with params := v[0] }
  | .dpt, v, ts => { ts with dpt := v }
  | .sectionTable, v, ts => { ts with sectionTable := v }
  | .approach, v, ts => { ts with approach := v }
  | .closing, v, ts => { ts with closing := v }
  | .opening, v, ts => { ts with opening := v }
  | .barrier, v, ts => { ts with barrier := v }
  | .lamp, v, ts => { ts with lamp := v }
  | .scan, v, ts => { ts with scan := v }
  | .reportMask, v, ts => { ts with reportMask := v }

section
variable (t : TableId) (ts : Tables)

@[simp] theorem Tables.get_put (v : Vector t.Entry t.entries) : (ts.put t v).get t = v := by
  cases t with
  | params =>
    have hone : ∀ v : Vector Params 1, #v[v[0]] = v := fun v => Vector.ext fun i hi => by
      obtain rfl : i = 0 := by omega
      rfl
    exact hone v
  | _ => rfl

theorem Tables.get_put_of_ne {t t' : TableId} (h : t' ≠ t) (v : Vector t.Entry t.entries) (ts : Tables) :
    (ts.put t v).get t' = ts.get t' := by
  cases t <;> cases t'
  case node.node | params.params | dpt.dpt | sectionTable.sectionTable | approach.approach | closing.closing
    | opening.opening | barrier.barrier | lamp.lamp | scan.scan | reportMask.reportMask => exact absurd rfl h
  all_goals rfl

@[simp] theorem Tables.put_put (v w : Vector t.Entry t.entries) : (ts.put t v).put t w = ts.put t w := by
  cases t <;> rfl

@[simp] theorem Tables.put_get : ts.put t (ts.get t) = ts := by
  cases t <;> rfl

/-- An entry is read from its bytes and put in its place. -/
theorem storeEntry_of_lt {t : TableId} {i : Nat} (h : i < t.entries) (b : List Byte) (ts : Tables) :
    storeEntry t i b ts = { value := ts.put t ((ts.get t).set i (t.readEntry i b).value)
                            clamped := (t.readEntry i b).clamped } := by
  cases t with
  | params =>
    obtain rfl : i = 0 := Nat.lt_one_iff.1 h
    rfl
  | _ => exact dif_pos h

/-- An index past the last stores nothing. -/
theorem storeEntry_of_le {t : TableId} {i : Nat} (h : t.entries ≤ i) (b : List Byte) (ts : Tables) :
    storeEntry t i b ts = { value := ts, clamped := false } := by
  cases t with
  | params => exact if_neg (Nat.ne_of_gt h)
  | _ => exact dif_neg (Nat.not_lt.2 h)

theorem tableEntries_eq : tableEntries t ts = (ts.get t).toList.map t.writeEntry := by
  cases t <;> rfl

theorem tableEntries_length : (tableEntries t ts).length = t.entries := by
  rw [tableEntries_eq, List.length_map, Vector.length_toList]

theorem length_of_mem_tableEntries {t : TableId} {ts : Tables} {e : List Byte} (he : e ∈ tableEntries t ts) :
    e.length = t.entryBytes := by
  rw [tableEntries_eq] at he
  obtain ⟨x, -, rfl⟩ := List.mem_map.1 he
  exact t.writeEntry_length x

end

/-! ## Tables whose entries lie in their ranges -/

/-- Every entry of every table lies in its ranges. -/
def Tables.InRange (ts : Tables) : Prop := ∀ (t : TableId) (i : Nat) (h : i < t.entries), t.InRange i (ts.get t)[i]

theorem Tables.InRange.put {ts : Tables} (hts : ts.InRange) {t : TableId} {v : Vector t.Entry t.entries}
    (hv : ∀ (i : Nat) (h : i < t.entries), t.InRange i v[i]) : (ts.put t v).InRange := by
  intro t' i hi
  by_cases ht : t' = t
  · subst ht
    rw [Tables.get_put]
    exact hv i hi
  · rw [Tables.get_put_of_ne ht]
    exact hts t' i hi

/-- One entry in its ranges takes a place. -/
theorem Tables.InRange.set {ts : Tables} (hts : ts.InRange) {t : TableId} {i : Nat} (hi : i < t.entries) {e : t.Entry}
    (he : t.InRange i e) : (ts.put t ((ts.get t).set i e)).InRange := by
  refine hts.put fun j hj => ?_
  rw [Vector.getElem_set]
  split
  next hij => exact hij ▸ he
  next => exact hts t j hj

theorem storeEntry_inRange {ts : Tables} (hts : ts.InRange) (t : TableId) (i : Nat) (b : List Byte) :
    (storeEntry t i b ts).value.InRange := by
  rcases Nat.lt_or_ge i t.entries with hi | hi
  · rw [storeEntry_of_lt hi]
    exact hts.set hi (t.readEntry_inRange i b)
  · rw [storeEntry_of_le hi]
    exact hts

theorem storeEntries_inRange (t : TableId) (entries : List (List Byte)) :
    ∀ (first : Nat) {ts : Tables}, ts.InRange → (storeEntries t first entries ts).value.InRange := by
  induction entries with
  | nil => exact fun _ _ hts => hts
  | cons e rest ih => exact fun first _ hts => ih (first + 1) (storeEntry_inRange hts t first e)

end Sys2Proof.Machine
end

section
/-! The entries read back and the image loaded back: obligation O52 (R125, R177, R179, R183, R187, R191). -/

namespace Sys2Proof.Machine

set_option Elab.async false

/-! ## Bytes as words (R183) -/

theorem wordBytes_of_bytes (b c : Byte) : wordBytes (b.zeroExtend 16 <<< 8 ||| c.zeroExtend 16) = [b, c] := by
  have hhigh : ((b.zeroExtend 16 <<< 8 ||| c.zeroExtend 16) >>> 8).truncate 8 = b := by
    ext i hi
    simp [hi, show 8 + i < 16 by omega, show i < 16 by omega]
  have hlow : (b.zeroExtend 16 <<< 8 ||| c.zeroExtend 16).truncate 8 = c := by
    ext i hi
    simp
  rw [wordBytes, hhigh, hlow]

theorem wordsOf_length (bs : List Byte) : (wordsOf bs).length = (bs.length + 1) / 2 := by
  induction bs using wordsOf.induct with
  | case1 => rfl
  | case2 b => simp [wordsOf]
  | case3 b c rest ih =>
    rw [wordsOf, List.length_cons, ih, List.length_cons, List.length_cons]
    omega

/-- An even count of bytes is not padded, so its words give it back. -/
theorem flatMap_wordBytes_wordsOf (bs : List Byte) (h : bs.length % 2 = 0) : (wordsOf bs).flatMap wordBytes = bs := by
  induction bs using wordsOf.induct with
  | case1 => rfl
  | case2 b => exact absurd h (by simp)
  | case3 b c rest ih =>
    have hrest : rest.length % 2 = 0 := by
      rw [List.length_cons, List.length_cons] at h
      omega
    rw [wordsOf, List.flatMap_cons, wordBytes_of_bytes, ih hrest]
    rfl

/-! ## The words of a table in the image (R191) -/

theorem flatten_tableEntries_length (t : TableId) (ts : Tables) :
    (tableEntries t ts).flatten.length = t.entries * t.entryBytes := by
  rw [length_flatten_of_length fun _ he => length_of_mem_tableEntries he, tableEntries_length]

theorem tableWords_length (t : TableId) (ts : Tables) : (tableWords t ts).length = t.imageLength := by
  rw [tableWords, wordsOf_length, flatten_tableEntries_length, TableId.imageLength]

/-- Every table fills whole words. -/
theorem flatMap_wordBytes_tableWords (t : TableId) (ts : Tables) :
    (tableWords t ts).flatMap wordBytes = (tableEntries t ts).flatten := by
  refine flatMap_wordBytes_wordsOf _ ?_
  rw [flatten_tableEntries_length]
  cases t <;> rfl

/-- The words of the image before its check word. -/
def imageBody (ts : Tables) : List Word := 426 :: 1 :: TableId.all.flatMap (tableWords · ts)

theorem imageOf_eq (ts : Tables) : imageOf ts = imageBody ts ++ [-(wordSum (imageBody ts))] := rfl

theorem flatMap_tableWords_length (tables : List TableId) (ts : Tables) :
    (tables.flatMap (tableWords · ts)).length = (tables.map TableId.imageLength).sum := by
  simp [List.length_flatMap, tableWords_length]

theorem imageOf_length (ts : Tables) : (imageOf ts).length = 426 := by
  rw [imageOf_eq, List.length_append, imageBody, List.length_cons, List.length_cons, flatMap_tableWords_length]
  rfl

/-- The tables before one take up the words from the second up to its first. -/
theorem TableId.firstWord_eq (t : TableId) :
    t.firstWord = ((TableId.all.take t.number).map TableId.imageLength).sum + 2 := by
  cases t <;> rfl

theorem TableId.all_split (t : TableId) :
    TableId.all = TableId.all.take t.number ++ t :: TableId.all.drop (t.number + 1) := by
  cases t <;> rfl

/-- The words of each table stand in the image from its first word on (R191). -/
theorem imageOf_tableWords (t : TableId) (ts : Tables) :
    ((imageOf ts).drop t.firstWord).take t.imageLength = tableWords t ts := by
  let before : List Word := 426 :: 1 :: (TableId.all.take t.number).flatMap (tableWords · ts)
  let behind : List Word := (TableId.all.drop (t.number + 1)).flatMap (tableWords · ts)
  have hbefore : before.length = t.firstWord := by
    rw [t.firstWord_eq, ← flatMap_tableWords_length _ ts]
    rfl
  have hbody : imageBody ts = before ++ (tableWords t ts ++ behind) := by
    rw [imageBody, t.all_split, List.flatMap_append, List.flatMap_cons]
    rfl
  rw [imageOf_eq, hbody, List.append_assoc, List.append_assoc, ← hbefore, List.drop_left, ← tableWords_length t ts,
    List.take_left]

/-- The check word makes the sum of the image 0 (R183). -/
theorem imagePasses_imageOf (ts : Tables) : imagePasses (imageOf ts) = true := by
  have hsum : wordSum (imageOf ts) = 0 := by
    rw [imageOf_eq, wordSum, List.foldl_append]
    exact BitVec.add_right_neg _
  exact (imagePasses_iff _).2 ⟨rfl, rfl, (wordSum_eq_zero_iff _).1 hsum⟩

/-! ## The image loaded (R187, R191) -/

/-- Where the places before the first hold what a table holds there, storing its other entries makes the table it. -/
theorem storeEntries_rest {t : TableId} {ts : Tables} (hts : ts.InRange) :
    ∀ (n first : Nat) (u : Tables), first + n = t.entries →
      (∀ (j : Nat) (hj : j < t.entries), j < first → (u.get t)[j] = (ts.get t)[j]) →
      (storeEntries t first ((tableEntries t ts).drop first) u).value = u.put t (ts.get t)
  | 0, first, u, hn, hu => by
    have hall : u.get t = ts.get t := Vector.ext fun j hj => hu j hj (by omega)
    rw [List.drop_eq_nil_of_le (by rw [tableEntries_length]; omega), ← hall, Tables.put_get]
    rfl
  | n + 1, first, u, hn, hu => by
    have hfirst : first < t.entries := by omega
    have hdrop : (tableEntries t ts).drop first =
        t.writeEntry (ts.get t)[first] :: (tableEntries t ts).drop (first + 1) := by
      rw [List.drop_eq_getElem_cons (by rw [tableEntries_length]; exact hfirst)]
      simp [tableEntries_eq]
    have hstored : storeEntry t first (t.writeEntry (ts.get t)[first]) u =
        { value := u.put t ((u.get t).set first (ts.get t)[first]), clamped := false } := by
      rw [storeEntry_of_lt hfirst, TableId.readEntry_writeEntry (hts t first hfirst)]
    rw [hdrop, storeEntries, hstored]
    refine (storeEntries_rest hts n (first + 1) _ (by omega) fun j hj hlt => ?_).trans (Tables.put_put ..)
    rw [Tables.get_put, Vector.getElem_set]
    split
    next hij => simp only [hij]
    next hne => exact hu j hj (by omega)

theorem storeEntries_tableEntries {ts : Tables} (hts : ts.InRange) (t : TableId) (u : Tables) :
    (storeEntries t 0 (tableEntries t ts) u).value = u.put t (ts.get t) :=
  storeEntries_rest hts t.entries 0 u (Nat.zero_add _) fun _ _ hlt => absurd hlt (Nat.not_lt_zero _)

/-- The tables taken over one after another are all of them. -/
theorem foldl_put_get (ts u : Tables) : TableId.all.foldl (fun u t => u.put t (ts.get t)) u = ts := by
  simp only [TableId.all, List.foldl_cons, List.foldl_nil, Tables.put, Tables.get]
  rfl

/-- Tables whose entries lie in their ranges come back from their image. -/
theorem loadImage_imageOf {ts : Tables} (hts : ts.InRange) : loadImage (imageOf ts) = ts := by
  have htable (u : Tables) (t : TableId) :
      (storeEntries t 0 (cutEntries t.entryBytes t.entries
        (((imageOf ts).drop t.firstWord).take t.imageLength |>.flatMap wordBytes)) u).value = u.put t (ts.get t) := by
    have hcut : cutEntries t.entryBytes t.entries (tableEntries t ts).flatten = tableEntries t ts := by
      rw [← tableEntries_length t ts]
      exact cutEntries_flatten fun _ he => length_of_mem_tableEntries he
    rw [imageOf_tableWords, flatMap_wordBytes_tableWords, hcut, storeEntries_tableEntries hts]
  simp only [loadImage, htable]
  exact foldl_put_get ts _

/-! ## Which tables lie in their ranges -/

theorem inRange_of_replicate {t : TableId} {v : Vector t.Entry t.entries} {e : t.Entry}
    (hv : v = Vector.replicate t.entries e) (he : ∀ i, t.InRange i e) (i : Nat) (h : i < t.entries) :
    t.InRange i v[i] := by
  subst hv
  rw [Vector.getElem_replicate]
  exact he i

/-- The blank tables have every ranged field at its lowest value (R174). -/
theorem blank_inRange : Tables.blank.InRange := by
  intro t
  cases t with
  | node => exact inRange_of_replicate (t := .node) rfl fun _ => ⟨by decide⟩
  | params =>
    intro i hi
    obtain rfl : i = 0 := Nat.lt_one_iff.1 hi
    change Tables.blank.params.InRange
    constructor <;> decide
  | dpt => exact inRange_of_replicate (t := .dpt) rfl fun _ => by constructor <;> decide
  | sectionTable => exact inRange_of_replicate (t := .sectionTable) rfl fun _ => by constructor <;> decide
  | approach => exact inRange_of_replicate (t := .approach) rfl fun _ => by constructor <;> decide
  | closing => exact inRange_of_replicate (t := .closing) rfl fun _ => by constructor <;> decide
  | opening => exact inRange_of_replicate (t := .opening) rfl fun _ => by constructor <;> decide
  | barrier => exact inRange_of_replicate (t := .barrier) rfl fun _ => by constructor <;> decide
  | lamp => exact inRange_of_replicate (t := .lamp) rfl fun _ => ⟨by decide⟩
  | scan => exact inRange_of_replicate (t := .scan) rfl fun _ => by constructor <;> decide
  | reportMask => exact inRange_of_replicate (t := .reportMask) rfl fun _ _ => rfl

theorem loadImage_inRange (words : List Word) : (loadImage words).InRange :=
  List.foldlRecOn _ _ blank_inRange fun _ hts t _ => storeEntries_inRange t _ 0 hts

/-- The table write of a calibration whose figures lie in their ranges (R125). -/
theorem BarrierEntry.InRange.calibrated {e : BarrierEntry} (h : e.InRange) {c : CalBarrier} {travelUp : Nat}
    (hup : c.upCode ≤ 4095) (hdown : c.downCode ≤ 4095) (hpeak : c.peakCurrent ≤ 4095)
    (htravelDown : 2000 ≤ c.travelDown ∧ c.travelDown ≤ 20000) (htravelUp : 2000 ≤ travelUp ∧ travelUp ≤ 20000) :
    (e.calibrated c travelUp).InRange :=
  { h with
    upCode := ⟨Nat.zero_le _, hup⟩
    downCode := ⟨Nat.zero_le _, hdown⟩
    peakCurrent := ⟨Nat.zero_le _, hpeak⟩
    travelDown := htravelDown
    travelUp := htravelUp }

/-- What was stored of any bytes is read out and stored again as it was, in any tables (R177, R179). -/
theorem storeEntry_again {t : TableId} {i : Nat} (h : i < t.entries) (bytes : List Byte) (u : Tables) :
    storeEntry t i (t.writeEntry (t.readEntry i bytes).value) u =
      { value := u.put t ((u.get t).set i (t.readEntry i bytes).value), clamped := false } := by
  rw [storeEntry_of_lt h, TableId.readEntry_writeEntry (t.readEntry_inRange i bytes)]

/-- Settles O52: an entry by its table, and the images by the ranges their tables keep to. -/
theorem tablesReadBackAndLoadBack : Obligations.TablesReadBackAndLoadBack := by
  have himage {ts : Tables} (hts : ts.InRange) : imagePasses (imageOf ts) = true ∧ loadImage (imageOf ts) = ts :=
    ⟨imagePasses_imageOf ts, loadImage_imageOf hts⟩
  refine ⟨?_, ?_, ?_, ?_, fun store => ⟨rfl, imagePasses_readStore_silent store⟩⟩
  · intro t i bytes ts out hi _ stored hout
    have hstored : stored = ts.put t ((ts.get t).set i (t.readEntry i bytes).value) :=
      congrArg Field.value (storeEntry_of_lt hi bytes ts)
    have hagain (u : Tables) := storeEntry_again hi bytes u
    obtain rfl : t.writeEntry (t.readEntry i bytes).value = out := by
      rw [hstored, tableEntries_eq, Tables.get_put] at hout
      simpa [hi] using hout
    rw [hagain, hagain, hstored]
    simp [TableId.writeEntry_length]
  · intro words _ ts
    exact ⟨imageOf_length ts, imagePasses_imageOf ts, loadImage_imageOf (loadImage_inRange words),
      fun t => imageOf_tableWords t ts⟩
  · exact fun words t first entries _ _ => himage (storeEntries_inRange t entries first (loadImage_inRange words))
  · intro words i c travelUp _ hup hdown hpeak hdown0 hdown1 hup0 hup1
    have hloaded := loadImage_inRange words
    have hbarrier : (loadImage words).barrier[i].InRange := hloaded .barrier i i.isLt
    exact himage (hloaded.set (t := .barrier) i.isLt
      (hbarrier.calibrated hup hdown hpeak ⟨hdown0, hdown1⟩ ⟨hup0, hup1⟩))

end Sys2Proof.Machine
end
